-- ==== Sys2Proof/Word.lean ====
section
/-! DEFINITION. Names of the machine's word types and unit numbers (00 R5, R6, R10). -/
namespace Sys2Proof

/-- One byte of memory, of a record or of a frame (R6). -/
abbrev Byte := BitVec 8

/-- A scalar register or a 32-bit host word (05 R171). -/
abbrev W32 := BitVec 32

/-- A 64-bit register or an instruction word (05 R166). -/
abbrev W64 := BitVec 64

/-- An address register, a tick or a vat address (05 R171). -/
abbrev W48 := BitVec 48

/-- A vat, numbered die * 160 + number (02 R68): the 320 vats that exist. -/
abbrev Vat := Fin 320

/-- A fabric port, B0-B15, U0-U15, X0-X1 in this order (00, Conventions). -/
abbrev PortId := Fin 34

/-- A context, CTX0-CTX15. -/
abbrev CtxId := Fin 16

/-- A table bank (08 R306). -/
abbrev BankId := Fin 2

end Sys2Proof
end

