-- ==== Sys2Proof/Syntax.lean ====
section
/-! DEFINITION. The commands of the module: one constructor per row of spec/opcode_table.json, with the row's operands.
The table gives the rows no bits; the operands are what the rule of the row says arrives with the step. -/
namespace Sys2Proof

/-- A received flow unit that has passed its CRC: the 8-byte header and the payload bytes (09 R350, R351). -/
structure RxUnit where
  hdr : W64
  pay : List Byte
  deriving DecidableEq, Repr

/-- A skim message: its 8-byte header and its body (09 R369). -/
structure SkimMsg where
  hdr  : W64
  body : List Byte
  deriving DecidableEq, Repr

/-- The queued engines of a vat (06 R204); the vector engine has no queue. -/
inductive Engine where
  | loader | array | sparse | transfer
  deriving DecidableEq, Repr

/-- The four power domains (12 R455). -/
inductive Domain where
  | compute | fabric | memory | host
  deriving DecidableEq, Repr

/-- What the firmware's reconstruction of the identity key gave (15 R549). -/
inductive IdentityOutcome where
  | ready | pufFailed | mismatch | certInvalid
  deriving DecidableEq, Repr

/-- The commands. Vat instructions carry the vat and bits [55:0] of the instruction word; the opcode byte is the row's (05 R166). -/
inductive Instr where
  /-- GRID_TICK (R15). -/
  | gridTick
  /-- FTIME_SYNC_SEND (R375). -/
  | ftimeSyncSend
  /-- TIME (R16). -/
  | time (p : PortId) (u : RxUnit)
  /-- HTIME_STEP (R20). -/
  | htimeStep (ns : W64)
  /-- ATIME_CORRECTION (R21). -/
  | atimeCorrection (err : Int)
  /-- SNAP_TAKE (R22). -/
  | snapTake (w : W32)
  /-- PTM_RESPONSE (R469). -/
  | ptmResponse
  /-- SELECTOR (R27). -/
  | selector (p : PortId) (m : SkimMsg)
  /-- HOLD_REQUEST (R34). -/
  | holdRequest (p : PortId) (f : BitVec 40)
  /-- HOLD_RELEASE (R40). -/
  | holdRelease (c : CtxId)
  /-- EXTENSION_CHECK (R45). -/
  | extensionCheck (c : CtxId)
  /-- SOFT_RESUME_WINDOW (R51). -/
  | softResumeWindow (c : CtxId)
  /-- LAUNCH_ARM_BARRIER (R55). -/
  | launchArmBarrier (c : CtxId)
  /-- LAUNCH_ARM_FTIME (R56). -/
  | launchArmFtime (c : CtxId)
  /-- LAUNCH_ARM_IDLE (R54). -/
  | launchArmIdle (c : CtxId)
  /-- COMPARE_FIRE (R58). -/
  | compareFire (n : Fin 16)
  /-- TIN_EDGE (R61). -/
  | tinEdge (pin : Fin 2) (rising : Bool)
  /-- TPULSE_END (R64). -/
  | tpulseEnd (pin : Fin 4)
  /-- OWNER_WRITE (R60). -/
  | ownerWrite (ix : BitVec 16) (sub : Byte) (client : Byte) (value : Byte)
  /-- LATCHED_READ (R9). -/
  | latchedRead (off : BitVec 24)
  /-- STAGED_HALF_WRITE (R62). -/
  | stagedHalfWrite (off : BitVec 24) (value : W32)
  /-- REGISTER_WRITE (R8). -/
  | registerWrite (off : BitVec 24) (wide : Bool) (value : W64)
  /-- DROOP_STRETCH (R75). -/
  | droopStretch (v : Vat) (consecutive : Bool)
  /-- ADAPT_RECOVER (R76). -/
  | adaptRecover (v : Vat)
  /-- TEMPERATURE_READ (R77). -/
  | temperatureRead (v : Vat) (degrees : Int)
  /-- ISLAND_GATE (R79). -/
  | islandGate (v : Vat)
  /-- ISLAND_UNGATE (R79). -/
  | islandUngate (c : CtxId)
  /-- PAIL_READY_MARK (R86). -/
  | pailReadyMark (v : Vat)
  /-- TICK_WAIT_RELEASE (R190). -/
  | tickWaitRelease (v : Vat)
  /-- STIME_READ_RESULT (R83). -/
  | stimeReadResult (v : Vat)
  /-- TOKEN_REQUEST (R93). -/
  | tokenRequest (v : Vat)
  /-- TOKEN_GRACE_EXPIRY (R95). -/
  | tokenGraceExpiry (c : CtxId)
  /-- LANE_WAKE_START (R152). -/
  | laneWakeStart (p : PortId)
  /-- NOP (R181). -/
  | nop (v : Vat) (w : BitVec 56)
  /-- ADD (R181). -/
  | add (v : Vat) (w : BitVec 56)
  /-- SUB (R181). -/
  | sub (v : Vat) (w : BitVec 56)
  /-- MUL (R181). -/
  | mul (v : Vat) (w : BitVec 56)
  /-- MULHU (R181). -/
  | mulhu (v : Vat) (w : BitVec 56)
  /-- MULHS (R181). -/
  | mulhs (v : Vat) (w : BitVec 56)
  /-- AND (R181). -/
  | and (v : Vat) (w : BitVec 56)
  /-- OR (R181). -/
  | or (v : Vat) (w : BitVec 56)
  /-- XOR (R181). -/
  | xor (v : Vat) (w : BitVec 56)
  /-- SHL (R181). -/
  | shl (v : Vat) (w : BitVec 56)
  /-- SHR (R181). -/
  | shr (v : Vat) (w : BitVec 56)
  /-- SRA (R181). -/
  | sra (v : Vat) (w : BitVec 56)
  /-- MIN (R181). -/
  | min (v : Vat) (w : BitVec 56)
  /-- MAX (R181). -/
  | max (v : Vat) (w : BitVec 56)
  /-- MINU (R181). -/
  | minu (v : Vat) (w : BitVec 56)
  /-- MAXU (R181). -/
  | maxu (v : Vat) (w : BitVec 56)
  /-- CMP (R182). -/
  | cmp (v : Vat) (w : BitVec 56)
  /-- PLOG (R181). -/
  | plog (v : Vat) (w : BitVec 56)
  /-- AADD (R181). -/
  | aadd (v : Vat) (w : BitVec 56)
  /-- AMOV (R181). -/
  | amov (v : Vat) (w : BitVec 56)
  /-- AGETL (R181). -/
  | agetl (v : Vat) (w : BitVec 56)
  /-- AGETH (R181). -/
  | ageth (v : Vat) (w : BitVec 56)
  /-- MOVI (R183). -/
  | movi (v : Vat) (w : BitVec 56)
  /-- ADDI (R183). -/
  | addi (v : Vat) (w : BitVec 56)
  /-- ANDI (R183). -/
  | andi (v : Vat) (w : BitVec 56)
  /-- ORI (R183). -/
  | ori (v : Vat) (w : BitVec 56)
  /-- XORI (R183). -/
  | xori (v : Vat) (w : BitVec 56)
  /-- SHLI (R183). -/
  | shli (v : Vat) (w : BitVec 56)
  /-- SHRI (R183). -/
  | shri (v : Vat) (w : BitVec 56)
  /-- SRAI (R183). -/
  | srai (v : Vat) (w : BitVec 56)
  /-- CMPI (R183). -/
  | cmpi (v : Vat) (w : BitVec 56)
  /-- AMOVI (R183). -/
  | amovi (v : Vat) (w : BitVec 56)
  /-- AMOVH (R183). -/
  | amovh (v : Vat) (w : BitVec 56)
  /-- AADDI (R183). -/
  | aaddi (v : Vat) (w : BitVec 56)
  /-- LD (R184). -/
  | ld (v : Vat) (w : BitVec 56)
  /-- ST (R184). -/
  | st (v : Vat) (w : BitVec 56)
  /-- LDA (R184). -/
  | lda (v : Vat) (w : BitVec 56)
  /-- STA (R184). -/
  | sta (v : Vat) (w : BitVec 56)
  /-- BR (R185). -/
  | br (v : Vat) (w : BitVec 56)
  /-- BRL (R185). -/
  | brl (v : Vat) (w : BitVec 56)
  /-- JMPA (R185). -/
  | jmpa (v : Vat) (w : BitVec 56)
  /-- LOOP (R186). -/
  | loop (v : Vat) (w : BitVec 56)
  /-- HALT (R187). -/
  | halt (v : Vat) (w : BitVec 56)
  /-- MFSR (R188). -/
  | mfsr (v : Vat) (w : BitVec 56)
  /-- EVT (R189). -/
  | evt (v : Vat) (w : BitVec 56)
  /-- TWAIT (R190). -/
  | twait (v : Vat) (w : BitVec 56)
  /-- RDST (R192). -/
  | rdst (v : Vat) (w : BitVec 56)
  /-- PREADY (R193). -/
  | pready (v : Vat) (w : BitVec 56)
  /-- SEL (R194). -/
  | sel (v : Vat) (w : BitVec 56)
  /-- SADD (R197). -/
  | sadd (v : Vat) (w : BitVec 56)
  /-- SSET (R197). -/
  | sset (v : Vat) (w : BitVec 56)
  /-- SRD (R197). -/
  | srd (v : Vat) (w : BitVec 56)
  /-- SWAIT (R198). -/
  | swait (v : Vat) (w : BitVec 56)
  /-- SCLAIM (R198). -/
  | sclaim (v : Vat) (w : BitVec 56)
  /-- BARR (R199). -/
  | barr (v : Vat) (w : BitVec 56)
  /-- WATCH (R200). -/
  | watch (v : Vat) (w : BitVec 56)
  /-- UNWATCH (R200). -/
  | unwatch (v : Vat) (w : BitVec 56)
  /-- WAIT_NOTIFICATION (R198). -/
  | waitNotification (v : Vat)
  /-- SYNC_FAULT_NOTICE (R196). -/
  | syncFaultNotice (v : Vat)
  /-- WCLR (R224). -/
  | wclr (v : Vat) (w : BitVec 56)
  /-- MMA (R223). -/
  | mma (v : Vat) (w : BitVec 56)
  /-- TLD (R221). -/
  | tld (v : Vat) (w : BitVec 56)
  /-- WPADD (R225). -/
  | wpadd (v : Vat) (w : BitVec 56)
  /-- WPACK (R226). -/
  | wpack (v : Vat) (w : BitVec 56)
  /-- WCVT (R227). -/
  | wcvt (v : Vat) (w : BitVec 56)
  /-- WTOV (R228). -/
  | wtov (v : Vat) (w : BitVec 56)
  /-- WSTAT (R229). -/
  | wstat (v : Vat) (w : BitVec 56)
  /-- VADD (R231). -/
  | vadd (v : Vat) (w : BitVec 56)
  /-- VSUB (R231). -/
  | vsub (v : Vat) (w : BitVec 56)
  /-- VMUL (R231). -/
  | vmul (v : Vat) (w : BitVec 56)
  /-- VFMA (R231). -/
  | vfma (v : Vat) (w : BitVec 56)
  /-- VMIN (R232). -/
  | vmin (v : Vat) (w : BitVec 56)
  /-- VMAX (R232). -/
  | vmax (v : Vat) (w : BitVec 56)
  /-- VCMP (R232). -/
  | vcmp (v : Vat) (w : BitVec 56)
  /-- VSEL (R231). -/
  | vsel (v : Vat) (w : BitVec 56)
  /-- VCVT (R233). -/
  | vcvt (v : Vat) (w : BitVec 56)
  /-- VFUN (R234). -/
  | vfun (v : Vat) (w : BitVec 56)
  /-- VRED (R235). -/
  | vred (v : Vat) (w : BitVec 56)
  /-- VLOG (R231). -/
  | vlog (v : Vat) (w : BitVec 56)
  /-- VBCAST (R231). -/
  | vbcast (v : Vat) (w : BitVec 56)
  /-- VEXT (R231). -/
  | vext (v : Vat) (w : BitVec 56)
  /-- VPERM (R231). -/
  | vperm (v : Vat) (w : BitVec 56)
  /-- VLD (R236). -/
  | vld (v : Vat) (w : BitVec 56)
  /-- VST (R236). -/
  | vst (v : Vat) (w : BitVec 56)
  /-- SPCMP (R238). -/
  | spcmp (v : Vat) (w : BitVec 56)
  /-- SPEXP (R238). -/
  | spexp (v : Vat) (w : BitVec 56)
  /-- SPGATH (R239). -/
  | spgath (v : Vat) (w : BitVec 56)
  /-- SPSCAT (R239). -/
  | spscat (v : Vat) (w : BitVec 56)
  /-- TOPK (R240). -/
  | topk (v : Vat) (w : BitVec 56)
  /-- DISP (R241). -/
  | disp (v : Vat) (w : BitVec 56)
  /-- XCOPY (R244). -/
  | xcopy (v : Vat) (w : BitVec 56)
  /-- XFILL (R245). -/
  | xfill (v : Vat) (w : BitVec 56)
  /-- XEXP (R246). -/
  | xexp (v : Vat) (w : BitVec 56)
  /-- XCHURN (R247). -/
  | xchurn (v : Vat) (w : BitVec 56)
  /-- XGATH (R248). -/
  | xgath (v : Vat) (w : BitVec 56)
  /-- XSTAT (R249). -/
  | xstat (v : Vat) (w : BitVec 56)
  /-- ENGINE_COMPLETE (R204). -/
  | engineComplete (v : Vat) (e : Engine)
  /-- CHANNEL_SLOT (R262). -/
  | channelSlot (ch : Fin 64)
  /-- GRANULE_COMPLETE (R272). -/
  | granuleComplete (ch : Fin 64) (errs : List Byte)
  /-- AUTONOMOUS_REFRESH (R277). -/
  | autonomousRefresh (die : Fin 2)
  /-- HOT_REFRESH_HOLD (R278). -/
  | hotRefreshHold (die : Fin 2)
  /-- DRAM_TEMPERATURE_POLL (R252). -/
  | dramTemperaturePoll (pkg : Fin 16) (temp : Int) (band : Byte) (beyond : Bool)
  /-- HOST_DRAM_READ (R284). -/
  | hostDramRead (addr : BitVec 39) (len : Nat) (errs : List Byte)
  /-- HOST_DRAM_WRITE (R286). -/
  | hostDramWrite (addr : BitVec 39) (data : List Byte) (errs : List Byte)
  /-- HOST_SRAM_READ (R474). -/
  | hostSramRead (addr : BitVec 31) (len : Nat)
  /-- HOST_SRAM_WRITE (R474). -/
  | hostSramWrite (addr : BitVec 31) (data : List Byte)
  /-- SRAM_CLEAR_DONE (R590). -/
  | sramClearDone
  /-- BANK_OPEN (R306). -/
  | bankOpen (c : CtxId) (b : BankId)
  /-- BANK_COMMIT (R307). -/
  | bankCommit (c : CtxId) (b : BankId)
  /-- BANK_DISCARD (R306). -/
  | bankDiscard (c : CtxId) (b : BankId)
  /-- DATA (R315). -/
  | data (p : PortId) (u : RxUnit)
  /-- LANDING_COMPLETE (R318). -/
  | landingComplete (c : CtxId)
  /-- SWITCH_ARM_TIMED (R326). -/
  | switchArmTimed (c : CtxId)
  /-- SWITCH_ARM_CANCEL (R330). -/
  | switchArmCancel (c : CtxId)
  /-- FENCE_WRITE (R333). -/
  | fenceWrite (c : CtxId) (off : Nat) (data : List Byte)
  /-- FABRIC_RESET_REQUEST (R338). -/
  | fabricResetRequest
  /-- FABRIC_RESET_FORCE (R338). -/
  | fabricResetForce
  /-- SIGNAL_DETECT (R344). -/
  | signalDetect (p : PortId)
  /-- EQUALIZE_DONE (R344). -/
  | equalizeDone (p : PortId)
  /-- LOCK_DONE (R344). -/
  | lockDone (p : PortId) (lanes : Byte)
  /-- PARAM (R345). -/
  | param (p : PortId) (u : RxUnit)
  /-- DELAY_REQ (R346). -/
  | delayReq (p : PortId) (u : RxUnit)
  /-- DELAY_RESP (R346). -/
  | delayResp (p : PortId) (u : RxUnit)
  /-- TRAINING_RETRY (R344). -/
  | trainingRetry (p : PortId)
  /-- RETRAIN_REQ (R348). -/
  | retrainReq (p : PortId) (u : RxUnit)
  /-- RESET_REQ (R362). -/
  | resetReq (p : PortId) (u : RxUnit)
  /-- RETRAIN_START (R349). -/
  | retrainStart (p : PortId)
  /-- RETRAIN_TIMEOUT (R349). -/
  | retrainTimeout (p : PortId)
  /-- IDLE (R352). -/
  | idle (p : PortId) (u : RxUnit)
  /-- SLEEP (R376). -/
  | sleep (p : PortId) (u : RxUnit)
  /-- UNIT_CRC_FAIL (R355). -/
  | unitCrcFail (p : PortId)
  /-- NAK_TIMER (R355). -/
  | nakTimer (p : PortId)
  /-- ACK_DUE (R354). -/
  | ackDue (p : PortId)
  /-- LOSS_OF_SIGNAL (R362). -/
  | lossOfSignal (p : PortId)
  /-- LINK_CTRL_RETRAIN (R348). -/
  | linkCtrlRetrain (p : PortId)
  /-- LINK_CTRL_RESET (R362). -/
  | linkCtrlReset (p : PortId)
  /-- LINK_CTRL_WAKE_PEER (R379). -/
  | linkCtrlWakePeer (p : PortId)
  /-- CREDIT_TIMEOUT (R367). -/
  | creditTimeout (p : PortId)
  /-- CREDIT_RETURN_DUE (R365). -/
  | creditReturnDue (p : PortId)
  /-- BCAST_AGE_OUT (R371). -/
  | bcastAgeOut
  /-- RATE_WINDOW (R372). -/
  | rateWindow
  /-- SKIM_REQ_TIMEOUT (R373). -/
  | skimReqTimeout (tag : BitVec 12)
  /-- COUNTER_OPERATION (R388). -/
  | counterOperation (p : PortId) (m : SkimMsg)
  /-- BARRIER_ARRIVAL (R398). -/
  | barrierArrival (p : PortId) (m : SkimMsg)
  /-- BARRIER_RELEASE (R398). -/
  | barrierRelease (p : PortId) (m : SkimMsg)
  /-- PROXIED_HOST_REQUEST (R485). -/
  | proxiedHostRequest (p : PortId) (m : SkimMsg)
  /-- DICTIONARY_REQUEST (R518). -/
  | dictionaryRequest (p : PortId) (m : SkimMsg)
  /-- WATCH_NOTIFICATION (R488). -/
  | watchNotification (p : PortId) (m : SkimMsg)
  /-- FAULT_NOTICE (R415). -/
  | faultNotice (p : PortId) (m : SkimMsg)
  /-- REPLY (R373). -/
  | reply (p : PortId) (m : SkimMsg)
  /-- STATUS_COMPLETION (R373). -/
  | statusCompletion (p : PortId) (m : SkimMsg)
  /-- ECHO (R372). -/
  | echo (p : PortId) (m : SkimMsg)
  /-- WAKE_PATTERN (R379). -/
  | wakePattern (p : PortId)
  /-- WAKE_BURST (R379). -/
  | wakeBurst (p : PortId)
  /-- WAKE_TIMEOUT (R379). -/
  | wakeTimeout (p : PortId)
  /-- SP_OP_ADD (R401). -/
  | spOpAdd (w : W64)
  /-- SP_OP_SET (R401). -/
  | spOpSet (w : W64)
  /-- SP_OP_ARRIVE (R401). -/
  | spOpArrive (w : W64)
  /-- SP_RDREQ (R402). -/
  | spRdreq (w : W32)
  /-- SP_WATCH (R403). -/
  | spWatch (w : W64)
  /-- SP_UNWATCH (R394). -/
  | spUnwatch (w : W32)
  /-- CTX_RESET_RESET (R404). -/
  | ctxResetReset (c : CtxId)
  /-- CTX_RESET_PREEMPT (R404). -/
  | ctxResetPreempt (c : CtxId)
  /-- DEBUG_COUNTER_SET (R406). -/
  | debugCounterSet (client : Byte) (body : W64)
  /-- DEBUG_BARRIER_RELEASE (R406). -/
  | debugBarrierRelease (client : Byte) (body : BitVec 16)
  /-- EVENT_RESUME (R422). -/
  | eventResume (data : List Byte)
  /-- LOCKSTEP_ENABLE (R429). -/
  | lockstepEnable (on : Bool)
  /-- LOCKSTEP_SIGNATURE (R431). -/
  | lockstepSignature (u : RxUnit)
  /-- LOCKSTEP_TIMEOUT (R431). -/
  | lockstepTimeout
  /-- PERTURB_ARM (R436). -/
  | perturbArm (client : Byte) (n : Fin 16)
  /-- PERTURB_DISARM (R436). -/
  | perturbDisarm (client : Byte) (n : Fin 16)
  /-- PERTURB_ENABLE (R438). -/
  | perturbEnable (client : Byte) (on : Bool)
  /-- PERTURB_INJECT (R437). -/
  | perturbInject (n : Fin 16)
  /-- POWER_SAMPLE (R439). -/
  | powerSample (watts : BitVec 16)
  /-- BUDGET_W (R440). -/
  | budgetW (client : Byte) (watts : BitVec 16)
  /-- BUDGET_REPORT (R445). -/
  | budgetReport (c : CtxId) (body : W32)
  /-- BUDGET_REPORT_RETRY (R445). -/
  | budgetReportRetry (c : CtxId)
  /-- THERMAL_LOOP (R450). -/
  | thermalLoop (tmax : Int) (kind : Byte)
  /-- THERMAL_TRIP (R451). -/
  | thermalTrip (kind : Byte) (index : BitVec 16) (temp : Int) (limit : Int)
  /-- THERMAL_SHUTDOWN (R451). -/
  | thermalShutdown
  /-- PFAIL_N (R452). -/
  | pfailN (vin iin bulk : BitVec 16)
  /-- UNDER_VOLTAGE (R452). -/
  | underVoltage (vin iin bulk : BitVec 16) (pfail : Bool)
  /-- POWER_FAIL_COMMIT_DONE (R452). -/
  | powerFailCommitDone
  /-- BULK_DEPLETED (R452). -/
  | bulkDepleted
  /-- INPUT_RESTORED (R453). -/
  | inputRestored (micros : W32)
  /-- VOTE_OWN (R457). -/
  | voteOwn (client : Byte) (w : W32)
  /-- DOMAIN_FALL (R459). -/
  | domainFall (d : Domain)
  /-- DOMAIN_TRANSITION_DONE (R459). -/
  | domainTransitionDone (d : Domain)
  /-- OFF_REQUEST (R462). -/
  | offRequest (client : Byte)
  /-- WAKE_N (R573). -/
  | wakeN
  /-- WAKE_HOLD_EXPIRY (R466). -/
  | wakeHoldExpiry
  /-- PCIE_FLR (R471). -/
  | pcieFlr
  /-- PCIE_HOT_RESET (R471). -/
  | pcieHotReset
  /-- PCIE_LINK_LOST (R471). -/
  | pcieLinkLost
  /-- PERST_N (R574). -/
  | perstN (low : Bool)
  /-- MSIX_UNMASK (R475). -/
  | msixUnmask (n : Fin 64)
  /-- MB_GO (R478). -/
  | mbGo (m : Fin 8)
  /-- MB_DATA_WRITE (R478). -/
  | mbDataWrite (m : Fin 8) (i : Fin 16) (value : W32)
  /-- MB_TAKE (R478). -/
  | mbTake (m : Fin 8)
  /-- MB_ACKNOWLEDGE (R478). -/
  | mbAcknowledge (m : Fin 8) (code : BitVec 16)
  /-- MB_ACK_READ (R476). -/
  | mbAckRead (m : Fin 8)
  /-- MB_HACK (R477). -/
  | mbHack (m : Fin 8) (w : W32)
  /-- MP_MAILBOX_POST (R479). -/
  | mpMailboxPost (m : Fin 8) (words : List W32)
  /-- DB_IN (R481). -/
  | dbIn (bits : W64)
  /-- DB_OUT_SET (R480). -/
  | dbOutSet (n : Fin 64)
  /-- EQ_ENABLE (R482). -/
  | eqEnable (q : Fin 8) (w : W32)
  /-- EQ_CONS_WRITE (R483). -/
  | eqConsWrite (q : Fin 8) (w : W32)
  /-- EQ_COALESCE_TIMER (R482). -/
  | eqCoalesceTimer (q : Fin 8)
  /-- PROXY_GO (R486). -/
  | proxyGo (slot : Fin 8) (w : W32)
  /-- PROXY_HOME (R489). -/
  | proxyHome (pnid : BitVec 16)
  /-- X_FUNCTION_SCHEDULED (R490). -/
  | xFunctionScheduled (x : Fin 2)
  /-- X_FUNCTION_STORAGE (R490). -/
  | xFunctionStorage (x : Fin 2)
  /-- X_FUNCTION_BRIDGE (R490). -/
  | xFunctionBridge (x : Fin 2)
  /-- DICT_READ (R513). -/
  | dictRead (slot : Fin 8) (cmd : W32)
  /-- DICT_WRITE (R505). -/
  | dictWrite (slot : Fin 8) (cmd : W32) (dma : List Byte)
  /-- DICT_DESC (R511). -/
  | dictDesc (slot : Fin 8) (cmd : W32)
  /-- DICT_NEXT (R511). -/
  | dictNext (slot : Fin 8) (cmd : W32)
  /-- DOMAIN_CHUNK (R508). -/
  | domainChunk (slot : Fin 8)
  /-- RESTORE_DEFAULTS (R506). -/
  | restoreDefaults (client : Byte)
  /-- DEBUG_TOKEN (R560). -/
  | debugToken (client : Byte) (off : Nat) (data : List Byte)
  /-- TOKEN_LOCKOUT_END (R560). -/
  | tokenLockoutEnd
  /-- DEBUG_CLOSE (R561). -/
  | debugClose (client : Byte)
  /-- DEBUG_SESSION_EXPIRY (R561). -/
  | debugSessionExpiry
  /-- CAN_READ (R522). -/
  | canRead (bcast : Bool) (frame : List Byte)
  /-- CAN_WRITE (R526). -/
  | canWrite (bcast : Bool) (frame : List Byte)
  /-- CAN_DESC (R522). -/
  | canDesc (bcast : Bool) (frame : List Byte)
  /-- CAN_NEXT (R522). -/
  | canNext (bcast : Bool) (frame : List Byte)
  /-- SEGMENT (R525). -/
  | segment (frame : List Byte)
  /-- BLOCK_ACK (R525). -/
  | blockAck (frame : List Byte)
  /-- ABORT (R525). -/
  | abort (frame : List Byte)
  /-- CAN_SEG_TIMEOUT (R525). -/
  | canSegTimeout
  /-- HEARTBEAT (R527). -/
  | heartbeat
  /-- CAN_BUS_OFF_RECOVERY (R520). -/
  | canBusOffRecovery
  /-- RESET_RELEASE (R536). -/
  | resetRelease (samples : List (BitVec 9)) (fref : Bool)
  /-- NOR_VERIFY_DONE (R536). -/
  | norVerifyDone
  /-- PUSH_WINDOW_END (R537). -/
  | pushWindowEnd
  /-- BOOT_WATCHDOG (R535). -/
  | bootWatchdog
  /-- MODULE_RESET (R535). -/
  | moduleReset (client : Byte)
  /-- FW_IMAGE (R542). -/
  | fwImage (client : Byte) (off : Nat) (data : List Byte)
  /-- FW_VERIFY (R543). -/
  | fwVerify (client : Byte)
  /-- FW_VERIFY_DONE (R540). -/
  | fwVerifyDone
  /-- FW_ACTIVATE (R543). -/
  | fwActivate (client : Byte)
  /-- FW_PROGRAM (R543). -/
  | fwProgram (client : Byte)
  /-- FW_PROGRAM_DONE (R543). -/
  | fwProgramDone (ok : Bool)
  /-- FW_CLEAR (R543). -/
  | fwClear (client : Byte)
  /-- FW_BOOT_NOR (R543). -/
  | fwBootNor (client : Byte)
  /-- FW_IDLE_TIMEOUT (R542). -/
  | fwIdleTimeout
  /-- FW_WATCHDOG (R545). -/
  | fwWatchdog
  /-- ECHO_SERVICE (R562). -/
  | echoService (m : Fin 8)
  /-- RESTART_MP (R562). -/
  | restartMp (m : Fin 8)
  /-- CONFIG_COMPACT (R557). -/
  | configCompact (m : Fin 8) (bad : Nat)
  /-- CS_COMPACT (R557). -/
  | csCompact (client : Byte) (bad : Nat)
  /-- ROLLBACK_FLOOR (R546). -/
  | rollbackFloor (client : Byte) (value : W32)
  /-- ATTEST_NONCE (R550). -/
  | attestNonce (client : Byte) (data : List Byte)
  /-- ATTEST_DONE (R551). -/
  | attestDone
  /-- MATE_N (R568). -/
  | mateN (low : Bool)
  /-- INPUT_SWITCH_CLOSE (R581). -/
  | inputSwitchClose
  /-- OVER_VOLTAGE (R583). -/
  | overVoltage (vin iin bulk : BitVec 16)
  /-- SOFT_START_DONE (R581). -/
  | softStartDone
  /-- FREF_LOST (R579). -/
  | frefLost (ppb : W32)
  /-- FREF_FAILOVER_LOCK (R579). -/
  | frefFailoverLock
  /-- FREF_RETURN (R580). -/
  | frefReturn
  /-- PCIE_LINK_TRAINED (R536). -/
  | pcieLinkTrained (width : Byte) (gen : BitVec 4)
  /-- PCIE_LINK_STATE_EXIT (R466). -/
  | pcieLinkStateExit
  /-- FIRMWARE_REPORTS_RUNNING (R536). -/
  | firmwareReportsRunning (identity : IdentityOutcome)
  /-- SYNC_READ_RESULT (R197). -/
  | syncReadResult (v : Vat)
  /-- TRAINING_SEQUENCE (R344). -/
  | trainingSequence (p : PortId) (stored : Bool)
  /-- UNDEFINED_OPCODE (R169). -/
  | undefinedOpcode (v : Vat) (w : W64)
  deriving DecidableEq, Repr

end Sys2Proof
end

