-- ==== Sys2Proof/Decode.lean ====
section
/-! DEFINITION. Words of the command table, of which spec/opcode_table.json gives no bits to any row, so no word spells a command; and the
instruction words of a vat, whose opcode says which command they are (05 R166, R167). -/
namespace Sys2Proof

/-- The command a word spells by the table's bits: none, as no row has bits. -/
def decodeTableWord (_nbits _w : Nat) : Option Instr := none

/-! ### Instruction words of a vat (05 R166-R169) -/

/-- OP of an instruction word. -/
def wordOp (w : W64) : Nat := w.toNat / 2 ^ 56

/-- The formats the opcode ranges select (R167). -/
inductive Format where
  | s | i | c | m | v | p | x | reserved
  deriving DecidableEq, Repr

/-- The format of an opcode. -/
def formatOf (op : Nat) : Format :=
  match op / 0x20 with
  | 0 => .s
  | 1 => .i
  | 2 => .c
  | 3 => .m
  | 4 => .v
  | 5 => .p
  | 6 => .x
  | _ => .reserved

/-- Format S: scalar, predicate and address register operations. -/
def wordS (v : Vat) (w : BitVec 56) (op : Nat) : Option Instr :=
  match op with
  | 0x00 => some (.nop v w)
  | 0x01 => some (.add v w)
  | 0x02 => some (.sub v w)
  | 0x03 => some (.mul v w)
  | 0x04 => some (.mulhu v w)
  | 0x05 => some (.mulhs v w)
  | 0x06 => some (.and v w)
  | 0x07 => some (.or v w)
  | 0x08 => some (.xor v w)
  | 0x09 => some (.shl v w)
  | 0x0A => some (.shr v w)
  | 0x0B => some (.sra v w)
  | 0x0C => some (.min v w)
  | 0x0D => some (.max v w)
  | 0x0E => some (.minu v w)
  | 0x0F => some (.maxu v w)
  | 0x10 => some (.cmp v w)
  | 0x11 => some (.plog v w)
  | 0x12 => some (.aadd v w)
  | 0x13 => some (.amov v w)
  | 0x14 => some (.agetl v w)
  | 0x15 => some (.ageth v w)
  | _ => none

/-- Format I: immediate operations, loads and stores. -/
def wordI (v : Vat) (w : BitVec 56) (op : Nat) : Option Instr :=
  match op with
  | 0x20 => some (.movi v w)
  | 0x21 => some (.addi v w)
  | 0x22 => some (.andi v w)
  | 0x23 => some (.ori v w)
  | 0x24 => some (.xori v w)
  | 0x25 => some (.shli v w)
  | 0x26 => some (.shri v w)
  | 0x27 => some (.srai v w)
  | 0x28 => some (.cmpi v w)
  | 0x29 => some (.amovi v w)
  | 0x2A => some (.amovh v w)
  | 0x2B => some (.aaddi v w)
  | 0x2C => some (.ld v w)
  | 0x2D => some (.st v w)
  | 0x2E => some (.lda v w)
  | 0x2F => some (.sta v w)
  | _ => none

/-- Format C: control, tick, selector and sync. -/
def wordC (v : Vat) (w : BitVec 56) (op : Nat) : Option Instr :=
  match op with
  | 0x40 => some (.br v w)
  | 0x41 => some (.brl v w)
  | 0x42 => some (.jmpa v w)
  | 0x43 => some (.loop v w)
  | 0x44 => some (.halt v w)
  | 0x45 => some (.mfsr v w)
  | 0x47 => some (.evt v w)
  | 0x50 => some (.twait v w)
  | 0x51 => some (.rdst v w)
  | 0x52 => some (.pready v w)
  | 0x53 => some (.sel v w)
  | 0x58 => some (.sadd v w)
  | 0x59 => some (.sset v w)
  | 0x5A => some (.srd v w)
  | 0x5B => some (.swait v w)
  | 0x5C => some (.sclaim v w)
  | 0x5D => some (.watch v w)
  | 0x5E => some (.unwatch v w)
  | 0x5F => some (.barr v w)
  | _ => none

/-- Format M: matrix and window accumulator. -/
def wordM (v : Vat) (w : BitVec 56) (op : Nat) : Option Instr :=
  match op with
  | 0x60 => some (.wclr v w)
  | 0x61 => some (.mma v w)
  | 0x62 => some (.tld v w)
  | 0x63 => some (.wpadd v w)
  | 0x64 => some (.wpack v w)
  | 0x65 => some (.wcvt v w)
  | 0x66 => some (.wtov v w)
  | 0x67 => some (.wstat v w)
  | _ => none

/-- Format V: vector. -/
def wordV (v : Vat) (w : BitVec 56) (op : Nat) : Option Instr :=
  match op with
  | 0x80 => some (.vadd v w)
  | 0x81 => some (.vsub v w)
  | 0x82 => some (.vmul v w)
  | 0x83 => some (.vfma v w)
  | 0x84 => some (.vmin v w)
  | 0x85 => some (.vmax v w)
  | 0x86 => some (.vcmp v w)
  | 0x87 => some (.vsel v w)
  | 0x88 => some (.vcvt v w)
  | 0x89 => some (.vfun v w)
  | 0x8A => some (.vred v w)
  | 0x8B => some (.vlog v w)
  | 0x8C => some (.vbcast v w)
  | 0x8D => some (.vext v w)
  | 0x8E => some (.vperm v w)
  | 0x8F => some (.vld v w)
  | 0x90 => some (.vst v w)
  | _ => none

/-- Format P: sparse engine. -/
def wordP (v : Vat) (w : BitVec 56) (op : Nat) : Option Instr :=
  match op with
  | 0xA0 => some (.spcmp v w)
  | 0xA1 => some (.spexp v w)
  | 0xA2 => some (.spgath v w)
  | 0xA3 => some (.spscat v w)
  | 0xA4 => some (.topk v w)
  | 0xA5 => some (.disp v w)
  | _ => none

/-- Format X: transfer by descriptor. -/
def wordX (v : Vat) (w : BitVec 56) (op : Nat) : Option Instr :=
  match op with
  | 0xC0 => some (.xcopy v w)
  | 0xC2 => some (.xexp v w)
  | 0xC3 => some (.xfill v w)
  | 0xC4 => some (.xchurn v w)
  | 0xC5 => some (.xgath v w)
  | 0xC7 => some (.xstat v w)
  | _ => none

/-- The command that a word is at the head of a vat's program: its opcode selects the format and in it the instruction, and bits [55:0] are its
operands. None: no format defines the code, and the word is an undefined opcode (R169). -/
def instrOf (v : Vat) (word : W64) : Option Instr :=
  let w : BitVec 56 := word.setWidth 56
  let op := wordOp word
  match formatOf op with
  | .s => wordS v w op
  | .i => wordI v w op
  | .c => wordC v w op
  | .m => wordM v w op
  | .v => wordV v w op
  | .p => wordP v w op
  | .x => wordX v w op
  | .reserved => none

end Sys2Proof
end

