-- ==== Sys2Proof/Config.lean ====
section
/-! DEFINITION. What a part fixes, and the free values: constants without a body. No proof can see their values. -/
namespace Sys2Proof.Config

/-- A fresh free value of 256 bits for the counter's present reading: where the spec states no value (DESIGN CHOICE, log entry 3). -/
opaque freeValue : Nat → BitVec 256

/-- A free value that depends on an operand: the FP16 code of a NaN (16) and the lower end of VCVT to INT32 (4), which R233 leaves open (DESIGN CHOICE,
log entries 14 and 17). -/
opaque freeFun : Nat → BitVec 32 → BitVec 32

/-- Which of several failing arming checks a refusal reports: R593 leaves it open (DESIGN CHOICE, log entry 20). -/
opaque freeChoice : Nat → Nat

/-- SLH-DSA signature verification (FIPS 205): key, message, signature. The spec names the algorithm and does not restate it (R539). -/
opaque slhDsaVerify : List Byte → List Byte → List Byte → Bool

/-- SLH-DSA signing by the identity key, hedged (R551): message and the entropy drawn. -/
opaque slhDsaSign : List Byte → Nat → List Byte

/-- The identity public key the PUF rebuilds (R547). -/
opaque identityKey : List Byte

/-- The identity certificate in NOR (R548). -/
opaque identityCert : List Byte

/-- KEY_HASH, held by the boot ROM (R536). -/
opaque keyHash : List Byte

/-- DEBUG_KEY_HASH, a constant of the running firmware (R560). -/
opaque debugKeyHash : List Byte

/-- SERIAL_NUMBER, set at manufacture (R532). -/
opaque serialNumber : List Byte

/-- SILICON_REV, per part; bits 31:24 zero (R517). -/
opaque siliconRev24 : BitVec 24

/-- Code of a PCIe link state in PCIE_STATUS, for which the spec gives none (13 R497; DESIGN CHOICE, log entry 3). -/
opaque linkCode : Nat → BitVec 4

/-- The firmware image the NOR holds when the module leaves manufacture (R534; DESIGN CHOICE, log entry 99). -/
opaque norImage : List Byte

/-- Entropy of the AON source (R561): the n-th draw. -/
opaque entropy : Nat → BitVec 128

end Sys2Proof.Config
end

