-- ==== Sys2Proof/Machine/Bits.lean ====
section
/-! DEFINITION. Bit fields, byte order and signed values (00 R5, R6). -/
namespace Sys2Proof.Machine
open Sys2Proof

/-- Field of n bits of x from bit lo. -/
def fld (x lo n : Nat) : Nat := x / 2 ^ lo % 2 ^ n

/-- Bit i of x. -/
def bitOf (x i : Nat) : Bool := x / 2 ^ i % 2 == 1

/-- A Bool as a one-bit number. -/
def b2n (b : Bool) : Nat := if b then 1 else 0

/-- n bytes of x, little-endian (R6). -/
def leBytes : Nat → Nat → List Byte
  | 0, _ => []
  | n + 1, x => BitVec.ofNat 8 x :: leBytes n (x / 256)

/-- The number little-endian bytes spell (R6). -/
def leNat : List Byte → Nat
  | [] => 0
  | b :: t => b.toNat + 256 * leNat t

/-- n bytes of a list from an offset. -/
def slice (l : List Byte) (off n : Nat) : List Byte := (l.drop off).take n

/-- The little-endian number in n bytes of a list from an offset. -/
def leAt (l : List Byte) (off n : Nat) : Nat := leNat (slice l off n)

/-- A list made n bytes long: cut, or filled with zero bytes. -/
def padTo (n : Nat) (l : List Byte) : List Byte := l.take n ++ List.replicate (n - l.length) 0

/-- n zero bytes. -/
def zeros (n : Nat) : List Byte := List.replicate n 0

/-- Bytes of a list replaced from an offset; the list keeps its length. -/
def overlay (l : List Byte) (off : Nat) (b : List Byte) : List Byte :=
  (l.take off ++ b ++ l.drop (off + b.length)).take l.length

/-- The signed value of an n-bit number. -/
def sgn (n x : Nat) : Int := if x % 2 ^ n < 2 ^ (n - 1) then (x % 2 ^ n : Nat) else (x % 2 ^ n : Nat) - (2 ^ n : Nat)

/-- An integer modulo 2^n. -/
def wrap (n : Nat) (i : Int) : Nat := (i % (2 ^ n : Nat)).toNat

/-- Division rounded up. -/
def ceilDiv (a b : Nat) : Nat := (a + b - 1) / b

/-- Number of one bits among the low n bits of x. -/
def popCount (n x : Nat) : Nat := ((List.range n).filter (fun i => bitOf x i)).length

/-- The next multiple of 16 not below x: a grid tick (01 R15). -/
def gridUp (x : Nat) : Nat := (x + 15) / 16 * 16

/-- One CRC step per bit over a reflected polynomial. -/
def crcBits (poly : Nat) : Nat → Nat → Nat
  | 0, r => r
  | n + 1, r => crcBits poly n (if r % 2 = 1 then (r / 2) ^^^ poly else r / 2)

/-- A reflected CRC register run over bytes. -/
def crcRun (poly : Nat) : Nat → List Byte → Nat
  | r, [] => r
  | r, b :: t => crcRun poly (crcBits poly 8 (r ^^^ b.toNat)) t

/-- ECMA-182 polynomial 0x42F0_E1EB_A9EA_3693 with its bits reversed: bits of a byte enter least significant first (09 R353). -/
def crc64Poly : Nat := 0xC96C5795D7870F42

/-- Register of crc64_unit after more bytes, before the final inversion. -/
def crc64Run (r : W64) (l : List Byte) : W64 := BitVec.ofNat 64 (crcRun crc64Poly r.toNat l)

/-- crc64_unit (09 R353). -/
def crc64 (l : List Byte) : W64 := ~~~ (crc64Run (BitVec.allOnes 64) l)

/-- The CRC of a flow unit with its count (R353). -/
def unitCrc (count : BitVec 12) (hdr : W64) (pay : List Byte) : W64 :=
  crc64 (leBytes 2 count.toNat ++ leBytes 8 hdr.toNat ++ pay)

end Sys2Proof.Machine
end

