-- ==== Sys2Proof/Machine/Tab.lean ====
section
/-! DEFINITION. Sparse tables: a list of key and value pairs with strictly rising keys and no entry equal to the default
`d` of its key. Equal tables are equal lists. Memory, registers and the units of the module are held in them. -/
namespace Sys2Proof.Machine

/-- The value at a key; an unlisted key reads as its default. -/
def Tab.get {α : Type} (d : Nat → α) : List (Nat × α) → Nat → α
  | [], k => d k
  | e :: t, k => if e.1 = k then e.2 else Tab.get d t k

/-- Writes one key and keeps the canonical form: writing the default removes the entry. -/
def Tab.set {α : Type} [DecidableEq α] (d : Nat → α) : List (Nat × α) → Nat → α → List (Nat × α)
  | [], k, v => if v = d k then [] else [(k, v)]
  | e :: t, k, v =>
    if k < e.1 then (if v = d k then e :: t else (k, v) :: e :: t)
    else if k = e.1 then (if v = d k then t else (k, v) :: t)
    else e :: Tab.set d t k v

/-- Every key of the table is above `k`. -/
def Tab.above {α : Type} (k : Nat) (t : List (Nat × α)) : Prop := ∀ e ∈ t, k < e.1

/-- The canonical form. -/
def Tab.Wf {α : Type} (d : Nat → α) : List (Nat × α) → Prop
  | [] => True
  | e :: t => Tab.above e.1 t ∧ e.2 ≠ d e.1 ∧ Tab.Wf d t

/-- Removes the keys a test selects. -/
def Tab.erase {α : Type} (p : Nat → Bool) (t : List (Nat × α)) : List (Nat × α) := t.filter (fun e => !p e.1)

/-- n consecutive entries from a key. -/
def Tab.read {α : Type} (d : Nat → α) (t : List (Nat × α)) (k n : Nat) : List α :=
  (List.range n).map (fun i => Tab.get d t (k + i))

/-- The entries of consecutive keys that differ from their defaults. -/
def Tab.run {α : Type} [DecidableEq α] (d : Nat → α) : Nat → List α → List (Nat × α)
  | _, [] => []
  | k, v :: vs => if v = d k then Tab.run d (k + 1) vs else (k, v) :: Tab.run d (k + 1) vs

/-- Writes consecutive entries from a key. -/
def Tab.write {α : Type} [DecidableEq α] (d : Nat → α) (t : List (Nat × α)) (k : Nat) (l : List α) : List (Nat × α) :=
  t.filter (fun e => decide (e.1 < k)) ++ Tab.run d k l ++ t.filter (fun e => decide (k + l.length ≤ e.1))

end Sys2Proof.Machine
end

