-- ==== Sys2Proof/Machine/Objects.lean ====
section
/-! DEFINITION. The object dictionary's index map (14 R498-R500, R530) with every object's type, access, default and size, one
group per index block, from the object tables of the chapters; and the keys the model uses for its objects. -/
namespace Sys2Proof.Machine

/-- Object types (R499). -/
inductive ObjType where
  | bool | u8 | u16 | u32 | u64 | enum | string | domain
  deriving DecidableEq, Repr

/-- Access through the host door (R501). -/
inductive Access where
  | const | ro | rc | rw | wo | rwInState
  deriving DecidableEq, Repr

/-- One row of an object table: subindexes lo to hi with the same data. `size` is in bytes, `entry` the entry size of a DOMAIN;
where the spec gives neither they are the model's (DESIGN CHOICE, log entry 124). `codes` are the value codes of an ENUM, default first. -/
structure ObjRow where
  lo : Nat
  hi : Nat
  type : ObjType
  access : Access
  default : Nat
  persist : Bool
  size : Nat
  entry : Nat
  codes : List Nat
  deriving DecidableEq, Repr

/-- The objects of one index block: `count` indexes from `base`. -/
structure ObjGroup where
  base : Nat
  count : Nat
  perCtx : Bool
  top : Nat                              -- highest subindex, the value of subindex 0
  rows : List ObjRow
  deriving DecidableEq, Repr

/-- 0x1000: PART_NUMBER, VENDOR, SERIAL_NUMBER, SILICON_REV, FIRMWARE_VERSION, OWN_PNID, DICT_VERSION (ch. 14). -/
def objGroup1000 : ObjGroup where
  base := 0x1000; count := 1; perCtx := false; top := 0x07
  rows := [
    ⟨0x01, 0x01, .string, .const, 0, false, 255, 1, []⟩,
    ⟨0x02, 0x02, .string, .const, 0, false, 255, 1, []⟩,
    ⟨0x03, 0x03, .string, .const, 0, false, 255, 1, []⟩,
    ⟨0x04, 0x04, .u32, .const, 0, false, 4, 1, []⟩,
    ⟨0x05, 0x05, .u32, .ro, 0, false, 4, 1, []⟩,
    ⟨0x06, 0x06, .u16, .ro, 0, false, 2, 1, []⟩,
    ⟨0x07, 0x07, .u16, .const, 1, false, 2, 1, []⟩]

/-- 0x1010: CAN_ENABLE, CAN_DATA_RATE, HEARTBEAT_PERIOD, CAN_BLOCK, CAN_SEG_TIMEOUT, EMCY_RATE, CAN_STATUS, CAN_FRAMES_RX, CAN_FRAMES_TX, CAN_DUPLICATES, EMCY_DROPPED (ch. 14). -/
def objGroup1010 : ObjGroup where
  base := 0x1010; count := 1; perCtx := false; top := 0x0B
  rows := [
    ⟨0x01, 0x01, .bool, .rw, 1, true, 1, 1, []⟩,
    ⟨0x02, 0x02, .enum, .rw, 3, true, 1, 1, [3, 0, 1, 2]⟩,
    ⟨0x03, 0x03, .u16, .rw, 1000, true, 2, 1, []⟩,
    ⟨0x04, 0x04, .u8, .rw, 16, true, 1, 1, []⟩,
    ⟨0x05, 0x05, .u16, .const, 100, false, 2, 1, []⟩,
    ⟨0x06, 0x06, .u8, .const, 10, false, 1, 1, []⟩,
    ⟨0x07, 0x07, .u32, .ro, 0, false, 4, 1, []⟩,
    ⟨0x08, 0x08, .u64, .rc, 0, false, 8, 1, []⟩,
    ⟨0x09, 0x09, .u64, .rc, 0, false, 8, 1, []⟩,
    ⟨0x0A, 0x0A, .u32, .rc, 0, false, 4, 1, []⟩,
    ⟨0x0B, 0x0B, .u32, .rc, 0, false, 4, 1, []⟩]

/-- 0x1020: RESTORE_DEFAULTS, DICT_REQUESTS, DEBUG_SESSION (ch. 14). -/
def objGroup1020 : ObjGroup where
  base := 0x1020; count := 1; perCtx := false; top := 0x03
  rows := [
    ⟨0x01, 0x01, .enum, .wo, 1, false, 1, 1, [1]⟩,
    ⟨0x02, 0x02, .u64, .rc, 0, false, 8, 1, []⟩,
    ⟨0x03, 0x03, .u32, .ro, 0, false, 4, 1, []⟩]

/-- 0x1100: CS_STATE, CS_RECORDS, CS_IGNORED, CS_FREE_BLOCKS, CS_BLOCKS, CS_COMPACT (ch. 15). -/
def objGroup1100 : ObjGroup where
  base := 0x1100; count := 1; perCtx := false; top := 0x06
  rows := [
    ⟨0x01, 0x01, .enum, .ro, 0, false, 1, 1, [0, 1, 2]⟩,
    ⟨0x02, 0x02, .u32, .ro, 0, false, 4, 1, []⟩,
    ⟨0x03, 0x03, .u32, .ro, 0, false, 4, 1, []⟩,
    ⟨0x04, 0x04, .u16, .ro, 0, false, 2, 1, []⟩,
    ⟨0x05, 0x05, .u16, .const, 256, false, 2, 1, []⟩,
    ⟨0x06, 0x06, .enum, .wo, 1, false, 1, 1, [1]⟩]

/-- 0x2000: POWER_STATE, DOMAIN_STATE, POLICY_FLOOR, FLOOR_DELAY, VOTES, VOTE_OWN, OFF_REQUEST, WAKE_CAUSE, WAKE_HOLD, RETENTION_LIST, PFAIL_THRESH, HOLDUP_COMMIT (ch. 12). -/
def objGroup2000 : ObjGroup where
  base := 0x2000; count := 1; perCtx := false; top := 0x17
  rows := [
    ⟨0x01, 0x01, .enum, .ro, 0, false, 1, 1, [0, 1, 2, 3]⟩,
    ⟨0x02, 0x05, .enum, .ro, 0, false, 1, 1, [0, 1, 2, 3]⟩,
    ⟨0x06, 0x09, .enum, .rw, 1, true, 1, 1, [1, 0, 2, 3]⟩,
    ⟨0x0A, 0x0D, .u32, .rw, 100000, true, 4, 1, []⟩,
    ⟨0x10, 0x10, .domain, .ro, 0, false, 128, 4, []⟩,
    ⟨0x11, 0x11, .u32, .rw, 0, false, 4, 1, []⟩,
    ⟨0x12, 0x12, .enum, .wo, 1, false, 1, 1, [1]⟩,
    ⟨0x13, 0x13, .u8, .ro, 0, false, 1, 1, []⟩,
    ⟨0x14, 0x14, .u32, .const, 100, false, 4, 1, []⟩,
    ⟨0x15, 0x15, .u16, .const, 2000, false, 2, 1, []⟩,
    ⟨0x16, 0x16, .u16, .const, 3000, false, 2, 1, []⟩,
    ⟨0x17, 0x17, .u8, .const, 10, false, 1, 1, []⟩]

/-- 0x2100: BUDGET_W, PEAK_LIMIT, RUN_BASE, POWER_NOW, ENERGY, THETA, THETA_MAX, THROTTLE_FRAME, BUDGET_EFFECTIVE, VARIANT_DROP_TIME, VARIANT_RAISE_DELAY (ch. 12). -/
def objGroup2100 : ObjGroup where
  base := 0x2100; count := 1; perCtx := false; top := 0x0B
  rows := [
    ⟨0x01, 0x01, .u16, .rw, 500, true, 2, 1, []⟩,
    ⟨0x02, 0x02, .u16, .const, 560, false, 2, 1, []⟩,
    ⟨0x03, 0x03, .u16, .const, 95, false, 2, 1, []⟩,
    ⟨0x04, 0x04, .u16, .ro, 0, false, 2, 1, []⟩,
    ⟨0x05, 0x05, .u64, .ro, 0, false, 8, 1, []⟩,
    ⟨0x06, 0x06, .u8, .ro, 0, false, 1, 1, []⟩,
    ⟨0x07, 0x07, .u8, .const, 48, false, 1, 1, []⟩,
    ⟨0x08, 0x08, .u16, .const, 1536, false, 2, 1, []⟩,
    ⟨0x09, 0x09, .u16, .ro, 500, false, 2, 1, []⟩,
    ⟨0x0A, 0x0A, .u32, .rw, 10000, true, 4, 1, []⟩,
    ⟨0x0B, 0x0B, .u32, .rw, 1000, true, 4, 1, []⟩]

/-- 0x2110 + n: BUDGET_SHARE, VARIANT_TABLE, LAUNCH_VARIANT, CURRENT_VARIANT, PERMITTED_VARIANT, JOB_VARIANT, BUDGET_REPORT, THROTTLE_TICKS (ch. 12). -/
def objGroup2110 : ObjGroup where
  base := 0x2110; count := 16; perCtx := true; top := 0x08
  rows := [
    ⟨0x01, 0x01, .u8, .rwInState, 100, false, 1, 1, []⟩,
    ⟨0x02, 0x02, .domain, .rwInState, 0, false, 256, 16, []⟩,
    ⟨0x03, 0x03, .u8, .rwInState, 0, false, 1, 1, []⟩,
    ⟨0x04, 0x04, .u8, .ro, 0, false, 1, 1, []⟩,
    ⟨0x05, 0x05, .u8, .ro, 0, false, 1, 1, []⟩,
    ⟨0x06, 0x06, .u8, .ro, 0, false, 1, 1, []⟩,
    ⟨0x07, 0x07, .domain, .wo, 0, false, 4, 4, []⟩,
    ⟨0x08, 0x08, .u64, .rc, 0, false, 8, 1, []⟩]

/-- 0x2200: TJ_THROTTLE, TJ_TRIP, TJ_SHUTDOWN, THERMAL_CAP, THERMAL_STEP, THERMAL_SHUTDOWN_TIME, THERMAL_STATUS (ch. 12). -/
def objGroup2200 : ObjGroup where
  base := 0x2200; count := 1; perCtx := false; top := 0x07
  rows := [
    ⟨0x01, 0x01, .u8, .rw, 100, true, 1, 1, []⟩,
    ⟨0x02, 0x02, .u8, .const, 115, false, 1, 1, []⟩,
    ⟨0x03, 0x03, .u8, .const, 125, false, 1, 1, []⟩,
    ⟨0x04, 0x04, .u16, .ro, 500, false, 2, 1, []⟩,
    ⟨0x05, 0x05, .u8, .const, 10, false, 1, 1, []⟩,
    ⟨0x06, 0x06, .u16, .const, 1000, false, 2, 1, []⟩,
    ⟨0x07, 0x07, .domain, .ro, 0, false, 16, 4, []⟩]

/-- 0x3000: CLOCK_MODE, FIXED_FREQ, ADAPT_FMAX, ADAPT_FMIN, STRETCH_RUN, ADAPT_RECOVER, TJ_DERATE, DERATE_SLOPE, DROOP_MARGIN, ISLAND_STATUS, UNGATE_LEAD, VFETCH_LEAD, TOKEN_GRACE, TOKEN_WEIGHT, ZERO_SKIP, FETCH_MISSES, SKIPPED_BLOCKS, LOADER_QUEUE, ARRAY_QUEUE, SPARSE_QUEUE, TRANSFER_QUEUE (ch. 02, ch. 04, ch. 05, ch. 06). -/
def objGroup3000 : ObjGroup where
  base := 0x3000; count := 1; perCtx := false; top := 0x1A
  rows := [
    ⟨0x01, 0x01, .enum, .rwInState, 1, true, 1, 1, [1, 0]⟩,
    ⟨0x02, 0x02, .u16, .rwInState, 2400, true, 2, 1, []⟩,
    ⟨0x03, 0x03, .u16, .rwInState, 2400, true, 2, 1, []⟩,
    ⟨0x04, 0x04, .u16, .rwInState, 1600, true, 2, 1, []⟩,
    ⟨0x05, 0x05, .u8, .rwInState, 16, true, 1, 1, []⟩,
    ⟨0x06, 0x06, .u32, .rwInState, 10, true, 4, 1, []⟩,
    ⟨0x07, 0x07, .u8, .rwInState, 95, true, 1, 1, []⟩,
    ⟨0x08, 0x08, .u16, .rwInState, 50, true, 2, 1, []⟩,
    ⟨0x09, 0x09, .u8, .rwInState, 8, true, 1, 1, []⟩,
    ⟨0x0A, 0x0A, .domain, .ro, 0, false, 5120, 16, []⟩,
    ⟨0x0B, 0x0B, .u8, .const, 8, false, 1, 1, []⟩,
    ⟨0x0C, 0x0C, .u8, .const, 28, false, 1, 1, []⟩,
    ⟨0x0D, 0x0D, .u16, .const, 1024, false, 2, 1, []⟩,
    ⟨0x10, 0x10, .u8, .const, 0, false, 1, 1, []⟩,
    ⟨0x11, 0x11, .u8, .const, 1, false, 1, 1, []⟩,
    ⟨0x12, 0x12, .u8, .const, 2, false, 1, 1, []⟩,
    ⟨0x13, 0x13, .u8, .const, 4, false, 1, 1, []⟩,
    ⟨0x14, 0x14, .bool, .rwInState, 1, true, 1, 1, []⟩,
    ⟨0x15, 0x15, .u64, .rc, 0, false, 8, 1, []⟩,
    ⟨0x16, 0x16, .u64, .rc, 0, false, 8, 1, []⟩,
    ⟨0x17, 0x17, .u8, .const, 2, false, 1, 1, []⟩,
    ⟨0x18, 0x18, .u8, .const, 2, false, 1, 1, []⟩,
    ⟨0x19, 0x19, .u8, .const, 2, false, 1, 1, []⟩,
    ⟨0x1A, 0x1A, .u8, .const, 8, false, 1, 1, []⟩]

/-- 0x3040 + n: TOKEN_CEILING_D0, TOKEN_CEILING_D1, TOKEN_HIGH_WATER_D0, TOKEN_HIGH_WATER_D1 (ch. 02). -/
def objGroup3040 : ObjGroup where
  base := 0x3040; count := 16; perCtx := true; top := 0x04
  rows := [
    ⟨0x01, 0x01, .u16, .ro, 0, false, 2, 1, []⟩,
    ⟨0x02, 0x02, .u16, .ro, 0, false, 2, 1, []⟩,
    ⟨0x03, 0x03, .u16, .rc, 0, false, 2, 1, []⟩,
    ⟨0x04, 0x04, .u16, .rc, 0, false, 2, 1, []⟩]

/-- 0x3100: FTIME_PARENT_PORT, FTIME_ALT_PARENT_PORT, FTIME_SYNC_INTERVAL, FTIME_ALARM, ATIME (ch. 01). -/
def objGroup3100 : ObjGroup where
  base := 0x3100; count := 1; perCtx := false; top := 0x05
  rows := [
    ⟨0x01, 0x01, .u8, .rw, 255, true, 1, 1, []⟩,
    ⟨0x02, 0x02, .u8, .rw, 255, true, 1, 1, []⟩,
    ⟨0x03, 0x03, .u32, .rw, 65536, true, 4, 1, []⟩,
    ⟨0x04, 0x04, .u16, .rw, 12, true, 2, 1, []⟩,
    ⟨0x05, 0x05, .u64, .rw, 0, false, 8, 1, []⟩]

/-- 0x3110 + n: CMP_OWNER (ch. 01). -/
def objGroup3110 : ObjGroup where
  base := 0x3110; count := 16; perCtx := false; top := 0x01
  rows := [
    ⟨0x01, 0x01, .u8, .rw, 255, false, 1, 1, []⟩]

/-- 0x3120: TPULSE_OWNER, TIN_OWNER (ch. 01). -/
def objGroup3120 : ObjGroup where
  base := 0x3120; count := 1; perCtx := false; top := 0x06
  rows := [
    ⟨0x01, 0x04, .u8, .rw, 255, false, 1, 1, []⟩,
    ⟨0x05, 0x06, .u8, .rw, 255, false, 1, 1, []⟩]

/-- 0x4000: LINK_SPEED_CAP, REPLAY_LIMIT, CREDIT_TIMEOUT, ACK_INTERVAL, RETRAIN_TIME, REPLAY_BUFFER, WAKE_WORD, WAKE_TIMEOUT, AUTO_WAKE, SKIM_REQ_TIMEOUT, LATE_REPLIES, DRY_SLEEP_MIN, LANE_WAKE, ACK_WAKE_UNITS, FABRIC_RESET, X_OWNER (ch. 09, ch. 04, ch. 08, ch. 11). -/
def objGroup4000 : ObjGroup where
  base := 0x4000; count := 1; perCtx := false; top := 0x41
  rows := [
    ⟨0x01, 0x01, .enum, .rw, 0, true, 1, 1, [0, 1]⟩,
    ⟨0x02, 0x02, .u8, .rw, 4, true, 1, 1, []⟩,
    ⟨0x03, 0x03, .u32, .rw, 100, true, 4, 1, []⟩,
    ⟨0x04, 0x04, .u8, .const, 16, false, 1, 1, []⟩,
    ⟨0x05, 0x05, .u16, .const, 1024, false, 2, 1, []⟩,
    ⟨0x06, 0x06, .u16, .const, 256, false, 2, 1, []⟩,
    ⟨0x07, 0x07, .u32, .const, 4027538085, false, 4, 1, []⟩,
    ⟨0x08, 0x08, .u32, .rw, 2000, true, 4, 1, []⟩,
    ⟨0x09, 0x09, .bool, .rw, 1, true, 1, 1, []⟩,
    ⟨0x0A, 0x0A, .u32, .rw, 1000, true, 4, 1, []⟩,
    ⟨0x0B, 0x0B, .u32, .rc, 0, false, 4, 1, []⟩,
    ⟨0x20, 0x20, .u16, .const, 64, false, 2, 1, []⟩,
    ⟨0x21, 0x21, .u8, .const, 24, false, 1, 1, []⟩,
    ⟨0x22, 0x22, .u8, .const, 64, false, 1, 1, []⟩,
    ⟨0x30, 0x30, .enum, .wo, 1, false, 1, 1, [1, 2]⟩,
    ⟨0x40, 0x41, .u8, .ro, 255, false, 1, 1, []⟩]

/-- 0x4100 + n: LINK_STATUS, LINK_CTRL, LINK_WIDTH_CAP, LINK_DELAY, REPLAY_RTT, REPLAYS, RETRAINS, CRC_ERRORS, FEC_CORRECTED, FEC_UNCORRECTED, REPLAY_HIGH_WATER, PAIL_CREDIT_VID, TIME_PEER_PNID, DOWN_REASON, SKIM_MARKS, SKIM_RATE, SKIM_DISCARDED, DRY_UNITS, LANE_SLEEPS, SLEEP_TICKS (ch. 09, ch. 04). -/
def objGroup4100 : ObjGroup where
  base := 0x4100; count := 34; perCtx := false; top := 0x22
  rows := [
    ⟨0x01, 0x01, .u32, .ro, 511, false, 4, 1, []⟩,
    ⟨0x02, 0x02, .enum, .wo, 1, false, 1, 1, [1, 2, 3]⟩,
    ⟨0x03, 0x03, .u8, .rw, 4, true, 1, 1, []⟩,
    ⟨0x04, 0x04, .u32, .ro, 0, false, 4, 1, []⟩,
    ⟨0x05, 0x05, .u16, .ro, 0, false, 2, 1, []⟩,
    ⟨0x06, 0x06, .u64, .rc, 0, false, 8, 1, []⟩,
    ⟨0x07, 0x07, .u32, .rc, 0, false, 4, 1, []⟩,
    ⟨0x08, 0x08, .u64, .rc, 0, false, 8, 1, []⟩,
    ⟨0x09, 0x09, .u64, .rc, 0, false, 8, 1, []⟩,
    ⟨0x0A, 0x0A, .u64, .rc, 0, false, 8, 1, []⟩,
    ⟨0x0B, 0x0B, .u16, .rc, 0, false, 2, 1, []⟩,
    ⟨0x0C, 0x0C, .u16, .rwInState, 65535, false, 2, 1, []⟩,
    ⟨0x0D, 0x0D, .u16, .rw, 65535, true, 2, 1, []⟩,
    ⟨0x0E, 0x0E, .u8, .ro, 0, false, 1, 1, []⟩,
    ⟨0x0F, 0x0F, .u32, .rc, 0, false, 4, 1, []⟩,
    ⟨0x10, 0x10, .u16, .ro, 0, false, 2, 1, []⟩,
    ⟨0x11, 0x11, .u32, .rc, 0, false, 4, 1, []⟩,
    ⟨0x20, 0x20, .u64, .rc, 0, false, 8, 1, []⟩,
    ⟨0x21, 0x21, .u32, .rc, 0, false, 4, 1, []⟩,
    ⟨0x22, 0x22, .u64, .rc, 0, false, 8, 1, []⟩]

/-- 0x4200: SKIM_NEXT, SKIM_SHARE, TC1_HDR_CREDITS, TC1_DATA_CREDITS, TC2_HDR_CREDITS, TC2_DATA_CREDITS, MARK_THRESH, RATE_MAX, BCAST_DEDUP, SKIM_ECHOES, PATH_LOST_COUNT (ch. 09). -/
def objGroup4200 : ObjGroup where
  base := 0x4200; count := 1; perCtx := false; top := 0x0B
  rows := [
    ⟨0x01, 0x01, .domain, .rw, 0, true, 512, 1, []⟩,
    ⟨0x02, 0x02, .u8, .const, 16, false, 1, 1, []⟩,
    ⟨0x03, 0x03, .u8, .const, 32, false, 1, 1, []⟩,
    ⟨0x04, 0x04, .u16, .const, 128, false, 2, 1, []⟩,
    ⟨0x05, 0x05, .u8, .const, 32, false, 1, 1, []⟩,
    ⟨0x06, 0x06, .u16, .const, 128, false, 2, 1, []⟩,
    ⟨0x07, 0x07, .u8, .const, 16, false, 1, 1, []⟩,
    ⟨0x08, 0x08, .u8, .const, 48, false, 1, 1, []⟩,
    ⟨0x09, 0x09, .u8, .const, 64, false, 1, 1, []⟩,
    ⟨0x0A, 0x0A, .u32, .rc, 0, false, 4, 1, []⟩,
    ⟨0x0B, 0x0B, .u32, .rc, 0, false, 4, 1, []⟩]

/-- 0x5000: HOLD_FWD_DEPTH, BOUNDARY_HISTORY, ENGINE_INSTANCES, RELAY_CUT_B, RELAY_CUT_U, PLANE_LATENCY, EPOCH_ARM_LEAD, PEER_PNID, HOLD_DISCARDED_COUNT, SCHED_OWNER (ch. 01, ch. 05, ch. 08). -/
def objGroup5000 : ObjGroup where
  base := 0x5000; count := 1; perCtx := false; top := 0x41
  rows := [
    ⟨0x01, 0x01, .u8, .const, 64, false, 1, 1, []⟩,
    ⟨0x02, 0x02, .u8, .const, 16, false, 1, 1, []⟩,
    ⟨0x03, 0x03, .u16, .const, 4096, false, 2, 1, []⟩,
    ⟨0x04, 0x04, .u8, .const, 2, false, 1, 1, []⟩,
    ⟨0x05, 0x05, .u8, .const, 5, false, 1, 1, []⟩,
    ⟨0x06, 0x06, .u16, .rw, 0, true, 2, 1, []⟩,
    ⟨0x07, 0x07, .u16, .const, 1024, false, 2, 1, []⟩,
    ⟨0x08, 0x08, .domain, .ro, 0, false, 68, 2, []⟩,
    ⟨0x09, 0x09, .u32, .rc, 0, false, 4, 1, []⟩,
    ⟨0x20, 0x41, .u8, .ro, 255, false, 1, 1, []⟩]

/-- 0x5010 + n: JOBN, HOLD_LEAD, SELECT_QUANTUM, READY_QUANTUM, SELECT_LATE_LIMIT, FIXED_LATE_POLICY, HOLD_LIMIT, LAUNCH_FTIME, LAUNCH_LEAD, LAUNCH_ARM, HOLD_DIAMETER, RELAY_SPAN, DEBUG_STOP, STIME, STEP, HOLD_LOG, PLANE_LATENCY_IMG, SKIM_BCAST_TIME (ch. 01). -/
def objGroup5010 : ObjGroup where
  base := 0x5010; count := 16; perCtx := true; top := 0x12
  rows := [
    ⟨0x01, 0x01, .u8, .rwInState, 0, false, 1, 1, []⟩,
    ⟨0x02, 0x02, .u16, .rwInState, 0, false, 2, 1, []⟩,
    ⟨0x03, 0x03, .u16, .rwInState, 0, false, 2, 1, []⟩,
    ⟨0x04, 0x04, .u16, .rwInState, 0, false, 2, 1, []⟩,
    ⟨0x05, 0x05, .u32, .rwInState, 100000, false, 4, 1, []⟩,
    ⟨0x06, 0x06, .enum, .rwInState, 0, false, 1, 1, [0, 1]⟩,
    ⟨0x07, 0x07, .u32, .rwInState, 10000, false, 4, 1, []⟩,
    ⟨0x08, 0x08, .u64, .rwInState, 0, false, 8, 1, []⟩,
    ⟨0x09, 0x09, .u32, .rwInState, 512, false, 4, 1, []⟩,
    ⟨0x0A, 0x0A, .enum, .wo, 0, false, 1, 1, [0, 1, 2]⟩,
    ⟨0x0B, 0x0B, .u16, .rwInState, 0, false, 2, 1, []⟩,
    ⟨0x0C, 0x0C, .u16, .rwInState, 0, false, 2, 1, []⟩,
    ⟨0x0D, 0x0D, .bool, .rw, 0, false, 1, 1, []⟩,
    ⟨0x0E, 0x0E, .u64, .ro, 0, false, 8, 1, []⟩,
    ⟨0x0F, 0x0F, .u64, .ro, 0, false, 8, 1, []⟩,
    ⟨0x10, 0x10, .domain, .ro, 0, false, 8192, 32, []⟩,
    ⟨0x11, 0x11, .u16, .rwInState, 0, false, 2, 1, []⟩,
    ⟨0x12, 0x12, .u32, .rwInState, 0, false, 4, 1, []⟩]

/-- 0x5020 + n: DISPATCH_PRIMARY, DISPATCH_DELAYED, DISPATCH_REFUSED, TOPK_NAN_SEEN, TWAIT_PASSED, SELECT_CONFLICT, CHURN_SATURATED, WACC_SATURATED (ch. 04, ch. 05, ch. 06). -/
def objGroup5020 : ObjGroup where
  base := 0x5020; count := 16; perCtx := true; top := 0x08
  rows := [
    ⟨0x01, 0x01, .u64, .rc, 0, false, 8, 1, []⟩,
    ⟨0x02, 0x02, .u64, .rc, 0, false, 8, 1, []⟩,
    ⟨0x03, 0x03, .u64, .rc, 0, false, 8, 1, []⟩,
    ⟨0x04, 0x04, .u32, .rc, 0, false, 4, 1, []⟩,
    ⟨0x05, 0x05, .u64, .rc, 0, false, 8, 1, []⟩,
    ⟨0x06, 0x06, .u32, .rc, 0, false, 4, 1, []⟩,
    ⟨0x07, 0x07, .u64, .rc, 0, false, 8, 1, []⟩,
    ⟨0x08, 0x08, .u64, .rc, 0, false, 8, 1, []⟩]

/-- 0x5030 + n: ACTIVE_BANK, BANK_STATE, BANK_CMD, SWITCH_AT, SWITCH_SEG, SWITCH_ARM, ENTRY_SEG, MR_BASE, MR_COUNT, SEG_BASE, SEG_COUNT, ROUTE_BASE, ROUTE_COUNT, FENCE, FENCED_UNITS, DEPARTED_UNITS, LANDED_UNITS, RELAYED_UNITS, RELAY_LAG_MAX, COMMIT_ERROR (ch. 08). -/
def objGroup5030 : ObjGroup where
  base := 0x5030; count := 16; perCtx := true; top := 0x16
  rows := [
    ⟨0x01, 0x01, .u8, .rwInState, 0, false, 1, 1, []⟩,
    ⟨0x02, 0x03, .enum, .ro, 0, false, 1, 1, [0, 1, 2, 3, 4]⟩,
    ⟨0x04, 0x05, .enum, .wo, 1, false, 1, 1, [1, 2, 3]⟩,
    ⟨0x06, 0x06, .u64, .rw, 0, false, 8, 1, []⟩,
    ⟨0x07, 0x07, .u16, .rw, 0, false, 2, 1, []⟩,
    ⟨0x08, 0x08, .enum, .wo, 0, false, 1, 1, [0, 1]⟩,
    ⟨0x09, 0x09, .u16, .rwInState, 0, false, 2, 1, []⟩,
    ⟨0x0A, 0x0A, .u32, .rwInState, 0, false, 4, 1, []⟩,
    ⟨0x0B, 0x0B, .u32, .rwInState, 0, false, 4, 1, []⟩,
    ⟨0x0C, 0x0C, .u16, .rwInState, 0, false, 2, 1, []⟩,
    ⟨0x0D, 0x0D, .u16, .rwInState, 0, false, 2, 1, []⟩,
    ⟨0x0E, 0x0E, .u16, .rwInState, 0, false, 2, 1, []⟩,
    ⟨0x0F, 0x0F, .u16, .rwInState, 0, false, 2, 1, []⟩,
    ⟨0x10, 0x10, .domain, .rw, 0, false, 512, 1, []⟩,
    ⟨0x11, 0x11, .u64, .rc, 0, false, 8, 1, []⟩,
    ⟨0x12, 0x12, .u64, .rc, 0, false, 8, 1, []⟩,
    ⟨0x13, 0x13, .u64, .rc, 0, false, 8, 1, []⟩,
    ⟨0x14, 0x14, .u64, .rc, 0, false, 8, 1, []⟩,
    ⟨0x15, 0x15, .u16, .rc, 0, false, 2, 1, []⟩,
    ⟨0x16, 0x16, .u64, .ro, 0, false, 8, 1, []⟩]

/-- 0x5100: ROUTE_BANK, ROUTE_ENTRIES (ch. 08). -/
def objGroup5100 : ObjGroup where
  base := 0x5100; count := 1; perCtx := false; top := 0x03
  rows := [
    ⟨0x01, 0x02, .domain, .rw, 0, false, 32768, 8, []⟩,
    ⟨0x03, 0x03, .u16, .const, 4096, false, 2, 1, []⟩]

/-- 0x5200: MR_BANK, SEG_BANK, MR_ENTRIES, SEG_ENTRIES (ch. 08). -/
def objGroup5200 : ObjGroup where
  base := 0x5200; count := 1; perCtx := false; top := 0x06
  rows := [
    ⟨0x01, 0x02, .domain, .rw, 0, false, 4194304, 32, []⟩,
    ⟨0x03, 0x04, .domain, .rw, 0, false, 262144, 64, []⟩,
    ⟨0x05, 0x05, .u32, .const, 131072, false, 4, 1, []⟩,
    ⟨0x06, 0x06, .u16, .const, 4096, false, 2, 1, []⟩]

/-- 0x6000: DRAM_RATE, DRAM_SIZE, SLOT_RESERVE, REFRESH_PERIOD, REFRESH_BUSY, HOT_HOLD_PERIOD, HOT_HOLD_LENGTH, WFETCH_LEAD, ROW_KEEP, REFRESH_BAND, SCRUB_INTERVAL, DRAM_CORRECTED, DRAM_UNCORRECTED, HOST_WINDOW_UNMAPPED, STREAM_ENTRIES, STREAM_OWNER_D0–D1, HOST_FRAME_MAP, STREAM_BANK_D0, STREAM_BANK_D1, RETENTION_RANGE, RETENTION_OWNER (ch. 07, ch. 14). -/
def objGroup6000 : ObjGroup where
  base := 0x6000; count := 1; perCtx := false; top := 0x2F
  rows := [
    ⟨0x01, 0x01, .enum, .rwInState, 1, true, 1, 1, [1, 0]⟩,
    ⟨0x02, 0x02, .u64, .const, 549755813888, false, 8, 1, []⟩,
    ⟨0x03, 0x03, .u8, .const, 16, false, 1, 1, []⟩,
    ⟨0x04, 0x04, .u8, .const, 45, false, 1, 1, []⟩,
    ⟨0x05, 0x05, .u8, .const, 40, false, 1, 1, []⟩,
    ⟨0x06, 0x06, .u16, .const, 720, false, 2, 1, []⟩,
    ⟨0x07, 0x07, .u8, .const, 64, false, 1, 1, []⟩,
    ⟨0x08, 0x08, .u8, .const, 32, false, 1, 1, []⟩,
    ⟨0x09, 0x09, .u16, .const, 4096, false, 2, 1, []⟩,
    ⟨0x0A, 0x0A, .u8, .ro, 1, false, 1, 1, []⟩,
    ⟨0x0B, 0x0B, .u16, .rw, 24, true, 2, 1, []⟩,
    ⟨0x0C, 0x0C, .u64, .rc, 0, false, 8, 1, []⟩,
    ⟨0x0D, 0x0D, .u64, .rc, 0, false, 8, 1, []⟩,
    ⟨0x0E, 0x0E, .u32, .rc, 0, false, 4, 1, []⟩,
    ⟨0x0F, 0x0F, .u16, .const, 2048, false, 2, 1, []⟩,
    ⟨0x10, 0x11, .u8, .ro, 255, false, 1, 1, []⟩,
    ⟨0x12, 0x12, .domain, .rw, 0, false, 2048, 4, []⟩,
    ⟨0x13, 0x14, .domain, .rw, 0, false, 131072, 64, []⟩,
    ⟨0x15, 0x16, .domain, .rw, 0, false, 131072, 64, []⟩,
    ⟨0x20, 0x27, .u32, .rw, 0, true, 4, 1, []⟩,
    ⟨0x28, 0x2F, .u8, .rw, 255, false, 1, 1, []⟩]

/-- 0x6010 + n: DRAM_INTERLEAVE, FRAME_MAP (ch. 07). -/
def objGroup6010 : ObjGroup where
  base := 0x6010; count := 16; perCtx := true; top := 0x02
  rows := [
    ⟨0x01, 0x01, .enum, .rwInState, 0, false, 1, 1, [0, 1, 2]⟩,
    ⟨0x02, 0x02, .domain, .rwInState, 0, false, 2048, 4, []⟩]

/-- 0x7000: SYNC_COUNTERS, SYNC_VIDS, WATCH_POOL, BARRIERS, DEBUG_COUNTER_SET, DEBUG_BARRIER_RELEASE, DEBUG_SYNC_WRITES (ch. 10). -/
def objGroup7000 : ObjGroup where
  base := 0x7000; count := 1; perCtx := false; top := 0x12
  rows := [
    ⟨0x01, 0x01, .u32, .const, 65536, false, 4, 1, []⟩,
    ⟨0x02, 0x02, .u16, .const, 4096, false, 2, 1, []⟩,
    ⟨0x03, 0x03, .u16, .const, 4096, false, 2, 1, []⟩,
    ⟨0x04, 0x04, .u16, .const, 1024, false, 2, 1, []⟩,
    ⟨0x10, 0x10, .domain, .wo, 0, false, 8, 8, []⟩,
    ⟨0x11, 0x11, .domain, .wo, 0, false, 2, 2, []⟩,
    ⟨0x12, 0x12, .u32, .rc, 0, false, 4, 1, []⟩]

/-- 0x7010 + n: CTX_RESET, SYNC_MAP, SYNC_INIT, BARRIER_BASE, BARRIER_COUNT, BARRIER_INIT, WATCH_QUOTA, WATCHES_HELD, SYNC_STATE, SYNC_DUMP, SYNC_OPS, REMOTE_REFUSED (ch. 10). -/
def objGroup7010 : ObjGroup where
  base := 0x7010; count := 16; perCtx := true; top := 0x0C
  rows := [
    ⟨0x01, 0x01, .enum, .wo, 1, false, 1, 1, [1, 2]⟩,
    ⟨0x02, 0x02, .domain, .rwInState, 0, false, 16384, 4, []⟩,
    ⟨0x03, 0x03, .domain, .rwInState, 0, false, 65536, 16, []⟩,
    ⟨0x04, 0x04, .u16, .rwInState, 0, false, 2, 1, []⟩,
    ⟨0x05, 0x05, .u16, .rwInState, 0, false, 2, 1, []⟩,
    ⟨0x06, 0x06, .domain, .rwInState, 0, false, 16384, 16, []⟩,
    ⟨0x07, 0x07, .u16, .rwInState, 1024, false, 2, 1, []⟩,
    ⟨0x08, 0x08, .u16, .ro, 0, false, 2, 1, []⟩,
    ⟨0x09, 0x09, .enum, .ro, 0, false, 1, 1, [0, 1, 2]⟩,
    ⟨0x0A, 0x0A, .domain, .ro, 0, false, 147488, 16, []⟩,
    ⟨0x0B, 0x0B, .u64, .rc, 0, false, 8, 1, []⟩,
    ⟨0x0C, 0x0C, .u32, .rc, 0, false, 4, 1, []⟩]

/-- 0x8000: FAULT_LOG_DEPTH, EVENT_LOG, EVENT_LOG_DEPTH, EVENTS_LOST, EVENT_ROUTE, EVENT_RESUME, BOOT_COUNT, MODULE_FAULTS, RESOURCE_OWNERS, LOCKSTEP_ENABLE, LOCKSTEP_CTX, LOCKSTEP_TIMEOUT, LOCKSTEP_DEPTH, LOCKSTEP_PHASES, LOCKSTEP_TRACE (ch. 11). -/
def objGroup8000 : ObjGroup where
  base := 0x8000; count := 1; perCtx := false; top := 0x25
  rows := [
    ⟨0x01, 0x01, .u8, .const, 64, false, 1, 1, []⟩,
    ⟨0x02, 0x02, .domain, .ro, 0, false, 131072, 32, []⟩,
    ⟨0x03, 0x03, .u16, .const, 4096, false, 2, 1, []⟩,
    ⟨0x04, 0x04, .u64, .rc, 0, false, 8, 1, []⟩,
    ⟨0x05, 0x05, .domain, .rw, 0, true, 16, 1, []⟩,
    ⟨0x06, 0x06, .domain, .wo, 0, false, 393216, 6, []⟩,
    ⟨0x07, 0x07, .u32, .ro, 0, true, 4, 1, []⟩,
    ⟨0x08, 0x08, .domain, .ro, 0, false, 4096, 64, []⟩,
    ⟨0x10, 0x10, .domain, .ro, 0, false, 4096, 4, []⟩,
    ⟨0x20, 0x20, .enum, .rwInState, 0, true, 1, 1, [0, 1]⟩,
    ⟨0x21, 0x21, .u8, .rwInState, 0, true, 1, 1, []⟩,
    ⟨0x22, 0x22, .u32, .rw, 10000, true, 4, 1, []⟩,
    ⟨0x23, 0x23, .u8, .const, 16, false, 1, 1, []⟩,
    ⟨0x24, 0x24, .u64, .rc, 0, false, 8, 1, []⟩,
    ⟨0x25, 0x25, .bool, .rw, 0, false, 1, 1, []⟩]

/-- 0x8010 + n: FAULT_FIRST, FAULT_LOG, FAULT_COUNT, FAULT_NOTICES (ch. 11). -/
def objGroup8010 : ObjGroup where
  base := 0x8010; count := 16; perCtx := true; top := 0x04
  rows := [
    ⟨0x01, 0x01, .domain, .ro, 0, false, 64, 64, []⟩,
    ⟨0x02, 0x02, .domain, .ro, 0, false, 4096, 64, []⟩,
    ⟨0x03, 0x03, .u32, .ro, 0, false, 4, 1, []⟩,
    ⟨0x04, 0x04, .domain, .ro, 0, false, 1024, 64, []⟩]

/-- 0x9000: PERTURB_ENABLE, PERTURB_INJECTIONS (ch. 11). -/
def objGroup9000 : ObjGroup where
  base := 0x9000; count := 1; perCtx := false; top := 0x02
  rows := [
    ⟨0x01, 0x01, .bool, .rw, 0, false, 1, 1, []⟩,
    ⟨0x02, 0x02, .u64, .rc, 0, false, 8, 1, []⟩]

/-- 0x9010 + n: PERTURB_SLOT, PERTURB_ARM, PERTURB_OWNER (ch. 11). -/
def objGroup9010 : ObjGroup where
  base := 0x9010; count := 16; perCtx := false; top := 0x03
  rows := [
    ⟨0x01, 0x01, .domain, .rw, 0, false, 32, 1, []⟩,
    ⟨0x02, 0x02, .enum, .wo, 0, false, 1, 1, [0, 1]⟩,
    ⟨0x03, 0x03, .u8, .ro, 255, false, 1, 1, []⟩]

/-- 0xA000: KEY_HASH, FW_IMAGE, FW_CTRL, FW_STATE, FW_OWNER, FW_SOURCE, FW_SVN, NOR_FW_VERSION, NOR_FW_SVN, ROLLBACK_FLOOR, PUSH_WINDOW, MODULE_RESET, FW_FAULTS, FW_IDLE_TIMEOUT, IDENTITY_STATUS, IDENTITY_PUBKEY, IDENTITY_CERT, ATTEST_NONCE, ATTEST_STATE, ATTEST_EVIDENCE, ATTEST_CTX, DEBUG_CHALLENGE, DEBUG_TOKEN, DEBUG_CLOSE, DEBUG_SCOPE (ch. 15). -/
def objGroupA000 : ObjGroup where
  base := 0xA000; count := 1; perCtx := false; top := 0x23
  rows := [
    ⟨0x01, 0x01, .domain, .const, 0, false, 32, 1, []⟩,
    ⟨0x02, 0x02, .domain, .wo, 0, false, 4194304, 1, []⟩,
    ⟨0x03, 0x03, .enum, .wo, 1, false, 1, 1, [1, 2, 3, 4, 5]⟩,
    ⟨0x04, 0x04, .enum, .ro, 0, false, 1, 1, [0, 1, 2, 3, 4, 5]⟩,
    ⟨0x05, 0x05, .u8, .ro, 255, false, 1, 1, []⟩,
    ⟨0x06, 0x06, .enum, .ro, 0, false, 1, 1, [0, 1, 2, 3, 4]⟩,
    ⟨0x07, 0x07, .u32, .ro, 0, false, 4, 1, []⟩,
    ⟨0x08, 0x08, .u32, .ro, 0, false, 4, 1, []⟩,
    ⟨0x09, 0x09, .u32, .ro, 0, false, 4, 1, []⟩,
    ⟨0x0A, 0x0A, .u32, .rw, 0, true, 4, 1, []⟩,
    ⟨0x0B, 0x0B, .u16, .rw, 1000, true, 2, 1, []⟩,
    ⟨0x0C, 0x0C, .enum, .wo, 1, false, 1, 1, [1]⟩,
    ⟨0x0D, 0x0D, .domain, .ro, 0, false, 1024, 64, []⟩,
    ⟨0x0E, 0x0E, .u16, .const, 60, false, 2, 1, []⟩,
    ⟨0x10, 0x10, .enum, .ro, 0, false, 1, 1, [0, 1, 2, 3, 4]⟩,
    ⟨0x11, 0x11, .domain, .ro, 0, false, 32, 1, []⟩,
    ⟨0x12, 0x12, .domain, .ro, 0, false, 7984, 1, []⟩,
    ⟨0x13, 0x13, .domain, .wo, 0, false, 32, 32, []⟩,
    ⟨0x14, 0x14, .enum, .ro, 0, false, 1, 1, [0, 1, 2]⟩,
    ⟨0x15, 0x15, .domain, .ro, 0, false, 18544, 1, []⟩,
    ⟨0x16, 0x16, .u16, .rw, 65535, false, 2, 1, []⟩,
    ⟨0x20, 0x20, .domain, .ro, 0, false, 16, 1, []⟩,
    ⟨0x21, 0x21, .domain, .wo, 0, false, 7952, 1, []⟩,
    ⟨0x22, 0x22, .enum, .wo, 1, false, 1, 1, [1]⟩,
    ⟨0x23, 0x23, .u16, .ro, 0, false, 2, 1, []⟩]

/-- 0xB000: PCIE_STATUS, BAR2_SIZE, DOORBELL_MAP, PROXY_HOME, X_FUNCTION, BRIDGE_QUEUES, MB_COLLISIONS, MB_STALE_ACKS, PROXY_REQUESTS (ch. 13). -/
def objGroupB000 : ObjGroup where
  base := 0xB000; count := 1; perCtx := false; top := 0x0A
  rows := [
    ⟨0x01, 0x01, .u32, .ro, 0, false, 4, 1, []⟩,
    ⟨0x02, 0x02, .u8, .ro, 39, false, 1, 1, []⟩,
    ⟨0x03, 0x03, .domain, .rw, 0, false, 256, 4, []⟩,
    ⟨0x04, 0x04, .u16, .rw, 65535, true, 2, 1, []⟩,
    ⟨0x05, 0x06, .enum, .rw, 0, true, 1, 1, [0, 1, 2]⟩,
    ⟨0x07, 0x07, .u8, .rw, 0, true, 1, 1, []⟩,
    ⟨0x08, 0x08, .u32, .rc, 0, false, 4, 1, []⟩,
    ⟨0x09, 0x09, .u32, .rc, 0, false, 4, 1, []⟩,
    ⟨0x0A, 0x0A, .u64, .rc, 0, false, 8, 1, []⟩]

/-- 0xB010 + n: VAT_ASSIGN, PAIL_PAGES, SLOT_TABLE, VAT_ENTRY, JOB_SEED, IMAGE_DIGEST (ch. 13). -/
def objGroupB010 : ObjGroup where
  base := 0xB010; count := 16; perCtx := true; top := 0x06
  rows := [
    ⟨0x01, 0x01, .domain, .rwInState, 0, false, 40, 1, []⟩,
    ⟨0x02, 0x02, .domain, .rwInState, 0, false, 6144, 1, []⟩,
    ⟨0x03, 0x03, .domain, .rwInState, 0, false, 20480, 4, []⟩,
    ⟨0x04, 0x04, .domain, .rwInState, 0, false, 1280, 4, []⟩,
    ⟨0x05, 0x05, .u64, .rwInState, 0, false, 8, 1, []⟩,
    ⟨0x06, 0x06, .domain, .rwInState, 0, false, 32, 1, []⟩]
/-- Every index block, in rising order (R530). -/
def objGroups : List ObjGroup :=
  [objGroup1000, objGroup1010, objGroup1020, objGroup1100, objGroup2000, objGroup2100, objGroup2110, objGroup2200, objGroup3000,
   objGroup3040, objGroup3100, objGroup3110, objGroup3120, objGroup4000, objGroup4100, objGroup4200, objGroup5000, objGroup5010,
   objGroup5020, objGroup5030, objGroup5100, objGroup5200, objGroup6000, objGroup6010, objGroup7000, objGroup7010, objGroup8000,
   objGroup8010, objGroup9000, objGroup9010, objGroupA000, objGroupB000, objGroupB010]

/-- The index block an index belongs to. -/
def objGroup (ix : Nat) : Option ObjGroup := objGroups.find? (fun g => decide (g.base ≤ ix) && decide (ix < g.base + g.count))

/-- The object named Index.Sub; subindex 0 is the CONST U8 of R498. -/
def objFind (ix sub : Nat) : Option ObjRow :=
  match objGroup ix with
  | none => none
  | some g =>
    if sub = 0 then some ⟨0, 0, .u8, .const, g.top, false, 1, 1, []⟩
    else g.rows.find? (fun r => decide (r.lo ≤ sub) && decide (sub ≤ r.hi))

/-- The default of a scalar object; LINK_WIDTH_CAP is 1 on an uplink (09 R381). -/
def objDefault (key : Nat) : Nat :=
  if decide (0x411003 ≤ key) && decide (key ≤ 0x411F03) && decide (key % 256 = 3) then 1
  else match objFind (key / 256) (key % 256) with
    | some r => r.default
    | none => 0

/-- Key of one byte of a DOMAIN object. -/
def domKey (key off : Nat) : Nat := key * 2 ^ 32 + off

/-- The default byte of a DOMAIN: 0xFF for SKIM_NEXT and EVENT_ROUTE, otherwise zero (09 R381, 11 R419). -/
def domDefault (k : Nat) : Byte :=
  if k / 2 ^ 32 = 0x420001 ∨ k / 2 ^ 32 = 0x800005 then 0xFF else 0

/-! ### Keys of the objects -/

abbrev Obj.partNumber : Nat := 0x100001
abbrev Obj.vendor : Nat := 0x100002
abbrev Obj.serialNumber : Nat := 0x100003
abbrev Obj.siliconRev : Nat := 0x100004
abbrev Obj.firmwareVersion : Nat := 0x100005
abbrev Obj.ownPnid : Nat := 0x100006
abbrev Obj.dictVersion : Nat := 0x100007
abbrev Obj.canEnable : Nat := 0x101001
abbrev Obj.canDataRate : Nat := 0x101002
abbrev Obj.heartbeatPeriod : Nat := 0x101003
abbrev Obj.canBlock : Nat := 0x101004
abbrev Obj.canSegTimeout : Nat := 0x101005
abbrev Obj.emcyRate : Nat := 0x101006
abbrev Obj.canStatus : Nat := 0x101007
abbrev Obj.canFramesRx : Nat := 0x101008
abbrev Obj.canFramesTx : Nat := 0x101009
abbrev Obj.canDuplicates : Nat := 0x10100A
abbrev Obj.emcyDropped : Nat := 0x10100B
abbrev Obj.restoreDefaults : Nat := 0x102001
abbrev Obj.dictRequests : Nat := 0x102002
abbrev Obj.debugSession : Nat := 0x102003
abbrev Obj.csState : Nat := 0x110001
abbrev Obj.csRecords : Nat := 0x110002
abbrev Obj.csIgnored : Nat := 0x110003
abbrev Obj.csFreeBlocks : Nat := 0x110004
abbrev Obj.csBlocks : Nat := 0x110005
abbrev Obj.csCompact : Nat := 0x110006
abbrev Obj.powerState : Nat := 0x200001
abbrev Obj.domainState (i : Nat) : Nat := 256 * 0x2000 + 0x02 + i
abbrev Obj.policyFloor (i : Nat) : Nat := 256 * 0x2000 + 0x06 + i
abbrev Obj.floorDelay (i : Nat) : Nat := 256 * 0x2000 + 0x0A + i
abbrev Obj.votes : Nat := 0x200010
abbrev Obj.voteOwn : Nat := 0x200011
abbrev Obj.offRequest : Nat := 0x200012
abbrev Obj.wakeCause : Nat := 0x200013
abbrev Obj.wakeHold : Nat := 0x200014
abbrev Obj.retentionList : Nat := 0x200015
abbrev Obj.pfailThresh : Nat := 0x200016
abbrev Obj.holdupCommit : Nat := 0x200017
abbrev Obj.budgetW : Nat := 0x210001
abbrev Obj.peakLimit : Nat := 0x210002
abbrev Obj.runBase : Nat := 0x210003
abbrev Obj.powerNow : Nat := 0x210004
abbrev Obj.energy : Nat := 0x210005
abbrev Obj.theta : Nat := 0x210006
abbrev Obj.thetaMax : Nat := 0x210007
abbrev Obj.throttleFrame : Nat := 0x210008
abbrev Obj.budgetEffective : Nat := 0x210009
abbrev Obj.variantDropTime : Nat := 0x21000A
abbrev Obj.variantRaiseDelay : Nat := 0x21000B
abbrev Obj.budgetShare (c : Nat) : Nat := 256 * (0x2110 + c) + 0x01
abbrev Obj.variantTable (c : Nat) : Nat := 256 * (0x2110 + c) + 0x02
abbrev Obj.launchVariant (c : Nat) : Nat := 256 * (0x2110 + c) + 0x03
abbrev Obj.currentVariant (c : Nat) : Nat := 256 * (0x2110 + c) + 0x04
abbrev Obj.permittedVariant (c : Nat) : Nat := 256 * (0x2110 + c) + 0x05
abbrev Obj.jobVariant (c : Nat) : Nat := 256 * (0x2110 + c) + 0x06
abbrev Obj.budgetReport (c : Nat) : Nat := 256 * (0x2110 + c) + 0x07
abbrev Obj.throttleTicks (c : Nat) : Nat := 256 * (0x2110 + c) + 0x08
abbrev Obj.tjThrottle : Nat := 0x220001
abbrev Obj.tjTrip : Nat := 0x220002
abbrev Obj.tjShutdown : Nat := 0x220003
abbrev Obj.thermalCap : Nat := 0x220004
abbrev Obj.thermalStep : Nat := 0x220005
abbrev Obj.thermalShutdownTime : Nat := 0x220006
abbrev Obj.thermalStatus : Nat := 0x220007
abbrev Obj.clockMode : Nat := 0x300001
abbrev Obj.fixedFreq : Nat := 0x300002
abbrev Obj.adaptFmax : Nat := 0x300003
abbrev Obj.adaptFmin : Nat := 0x300004
abbrev Obj.stretchRun : Nat := 0x300005
abbrev Obj.adaptRecover : Nat := 0x300006
abbrev Obj.tjDerate : Nat := 0x300007
abbrev Obj.derateSlope : Nat := 0x300008
abbrev Obj.droopMargin : Nat := 0x300009
abbrev Obj.islandStatus : Nat := 0x30000A
abbrev Obj.ungateLead : Nat := 0x30000B
abbrev Obj.vfetchLead : Nat := 0x30000C
abbrev Obj.tokenGrace : Nat := 0x30000D
abbrev Obj.tokenWeight (i : Nat) : Nat := 256 * 0x3000 + 0x10 + i
abbrev Obj.zeroSkip : Nat := 0x300014
abbrev Obj.fetchMisses : Nat := 0x300015
abbrev Obj.skippedBlocks : Nat := 0x300016
abbrev Obj.loaderQueue : Nat := 0x300017
abbrev Obj.arrayQueue : Nat := 0x300018
abbrev Obj.sparseQueue : Nat := 0x300019
abbrev Obj.transferQueue : Nat := 0x30001A
abbrev Obj.tokenCeilingD0 (c : Nat) : Nat := 256 * (0x3040 + c) + 0x01
abbrev Obj.tokenCeilingD1 (c : Nat) : Nat := 256 * (0x3040 + c) + 0x02
abbrev Obj.tokenHighWaterD0 (c : Nat) : Nat := 256 * (0x3040 + c) + 0x03
abbrev Obj.tokenHighWaterD1 (c : Nat) : Nat := 256 * (0x3040 + c) + 0x04
abbrev Obj.ftimeParentPort : Nat := 0x310001
abbrev Obj.ftimeAltParentPort : Nat := 0x310002
abbrev Obj.ftimeSyncInterval : Nat := 0x310003
abbrev Obj.ftimeAlarm : Nat := 0x310004
abbrev Obj.atime : Nat := 0x310005
abbrev Obj.cmpOwner (c : Nat) : Nat := 256 * (0x3110 + c) + 0x01
abbrev Obj.tpulseOwner (i : Nat) : Nat := 256 * 0x3120 + 0x01 + i
abbrev Obj.tinOwner (i : Nat) : Nat := 256 * 0x3120 + 0x05 + i
abbrev Obj.linkSpeedCap : Nat := 0x400001
abbrev Obj.replayLimit : Nat := 0x400002
abbrev Obj.creditTimeout : Nat := 0x400003
abbrev Obj.ackInterval : Nat := 0x400004
abbrev Obj.retrainTime : Nat := 0x400005
abbrev Obj.replayBuffer : Nat := 0x400006
abbrev Obj.wakeWord : Nat := 0x400007
abbrev Obj.wakeTimeout : Nat := 0x400008
abbrev Obj.autoWake : Nat := 0x400009
abbrev Obj.skimReqTimeout : Nat := 0x40000A
abbrev Obj.lateReplies : Nat := 0x40000B
abbrev Obj.drySleepMin : Nat := 0x400020
abbrev Obj.laneWake : Nat := 0x400021
abbrev Obj.ackWakeUnits : Nat := 0x400022
abbrev Obj.fabricReset : Nat := 0x400030
abbrev Obj.xOwner (i : Nat) : Nat := 256 * 0x4000 + 0x40 + i
abbrev Obj.linkStatus (c : Nat) : Nat := 256 * (0x4100 + c) + 0x01
abbrev Obj.linkCtrl (c : Nat) : Nat := 256 * (0x4100 + c) + 0x02
abbrev Obj.linkWidthCap (c : Nat) : Nat := 256 * (0x4100 + c) + 0x03
abbrev Obj.linkDelay (c : Nat) : Nat := 256 * (0x4100 + c) + 0x04
abbrev Obj.replayRtt (c : Nat) : Nat := 256 * (0x4100 + c) + 0x05
abbrev Obj.replays (c : Nat) : Nat := 256 * (0x4100 + c) + 0x06
abbrev Obj.retrains (c : Nat) : Nat := 256 * (0x4100 + c) + 0x07
abbrev Obj.crcErrors (c : Nat) : Nat := 256 * (0x4100 + c) + 0x08
abbrev Obj.fecCorrected (c : Nat) : Nat := 256 * (0x4100 + c) + 0x09
abbrev Obj.fecUncorrected (c : Nat) : Nat := 256 * (0x4100 + c) + 0x0A
abbrev Obj.replayHighWater (c : Nat) : Nat := 256 * (0x4100 + c) + 0x0B
abbrev Obj.pailCreditVid (c : Nat) : Nat := 256 * (0x4100 + c) + 0x0C
abbrev Obj.timePeerPnid (c : Nat) : Nat := 256 * (0x4100 + c) + 0x0D
abbrev Obj.downReason (c : Nat) : Nat := 256 * (0x4100 + c) + 0x0E
abbrev Obj.skimMarks (c : Nat) : Nat := 256 * (0x4100 + c) + 0x0F
abbrev Obj.skimRate (c : Nat) : Nat := 256 * (0x4100 + c) + 0x10
abbrev Obj.skimDiscarded (c : Nat) : Nat := 256 * (0x4100 + c) + 0x11
abbrev Obj.dryUnits (c : Nat) : Nat := 256 * (0x4100 + c) + 0x20
abbrev Obj.laneSleeps (c : Nat) : Nat := 256 * (0x4100 + c) + 0x21
abbrev Obj.sleepTicks (c : Nat) : Nat := 256 * (0x4100 + c) + 0x22
abbrev Obj.skimNext : Nat := 0x420001
abbrev Obj.skimShare : Nat := 0x420002
abbrev Obj.tc1HdrCredits : Nat := 0x420003
abbrev Obj.tc1DataCredits : Nat := 0x420004
abbrev Obj.tc2HdrCredits : Nat := 0x420005
abbrev Obj.tc2DataCredits : Nat := 0x420006
abbrev Obj.markThresh : Nat := 0x420007
abbrev Obj.rateMax : Nat := 0x420008
abbrev Obj.bcastDedup : Nat := 0x420009
abbrev Obj.skimEchoes : Nat := 0x42000A
abbrev Obj.pathLostCount : Nat := 0x42000B
abbrev Obj.holdFwdDepth : Nat := 0x500001
abbrev Obj.boundaryHistory : Nat := 0x500002
abbrev Obj.engineInstances : Nat := 0x500003
abbrev Obj.relayCutB : Nat := 0x500004
abbrev Obj.relayCutU : Nat := 0x500005
abbrev Obj.planeLatency : Nat := 0x500006
abbrev Obj.epochArmLead : Nat := 0x500007
abbrev Obj.peerPnid : Nat := 0x500008
abbrev Obj.holdDiscardedCount : Nat := 0x500009
abbrev Obj.schedOwner (i : Nat) : Nat := 256 * 0x5000 + 0x20 + i
abbrev Obj.jobn (c : Nat) : Nat := 256 * (0x5010 + c) + 0x01
abbrev Obj.holdLead (c : Nat) : Nat := 256 * (0x5010 + c) + 0x02
abbrev Obj.selectQuantum (c : Nat) : Nat := 256 * (0x5010 + c) + 0x03
abbrev Obj.readyQuantum (c : Nat) : Nat := 256 * (0x5010 + c) + 0x04
abbrev Obj.selectLateLimit (c : Nat) : Nat := 256 * (0x5010 + c) + 0x05
abbrev Obj.fixedLatePolicy (c : Nat) : Nat := 256 * (0x5010 + c) + 0x06
abbrev Obj.holdLimit (c : Nat) : Nat := 256 * (0x5010 + c) + 0x07
abbrev Obj.launchFtime (c : Nat) : Nat := 256 * (0x5010 + c) + 0x08
abbrev Obj.launchLead (c : Nat) : Nat := 256 * (0x5010 + c) + 0x09
abbrev Obj.launchArm (c : Nat) : Nat := 256 * (0x5010 + c) + 0x0A
abbrev Obj.holdDiameter (c : Nat) : Nat := 256 * (0x5010 + c) + 0x0B
abbrev Obj.relaySpan (c : Nat) : Nat := 256 * (0x5010 + c) + 0x0C
abbrev Obj.debugStop (c : Nat) : Nat := 256 * (0x5010 + c) + 0x0D
abbrev Obj.stime (c : Nat) : Nat := 256 * (0x5010 + c) + 0x0E
abbrev Obj.step (c : Nat) : Nat := 256 * (0x5010 + c) + 0x0F
abbrev Obj.holdLog (c : Nat) : Nat := 256 * (0x5010 + c) + 0x10
abbrev Obj.planeLatencyImg (c : Nat) : Nat := 256 * (0x5010 + c) + 0x11
abbrev Obj.skimBcastTime (c : Nat) : Nat := 256 * (0x5010 + c) + 0x12
abbrev Obj.dispatchPrimary (c : Nat) : Nat := 256 * (0x5020 + c) + 0x01
abbrev Obj.dispatchDelayed (c : Nat) : Nat := 256 * (0x5020 + c) + 0x02
abbrev Obj.dispatchRefused (c : Nat) : Nat := 256 * (0x5020 + c) + 0x03
abbrev Obj.topkNanSeen (c : Nat) : Nat := 256 * (0x5020 + c) + 0x04
abbrev Obj.twaitPassed (c : Nat) : Nat := 256 * (0x5020 + c) + 0x05
abbrev Obj.selectConflict (c : Nat) : Nat := 256 * (0x5020 + c) + 0x06
abbrev Obj.churnSaturated (c : Nat) : Nat := 256 * (0x5020 + c) + 0x07
abbrev Obj.waccSaturated (c : Nat) : Nat := 256 * (0x5020 + c) + 0x08
abbrev Obj.activeBank (c : Nat) : Nat := 256 * (0x5030 + c) + 0x01
abbrev Obj.bankState (c : Nat) (i : Nat) : Nat := 256 * (0x5030 + c) + 0x02 + i
abbrev Obj.bankCmd (c : Nat) (i : Nat) : Nat := 256 * (0x5030 + c) + 0x04 + i
abbrev Obj.switchAt (c : Nat) : Nat := 256 * (0x5030 + c) + 0x06
abbrev Obj.switchSeg (c : Nat) : Nat := 256 * (0x5030 + c) + 0x07
abbrev Obj.switchArm (c : Nat) : Nat := 256 * (0x5030 + c) + 0x08
abbrev Obj.entrySeg (c : Nat) : Nat := 256 * (0x5030 + c) + 0x09
abbrev Obj.mrBase (c : Nat) : Nat := 256 * (0x5030 + c) + 0x0A
abbrev Obj.mrCount (c : Nat) : Nat := 256 * (0x5030 + c) + 0x0B
abbrev Obj.segBase (c : Nat) : Nat := 256 * (0x5030 + c) + 0x0C
abbrev Obj.segCount (c : Nat) : Nat := 256 * (0x5030 + c) + 0x0D
abbrev Obj.routeBase (c : Nat) : Nat := 256 * (0x5030 + c) + 0x0E
abbrev Obj.routeCount (c : Nat) : Nat := 256 * (0x5030 + c) + 0x0F
abbrev Obj.fence (c : Nat) : Nat := 256 * (0x5030 + c) + 0x10
abbrev Obj.fencedUnits (c : Nat) : Nat := 256 * (0x5030 + c) + 0x11
abbrev Obj.departedUnits (c : Nat) : Nat := 256 * (0x5030 + c) + 0x12
abbrev Obj.landedUnits (c : Nat) : Nat := 256 * (0x5030 + c) + 0x13
abbrev Obj.relayedUnits (c : Nat) : Nat := 256 * (0x5030 + c) + 0x14
abbrev Obj.relayLagMax (c : Nat) : Nat := 256 * (0x5030 + c) + 0x15
abbrev Obj.commitError (c : Nat) : Nat := 256 * (0x5030 + c) + 0x16
abbrev Obj.routeBank (i : Nat) : Nat := 256 * 0x5100 + 0x01 + i
abbrev Obj.routeEntries : Nat := 0x510003
abbrev Obj.mrBank (i : Nat) : Nat := 256 * 0x5200 + 0x01 + i
abbrev Obj.segBank (i : Nat) : Nat := 256 * 0x5200 + 0x03 + i
abbrev Obj.mrEntries : Nat := 0x520005
abbrev Obj.segEntries : Nat := 0x520006
abbrev Obj.dramRate : Nat := 0x600001
abbrev Obj.dramSize : Nat := 0x600002
abbrev Obj.slotReserve : Nat := 0x600003
abbrev Obj.refreshPeriod : Nat := 0x600004
abbrev Obj.refreshBusy : Nat := 0x600005
abbrev Obj.hotHoldPeriod : Nat := 0x600006
abbrev Obj.hotHoldLength : Nat := 0x600007
abbrev Obj.wfetchLead : Nat := 0x600008
abbrev Obj.rowKeep : Nat := 0x600009
abbrev Obj.refreshBand : Nat := 0x60000A
abbrev Obj.scrubInterval : Nat := 0x60000B
abbrev Obj.dramCorrected : Nat := 0x60000C
abbrev Obj.dramUncorrected : Nat := 0x60000D
abbrev Obj.hostWindowUnmapped : Nat := 0x60000E
abbrev Obj.streamEntries : Nat := 0x60000F
abbrev Obj.streamOwner (i : Nat) : Nat := 256 * 0x6000 + 0x10 + i
abbrev Obj.hostFrameMap : Nat := 0x600012
abbrev Obj.streamBankD0 (i : Nat) : Nat := 256 * 0x6000 + 0x13 + i
abbrev Obj.streamBankD1 (i : Nat) : Nat := 256 * 0x6000 + 0x15 + i
abbrev Obj.retentionRange (i : Nat) : Nat := 256 * 0x6000 + 0x20 + i
abbrev Obj.retentionOwner (i : Nat) : Nat := 256 * 0x6000 + 0x28 + i
abbrev Obj.dramInterleave (c : Nat) : Nat := 256 * (0x6010 + c) + 0x01
abbrev Obj.frameMap (c : Nat) : Nat := 256 * (0x6010 + c) + 0x02
abbrev Obj.syncCounters : Nat := 0x700001
abbrev Obj.syncVids : Nat := 0x700002
abbrev Obj.watchPool : Nat := 0x700003
abbrev Obj.barriers : Nat := 0x700004
abbrev Obj.debugCounterSet : Nat := 0x700010
abbrev Obj.debugBarrierRelease : Nat := 0x700011
abbrev Obj.debugSyncWrites : Nat := 0x700012
abbrev Obj.ctxReset (c : Nat) : Nat := 256 * (0x7010 + c) + 0x01
abbrev Obj.syncMap (c : Nat) : Nat := 256 * (0x7010 + c) + 0x02
abbrev Obj.syncInit (c : Nat) : Nat := 256 * (0x7010 + c) + 0x03
abbrev Obj.barrierBase (c : Nat) : Nat := 256 * (0x7010 + c) + 0x04
abbrev Obj.barrierCount (c : Nat) : Nat := 256 * (0x7010 + c) + 0x05
abbrev Obj.barrierInit (c : Nat) : Nat := 256 * (0x7010 + c) + 0x06
abbrev Obj.watchQuota (c : Nat) : Nat := 256 * (0x7010 + c) + 0x07
abbrev Obj.watchesHeld (c : Nat) : Nat := 256 * (0x7010 + c) + 0x08
abbrev Obj.syncState (c : Nat) : Nat := 256 * (0x7010 + c) + 0x09
abbrev Obj.syncDump (c : Nat) : Nat := 256 * (0x7010 + c) + 0x0A
abbrev Obj.syncOps (c : Nat) : Nat := 256 * (0x7010 + c) + 0x0B
abbrev Obj.remoteRefused (c : Nat) : Nat := 256 * (0x7010 + c) + 0x0C
abbrev Obj.faultLogDepth : Nat := 0x800001
abbrev Obj.eventLog : Nat := 0x800002
abbrev Obj.eventLogDepth : Nat := 0x800003
abbrev Obj.eventsLost : Nat := 0x800004
abbrev Obj.eventRoute : Nat := 0x800005
abbrev Obj.eventResume : Nat := 0x800006
abbrev Obj.bootCount : Nat := 0x800007
abbrev Obj.moduleFaults : Nat := 0x800008
abbrev Obj.resourceOwners : Nat := 0x800010
abbrev Obj.lockstepEnable : Nat := 0x800020
abbrev Obj.lockstepCtx : Nat := 0x800021
abbrev Obj.lockstepTimeout : Nat := 0x800022
abbrev Obj.lockstepDepth : Nat := 0x800023
abbrev Obj.lockstepPhases : Nat := 0x800024
abbrev Obj.lockstepTrace : Nat := 0x800025
abbrev Obj.faultFirst (c : Nat) : Nat := 256 * (0x8010 + c) + 0x01
abbrev Obj.faultLog (c : Nat) : Nat := 256 * (0x8010 + c) + 0x02
abbrev Obj.faultCount (c : Nat) : Nat := 256 * (0x8010 + c) + 0x03
abbrev Obj.faultNotices (c : Nat) : Nat := 256 * (0x8010 + c) + 0x04
abbrev Obj.perturbEnable : Nat := 0x900001
abbrev Obj.perturbInjections : Nat := 0x900002
abbrev Obj.perturbSlot (c : Nat) : Nat := 256 * (0x9010 + c) + 0x01
abbrev Obj.perturbArm (c : Nat) : Nat := 256 * (0x9010 + c) + 0x02
abbrev Obj.perturbOwner (c : Nat) : Nat := 256 * (0x9010 + c) + 0x03
abbrev Obj.keyHash : Nat := 0xA00001
abbrev Obj.fwImage : Nat := 0xA00002
abbrev Obj.fwCtrl : Nat := 0xA00003
abbrev Obj.fwState : Nat := 0xA00004
abbrev Obj.fwOwner : Nat := 0xA00005
abbrev Obj.fwSource : Nat := 0xA00006
abbrev Obj.fwSvn : Nat := 0xA00007
abbrev Obj.norFwVersion : Nat := 0xA00008
abbrev Obj.norFwSvn : Nat := 0xA00009
abbrev Obj.rollbackFloor : Nat := 0xA0000A
abbrev Obj.pushWindow : Nat := 0xA0000B
abbrev Obj.moduleReset : Nat := 0xA0000C
abbrev Obj.fwFaults : Nat := 0xA0000D
abbrev Obj.fwIdleTimeout : Nat := 0xA0000E
abbrev Obj.identityStatus : Nat := 0xA00010
abbrev Obj.identityPubkey : Nat := 0xA00011
abbrev Obj.identityCert : Nat := 0xA00012
abbrev Obj.attestNonce : Nat := 0xA00013
abbrev Obj.attestState : Nat := 0xA00014
abbrev Obj.attestEvidence : Nat := 0xA00015
abbrev Obj.attestCtx : Nat := 0xA00016
abbrev Obj.debugChallenge : Nat := 0xA00020
abbrev Obj.debugToken : Nat := 0xA00021
abbrev Obj.debugClose : Nat := 0xA00022
abbrev Obj.debugScope : Nat := 0xA00023
abbrev Obj.pcieStatus : Nat := 0xB00001
abbrev Obj.bar2Size : Nat := 0xB00002
abbrev Obj.doorbellMap : Nat := 0xB00003
abbrev Obj.proxyHome : Nat := 0xB00004
abbrev Obj.xFunction (i : Nat) : Nat := 256 * 0xB000 + 0x05 + i
abbrev Obj.bridgeQueues : Nat := 0xB00007
abbrev Obj.mbCollisions : Nat := 0xB00008
abbrev Obj.mbStaleAcks : Nat := 0xB00009
abbrev Obj.proxyRequests : Nat := 0xB0000A
abbrev Obj.vatAssign (c : Nat) : Nat := 256 * (0xB010 + c) + 0x01
abbrev Obj.pailPages (c : Nat) : Nat := 256 * (0xB010 + c) + 0x02
abbrev Obj.slotTable (c : Nat) : Nat := 256 * (0xB010 + c) + 0x03
abbrev Obj.vatEntry (c : Nat) : Nat := 256 * (0xB010 + c) + 0x04
abbrev Obj.jobSeed (c : Nat) : Nat := 256 * (0xB010 + c) + 0x05
abbrev Obj.imageDigest (c : Nat) : Nat := 256 * (0xB010 + c) + 0x06

end Sys2Proof.Machine
end

