-- ==== Sys2Proof/Machine/State.lean ====
section
/-! DEFINITION. The state of the module as plain data, the stop reasons, and the state right after reset. A sparse
table is a list of key and value pairs with strictly rising keys and no entry equal to what an unlisted key reads as. -/
namespace Sys2Proof.Machine
open Sys2Proof

/-! ### Vats (02, 05, 06) -/

/-- What a vat's sequencer is doing (05 R178, R187, R190, R198, R199); a fault stops issue in any of them (R175). -/
inductive Run where
  | halted                              -- HALT, no entry address, or no job
  | issuing
  | tickWait (t : W48)                  -- TWAIT for STIME t
  | syncWait (d : Nat)                  -- SWAIT or SCLAIM, result to S[d]
  | barrierWait                         -- BARR
  deriving DecidableEq, Repr

/-- One active hardware loop (R186). -/
structure LoopFrame where
  first     : W48
  last      : W48
  remaining : W32
  index     : W32
  deriving DecidableEq, Repr

/-- A queued pail-ready mark (R193): slot or page, number, generation, program age. -/
structure Mark where
  slot : Bool
  num  : Nat
  gen  : Byte
  age  : Nat
  deriving DecidableEq, Repr

/-- A sync instruction on its way to the sync unit, in program order (R179, R196-R200). -/
inductive SyncReq where
  | add (vid : Nat) (amount : Int)
  | set (vid : Nat) (value : W32)
  | read (vid : Nat) (d : Nat)
  | wait (vid : Nat) (eq : Bool) (value : W32)
  | claim (vid : Nat) (amount : W32)
  | arrive (vid : Nat)
  | watch (vid : Nat) (cond : Nat) (value : W32) (target : Nat) (d : Nat)
  | unwatch (handle : BitVec 16)
  deriving DecidableEq, Repr

/-- A sync request with its program age and its instruction's address. -/
structure SyncEntry where
  req : SyncReq
  age : Nat
  pc  : W48
  deriving DecidableEq, Repr

/-- A result on its way back to the vat for SRD and WATCH (R197, R200): destination, value, and LSTAT for a WATCH. -/
structure ReadResult where
  d     : Nat
  value : W32
  lstat : Option (BitVec 16)
  deriving DecidableEq, Repr

/-- A notification on its way to a waiting vat (R198). -/
structure Notice where
  value  : W32
  status : BitVec 16
  deriving DecidableEq, Repr

/-- The notice of a sync-unit fault (R196): what the faulting operation owes the vat. -/
inductive FaultEcho where
  | none
  | read (d : Nat)
  | wait
  | watch (d : Nat)
  deriving DecidableEq, Repr

/-- A compute instruction with the register values captured at issue (R206). -/
structure EngineOp where
  op   : Byte                            -- opcode of R219, R238-R241, R244-R248
  w    : BitVec 56                       -- the instruction's fields
  a0   : W48                             -- A[AD], or A[SA] of format M
  a1   : W48                             -- A[AA]
  a2   : W48                             -- A[AB]
  s0   : W32                             -- S[SA], or S[SB] of format M
  s1   : W32                             -- S[SB], or S[SB + 1] of WCVT
  s2   : W32                             -- S[SD] for TOPK, or S[SB + 2] of WCVT
  step : W64                             -- STEP at issue (R130)
  deriving DecidableEq, Repr

/-- An entry of an engine queue (R204). -/
structure QEntry where
  eng   : Engine
  op    : EngineOp
  age   : Nat
  pc    : W48
  begun : Bool
  deriving DecidableEq, Repr

/-- Tag of a tile buffer (R221). -/
structure TileTag where
  fmt     : Nat
  k       : Nat
  spk     : Nat
  present : Byte
  deriving DecidableEq, Repr

/-- Status of a window-accumulator bank (R109, R115). -/
structure BankStat where
  w       : BitVec 10
  ovf     : Bool
  sat     : Bool
  inexact : W32
  deriving DecidableEq, Repr

/-- A record waiting in a vat's event queue (R189). -/
structure VatEvent where
  imm : BitVec 16
  a   : W32
  b   : W32
  pc  : W48
  deriving DecidableEq, Repr

/-- One vat: sequencer, engines, island clock (02 R70, R97; 05 R171, R172; 06 R204, R221). -/
structure VatState where
  sreg     : List (Nat × W32)
  areg     : List (Nat × W48)
  preg     : List (Nat × Bool)
  vreg     : List (Nat × W32)            -- key 64 * register + lane
  pc       : W48
  run      : Run
  stopped  : Bool                        -- a fault has stopped issue (R175)
  step     : W64
  trel     : W48
  lstat    : BitVec 16
  cyc      : W64
  cycHi    : W32                         -- latched by a read of CYC_LO (R172)
  loops    : List LoopFrame              -- innermost first
  nextAge  : Nat
  marks    : List Mark
  events   : List VatEvent
  syncq    : List SyncEntry
  results  : List ReadResult
  stimes   : List (Nat × W48)            -- pending RDST results: A register, value
  notices  : List Notice
  echoes   : List FaultEcho
  remote   : Nat                         -- remote SADDs waiting for a tag (R373)
  queue    : List QEntry                 -- all engines, oldest first
  tokens   : Nat
  tiles    : List (Nat × Byte)           -- key 4096 * tile + byte
  sides    : List (Nat × Byte)           -- key 1280 * tile + byte
  tags     : List (Nat × TileTag)
  acc      : List (Nat × BitVec 144)     -- key 1024 * bank + element
  banks    : List (Nat × BankStat)
  satCnt   : BitVec 16
  nanSeen  : Bool
  slotGen  : List (Nat × Byte)
  freq     : Nat                         -- MHz
  temp     : Int
  gated    : Bool
  stretches : W32
  stepdowns : W32
  stretchRun : Nat
  runSinceRecover : Bool                 -- a stretch run since the last ADAPT_RECOVER interval began (R76)
  stretchLog : Nat                       -- grid tick of the last ISLAND_STRETCH event, plus 1 (R76)
  deriving DecidableEq, Repr

/-! ### Contexts: the schedule (01, 08, 11, 12) -/

/-- Whether a context has a job, and how far it is. -/
inductive JobState where
  | none | armed | running | ended
  deriving DecidableEq, Repr

/-- A hold record (R34): `dur = none` is indefinite. -/
structure HoldRec where
  origin : BitVec 12
  start  : Nat                           -- STIME of the freeze, unwrapped
  dur    : Option Nat
  cause  : Nat
  power  : Bool
  deriving DecidableEq, Repr

/-- Why this module raised a record, so that it can extend it (R45). -/
inductive Raiser where
  | replay (p : Nat)
  | discarding (p : Nat)
  | bufferFull (p : Nat)
  | lateVat (t : Nat)
  | lateSelector (boundary : Nat)
  | debugger
  | retrain (p : Nat)
  deriving DecidableEq, Repr

/-- The hold in force (R38, R40): frozen at `start`, released when `elapsed` reaches `total`. -/
structure HoldNow where
  start   : Nat
  total   : Nat
  indef   : Bool
  power   : Bool
  causes  : Byte
  origin  : BitVec 12
  united  : Nat
  elapsed : Nat                          -- grid ticks since the freeze
  logged  : Bool                         -- the event of an indefinite hold is logged (R416)
  deriving DecidableEq, Repr

/-- A soft resume in progress: grid ticks since the release that started it (R51, R52). -/
structure SoftResume where
  at_ : Nat
  deriving DecidableEq, Repr

/-- A selector kept for a coming boundary (R27). -/
structure Selector where
  step  : W32
  value : BitVec 4
  deriving DecidableEq, Repr

/-- A departure instance (R308). `live` is the units it departs, known once its first tick has come; `buf` holds units read and not yet
departed, the next one first (R87); `fenced` gives the suppressed branches: port and LNID (R334). -/
structure Depart where
  bank     : Nat
  entry    : Nat
  k        : Nat
  t        : Nat
  expect   : Nat                         -- generation expected at T - L (R309)
  inc      : Int                         -- bytes its repetition adds to the source
  live     : Nat
  begun    : Bool
  done     : Nat
  read     : Nat
  buf      : List (List Byte)
  signal   : Bool                        -- the sender's signal-after-read has been given (R312)
  fenced   : List (Nat × Nat)
  deriving DecidableEq, Repr

/-- A landing or relay instance in a port's walk (R315, R321). `missed` counts the units reported past their deadline (R50). -/
structure Arrive where
  bank   : Nat
  entry  : Nat
  port   : Nat
  k      : Nat
  t      : Nat
  inc    : Int                           -- bytes its repetition adds to the landing address
  done   : Nat
  live   : Nat
  missed : Nat
  fenced : Bool
  lost   : List Nat                      -- units of a relay whose planned out tick another entry took (R311)
  deriving DecidableEq, Repr

/-- A unit that waits to leave on a port, in plan order: a relayed one from its arrival, or a departure's behind a relayed unit that is late
(R322). `ready` is the first grid tick on which it may leave; `live` counts the units of its instance. -/
structure RelayUnit where
  port    : Nat
  planned : Nat
  ready   : Nat
  bank    : Nat
  entry   : Nat
  k       : Nat
  index   : Nat
  live    : Nat
  last    : Bool
  pay     : List Byte
  deriving DecidableEq, Repr

/-- The receiver's signal of a landing that is written and not yet applied (R318). -/
structure LandSignal where
  vid   : Nat
  port  : Nat
  entry : Nat
  deriving DecidableEq, Repr

/-- State of a table bank (R306). -/
inductive BankState where
  | empty | loading | loaded | active | draining
  deriving DecidableEq, Repr

/-- A 64-byte fault record (R409), by field. -/
structure FaultRec where
  code    : BitVec 16
  cls     : Nat
  ctx     : Option Nat
  first   : Bool
  precise : Bool
  pnid    : BitVec 9
  lnid    : Option (BitVec 12)
  unit    : BitVec 16
  bank    : Bool
  jobn    : BitVec 4
  stime   : W48
  ftime   : W64
  entry   : W32
  step    : W64
  detail  : List Byte
  deriving DecidableEq, Repr

/-- An event record (R418). -/
structure Event where
  source : BitVec 16
  code   : BitVec 16
  seq    : W32
  ftime  : W64
  detail : List Byte
  queue  : Option Nat                    -- the host queue it is still bound for
  deriving DecidableEq, Repr

/-- Where the schedule stands: bank, segment, repetition and its first tick, and the step counter in force (R23, R24). -/
structure Place where
  bank : Nat
  seg  : Nat
  rep  : Nat
  t0   : Nat
  step : W64
  deriving DecidableEq, Repr

/-- SYNC_STATE (R382). -/
inductive SyncState where
  | none | live | frozen
  deriving DecidableEq, Repr

/-- Settings of a left variant that stay in force until TOKEN_GRACE ticks after a lowering boundary (R95, R443). -/
structure Grace where
  until_ : Nat
  ceil0  : Nat
  ceil1  : Nat
  freq   : Nat
  deriving DecidableEq, Repr

/-- One context. Its scalar objects stand in `State.objs`, its DOMAIN objects in `State.doms`. -/
structure CtxState where
  job        : JobState
  failed     : Bool                      -- a notice came before launch (R415)
  barrier    : Bool                      -- armed by BARRIER
  lnid       : BitVec 12
  unit       : Nat                       -- the claimed launch compare unit
  launchAt   : Option W64
  stime      : Nat                       -- STIME, unwrapped; the register is its low 48 bits
  executed   : Bool                      -- tick `stime` has executed
  place      : Option Place              -- none after the job's end
  step       : W64
  boundaries : List (Nat × W64)          -- last phase boundaries and the step after each, newest first (R191)
  crossed    : Nat                       -- boundaries since launch
  holds      : List HoldRec
  raised     : List (Nat × Raiser)       -- start tick and reason of this module's own records
  hold       : Option HoldNow
  chain      : Nat                       -- applied length of the continued hold so far (R43)
  exempt     : Bool
  limitHit   : Bool
  soft       : Option SoftResume
  deferred   : Bool                      -- this grid tick's STIME tick waits for HOLD_RELEASE or SOFT_RESUME_WINDOW
  selectors  : List Selector
  emitted    : List W32                  -- steps whose budget selector this module has emitted (R446)
  lateSel    : Nat                       -- late-selector hold ticks at the present boundary (R47)
  bank0      : BankState
  bank1      : BankState
  switch     : Option (Nat × Nat)        -- armed switch: σ and SWITCH_SEG (R326)
  sigma      : Nat                       -- σ of the last switch, for the event at its drain
  checkedTo  : Nat                       -- readiness checks are made for every T below this
  createdTo  : Nat                       -- arrival instances exist for every T below this
  dueTo      : Nat                       -- instances with T below this count for the engine capacity (R313)
  departs    : List Depart
  walk       : List Arrive
  relays     : List RelayUnit
  signals    : List LandSignal
  fenceSeen  : List (Nat × Nat × Nat)    -- fenced LNID: units since its last event, grid tick of that event (R335)
  first      : Option FaultRec
  log        : List FaultRec             -- oldest first
  notices    : List (List Byte)          -- FAULT_NOTICES: 64-byte records of other modules, oldest first (R415)
  holdLog    : List Event                -- HOLD_APPLIED records of the job, oldest first (R67)
  sync       : SyncState
  lossReason : Nat                       -- 1 reset, 2 pre-empted
  badBanks   : List Nat                  -- banks with a fault of one of their instances (R328)
  imageIntlv : Option Nat                -- DRAM_INTERLEAVE as it stood when the image's digest was written (R260)
  freezeF    : W64
  freezeS    : W48
  epochs     : Nat                       -- armings since reset: a foreign mapping to an older one is gone (R405)
  variant    : Nat
  permitted  : Nat
  quiet      : Nat                       -- samples (100 us) since theta > 0 or a report (R444)
  hot        : Nat
  reports    : List (Nat × Nat)          -- leader's entry per member, default LAUNCH_VARIANT
  owedReport : Bool                      -- a refused report waits for its retry (R445)
  ceil0      : Nat                       -- token ceilings of the current variant
  ceil1      : Nat
  freq       : Nat                       -- FREQ of the current variant, MHz; 0 for none (R442)
  grace      : List Grace                -- older settings still in force (R95, R443)
  measure0   : List Byte                 -- table measurement of each bank at its COMMIT (R552)
  measure1   : List Byte
  tail       : Nat                       -- grid ticks since the job's end: units already begun go on by it (R301)
  deriving DecidableEq, Repr

/-! ### Ports: the Septox link (09) -/

/-- Link states (R344). -/
inductive LinkState where
  | down | detect | equalize | lock | param | delay | active | retrain | listen
  deriving DecidableEq, Repr

/-- A sequenced unit in the replay buffer (R353, R360). -/
structure TxUnit where
  count : BitVec 12
  hdr   : W64
  pay   : List Byte
  deriving DecidableEq, Repr

/-- A hold record waiting on a port's hold-forward queue (R35). -/
structure HoldFwd where
  jobn : BitVec 4
  hold : HoldRec
  deriving DecidableEq, Repr

/-- A skim message waiting on a port, with what brought it (R363, R372): `own` messages are rate-limited. -/
structure SkimOut where
  msg : SkimMsg
  own : Bool
  arr : Option Nat                       -- the port whose input buffer holds it until it leaves (R365)
  via : Nat                              -- PNID of the route word on an uplink (R368)
  deriving DecidableEq, Repr

/-- Credit counts of one skim class (R365). -/
structure Credit where
  advHdr   : Nat
  advData  : Nat
  sentHdr  : BitVec 12
  sentData : BitVec 12
  retHdr   : BitVec 12
  retData  : BitVec 12
  freedHdr : BitVec 12                   -- freed here, to be returned
  freedData : BitVec 12
  toldHdr  : BitVec 12                   -- last returned to the peer
  toldData : BitVec 12
  rate     : Nat                         -- R372
  sent     : Nat
  echoed   : Bool
  cut      : Nat                         -- grid tick of the last halving, plus 1; 0 for never
  deriving DecidableEq, Repr

/-- A retrain or reset under way (R348, R349). -/
structure Retrain where
  lead  : Bool
  jobn  : Option (BitVec 4)
  start : Nat                            -- STIME S with a job, FTIME instant without
  deriving DecidableEq, Repr

/-- One fabric port. -/
structure PortState where
  link       : LinkState
  lanes      : Nat
  half       : Bool
  txSleep    : Bool
  gap        : Nat                       -- grid ticks until the next unit may begin
  waking     : Nat                       -- grid tick from which a waking port may send
  peerSleep  : Bool
  peerDeep   : Bool
  discarding : Bool
  expect     : BitVec 12                 -- E
  tseq       : BitVec 12
  buffer     : List TxUnit               -- unacknowledged, oldest first
  resend     : Nat                       -- backlog: how many at the end of `buffer` are still to be sent again
  waitq      : List TxUnit               -- units that wait for buffer space
  unacked    : Nat                       -- accepted units not yet acknowledged
  nakOwed    : Bool
  ackOwed    : Bool
  creditDue  : Bool                      -- credit returns are due whatever their number (R365)
  nakFor     : BitVec 12
  nakCount   : Nat
  full       : Bool                      -- a cause 1 hold stands until occupancy falls to 64 (R45)
  fwd        : List HoldFwd
  carried    : List (BitVec 12 × HoldFwd) -- records carried in TC3 units since each count (R356)
  tc3        : List (Nat × List Byte)    -- pending TC3 units: kind, payload
  skim1      : List SkimOut
  skim2      : List SkimOut
  credit1    : Credit
  credit2    : Credit
  held1      : Nat                       -- messages in the input buffer of each class
  held2      : Nat
  retrain    : Option Retrain
  wantRetrain : Bool
  coeffs     : Bool                      -- stored equalisation coefficients are valid
  exchanges  : Nat                       -- delay exchanges made
  rttSum     : Nat
  peer       : BitVec 16                 -- PEER_PNID
  lastFtime  : W64                       -- FTIME of the last unit accepted
  wakeSend   : Bool                      -- sending the wake pattern
  stall      : Nat                       -- grid tick from which a perturbed transmitter may send again (R437 kind 1)
  peerWake   : Nat                       -- grid tick by which a waking peer must be heard; 0 for none (R376)
  resumed    : Bool                      -- training resumed from stored coefficients (R345)
  back       : Bool                      -- training from LISTEN, or after the wake of a DEEP peer (R377, R379)
  corrupt    : Nat                       -- units whose CRC is to be inverted (R437 kind 2)
  withhold   : BitVec 2                  -- withheld credit returns (R437 kind 3)
  withholdTo : Nat                       -- grid tick on which that ends
  drop       : W32                       -- TYPEs of which a message is to be dropped (R437 kind 8)
  dropIn     : Nat                       -- how many messages of those TYPEs from now it is
  discardAt  : Nat                       -- grid tick of the last HOLD_DISCARDED record, plus 1 (R36)
  timePeers  : List (Nat × Nat)          -- PNIDs with a DELAY_REQ, and intervals since (R375)
  fecC       : Bool                      -- codewords may have come since FEC_CORRECTED was last read (R343, R381)
  fecU       : Bool                      -- codewords may have come since FEC_UNCORRECTED was last read
  peerRtts   : List Nat                  -- the last 16 round trips to an uplink's time peer, newest first (R375)
  deriving DecidableEq, Repr

/-! ### Sync unit (10) -/

/-- A counter (R383, R384). -/
structure Counter where
  value  : W32
  limit  : W32
  sense  : Bool
  deriving DecidableEq, Repr

/-- Condition of a watch (R392). -/
inductive Cond where
  | ge | eq | flip
  deriving DecidableEq, Repr

/-- Where a notification goes (R396). -/
inductive Target where
  | vat (v : Nat)
  | mp
  | queue (q : Nat)
  deriving DecidableEq, Repr

/-- What a watch watches: a physical counter or a physical barrier. -/
inductive Watched where
  | counter (n : Nat)
  | barrier (n : Nat)
  deriving DecidableEq, Repr

/-- A registered watch (R392, R393, R407). -/
structure Watch where
  on      : Watched
  ctx     : Nat                          -- the context that registered it
  vid     : Nat
  cond    : Cond
  value   : W32
  sense   : Bool                         -- SENSE at registration
  claim   : Bool
  target  : Target
  handle  : BitVec 16                    -- 0xFFFF for a vat's reserved entry
  number  : Nat                          -- registration number on the counter
  lost    : Bool                         -- ended by owner loss
  deriving DecidableEq, Repr

/-- A barrier (R397, R398). `waiters` are vats; a host arrival waits for nothing. -/
structure Barrier where
  vid     : Nat
  root    : BitVec 12
  modN    : Nat
  locN    : Nat
  launch  : Bool
  sent    : Bool
  sense   : Bool
  loc     : Nat
  count   : Nat
  episode : W32
  waiters : List Nat
  deriving DecidableEq, Repr

/-- The sync unit and its host port. -/
structure SyncUnit where
  counters : List (Nat × Counter)        -- key: physical counter
  barriers : List (Nat × Barrier)        -- key: physical barrier
  watches  : List Watch                  -- in registration order
  gens     : List (Nat × BitVec 4)       -- generation of each pool entry
  regs     : List (Nat × Nat)            -- registrations so far: key counter, or 65536 + barrier
  mapEpoch : List (Nat × Nat)            -- key 16 * mapping + owner: owner's epoch when the mapping was armed
  rdDone   : Bool
  rdStatus : BitVec 16
  rdValue  : W32
  rdPend   : Option Nat                  -- grid tick of a read whose DONE may still be due (10 R390)
  wDone    : Bool
  wFail    : Bool
  wHandle  : BitVec 16
  wPend    : Option Nat                  -- the same for a registration
  last     : BitVec 16
  busy     : Bool
  refused  : Bool
  nojob    : Bool
  loggedRefusals : List (Nat × Nat)      -- context and vid already logged (R404)
  deriving DecidableEq, Repr

/-! ### Memory controllers (07) -/

/-- A stream descriptor (R270). -/
structure StreamDesc where
  jbase   : Nat
  seg     : Nat
  start   : Nat
  spacing : Nat
  write   : Bool
  gated   : Bool
  gate    : Nat
  gen     : Nat
  vatID   : Nat
  vbase   : Nat
  count0  : Nat
  count1  : Nat
  count2  : Nat
  stride1 : Int
  stride2 : Int
  rincD   : Int
  rincV   : Int
  signal  : Bool
  vid     : Nat
  bad     : Bool                         -- a reserved bit is set, or a field's value is not defined
  deriving DecidableEq, Repr

/-- A stream instance (R271). -/
structure StreamRun where
  ctx  : Nat
  die  : Nat
  bank : Nat
  idx  : Nat
  k    : Nat
  ts   : Nat
  slot : Nat                             -- first stream slot, counted in stream slots
  i    : Nat                             -- granules issued
  done : Nat                             -- granules completed
  dead : Bool                            -- stopped by a fault
  begun : Bool                           -- its start tick has executed (R274)
  fetch : List (Nat × List Byte)         -- write data fetched ahead of the slot, by granule (R272)
  desc  : StreamDesc                     -- the descriptor under which it runs to its end (R270)
  deriving DecidableEq, Repr

/-- A granule issued and not completed (R272). -/
structure Granule where
  ch   : Nat
  ctx  : Nat
  die  : Nat
  bank : Nat
  idx  : Nat
  k    : Nat
  ts   : Nat                             -- start of its run
  live : Bool                            -- its run has not been abandoned by a context reset (R275)
  n    : Nat
  read : Bool
  pa   : Nat
  ja   : Nat
  va   : Nat                             -- BAR4 offset of the vat SRAM bytes
  data : List Byte                       -- fetched write data
  deriving DecidableEq, Repr

/-- What the controller knows of one bank: the open row and the last command slots (R266, R267). -/
structure BankTime where
  row  : Option Nat
  act  : Nat                             -- slot of the last activate, plus 1; 0 for never
  rd   : Nat
  wr   : Nat
  deriving DecidableEq, Repr

/-- Memory state beside the cells. -/
structure MemUnit where
  streams  : List StreamRun
  issued   : List Granule
  slots    : List (Nat × Nat)            -- next channel slot of each channel, counted from launch
  banks    : List (Nat × BankTime)       -- key 32 * channel + 16 * rank + bank
  acts     : List (Nat × List Nat)       -- key 2 * channel + rank: slots of the last four activates
  lastRd   : List (Nat × Nat)            -- channel: slot of the last read, plus 1
  lastWr   : List (Nat × Nat)
  refreshed : List (Nat × Nat)           -- die: grid ticks run since its last all-bank refresh (R278)
  bands    : List (Nat × Byte)           -- package: refresh band
  temps    : List (Nat × Int)
  patrol   : List (Nat × (Nat × Nat))    -- channel: next sector of the patrol, grid tick from which it is due (R282)
  fixes    : List (Nat × Nat)            -- channel, PA of a corrected sector the patrol has yet to write back (R282)
  corrected : List (Nat × (Nat × List Nat)) -- channel: grid tick of its last event plus 1, ticks of the last second's corrections (R280)
  rate     : Nat                         -- DRAM_RATE in force since the last module reset or DEEP exit (R253)
  closed   : List (Nat × List (Nat × Nat)) -- dies whose banks a long hold has precharged: the rows that were open, by bank key (R269)
  auto     : List (Nat × Nat)            -- die: the bank its own refresh takes next (R277)
  asked    : List (Nat × Nat)            -- die: start of the refresh hold it has raised, plus 1 (R278)
  deriving DecidableEq, Repr

/-! ### Time block (01 R63) -/

/-- One compare unit (R64, R65). -/
structure Compare where
  ctrl     : W32
  missed   : BitVec 16
  overrun  : Bool
  captured : Bool
  fired    : Bool
  armed    : Bool
  target   : W64
  period   : W64
  capture  : W64
  deriving DecidableEq, Repr

/-- A pulse being driven on a TPULSE pin (R61, R64): its level, and the F-die cycle, counted from reset, before which it does not end. -/
structure Pulse where
  pin    : Nat
  level  : Bool
  until_ : Nat
  deriving DecidableEq, Repr

/-- The time bases. -/
structure Times where
  ftime    : W64
  grid     : Nat                         -- grid ticks since reset
  htime    : W64
  hfrac    : Nat                         -- fraction of HTIME, in units of 2^-32 / 100 ns
  hrate    : W32
  atime    : W48
  afrac    : Nat                         -- fraction of ATIME, in units of 10 ps
  locked   : Bool
  holdover : Bool
  slew     : Int                         -- FTIME units still to be slewed (R17)
  stepped  : Bool                        -- the first lock since reset or DEEP exit has been taken
  alt      : Bool                        -- the alternate parent supplies FTIME
  offset   : BitVec 16
  snapCtx  : Nat
  snapF    : W64
  snapH    : W64
  snapA    : W64
  snapS    : W64
  snapN    : W64
  cmps     : List (Nat × Compare)
  pulses   : List Pulse                  -- TPULSE pins being driven active
  latches  : List (Nat × W32)            -- latched upper halves, by register offset (R9)
  staged   : List (Nat × W32)            -- staged lower halves (R62)
  deriving DecidableEq, Repr

/-! ### Events and module faults (11) -/

/-- A tally of lost records (R589). -/
structure Tally where
  source : BitVec 16
  first  : W32
  count  : W32
  deriving DecidableEq, Repr

/-- The event unit. -/
structure EventUnit where
  ring    : List Event                   -- oldest first
  seqs    : List (Nat × W32)
  tallies : List Tally
  module  : List FaultRec                -- MODULE_FAULTS, oldest first
  emcy    : List Nat                     -- grid ticks of the emergency frames of the last second (R528)
  mute    : Bool                         -- host-bound traffic waits for EVENT_RESUME (R489)
  deriving DecidableEq, Repr

/-! ### Skim requests (09 R371, R373) -/

/-- What issued a request. -/
inductive Issuer where
  | vat (v c lnid vid : Nat)             -- remote SADD of a vat in context c (R388)
  | host (c lnid vid : Nat)              -- host ADD through a remote mapping (R386)
  | proxy (slot : Nat)
  | report (c : Nat)
  | event (queue : Nat) (source : BitVec 16) (seq : W32)
  | dropped                              -- its proxy slot was reset: the reply is discarded (R471)
  deriving DecidableEq, Repr

/-- An outstanding request (R373). -/
structure Request where
  tag    : BitVec 12
  gen    : BitVec 4
  port   : Nat
  issuer : Issuer
  deriving DecidableEq, Repr

/-- The skim layer. -/
structure SkimUnit where
  reqs    : List Request                 -- in issue order
  gens    : List (Nat × BitVec 4)        -- generation of each tag
  waiting : List (Issuer × SkimMsg)      -- requests waiting for a free tag
  seen    : List (BitVec 9 × BitVec 16)  -- broadcast identifiers: SRC, GEN and TAG; newest first
  bseq    : BitVec 16
  echoes  : List (Nat × Nat)             -- PNID: grid tick of the last echo sent, plus 1
  deriving DecidableEq, Repr

/-! ### Power (12) -/

/-- Domain states (R455). -/
inductive Level where
  | run | idle | sleep | deep
  deriving DecidableEq, Repr

/-- One power domain (R459, R460). -/
structure DomainState where
  level   : Level
  moving  : Option Level                 -- the level a rise or a fall under way leads to
  due     : Bool                         -- FLOOR_DELAY has passed and a fall waits for its turn (R459)
  deriving DecidableEq, Repr

/-- Where a power fail stands (R452). -/
inductive PowerFail where
  | none | detected | committed
  deriving DecidableEq, Repr

/-- Power and thermal state. -/
structure PowerUnit where
  theta     : Nat
  peak      : Nat
  throttled : Nat                        -- samples throttled
  compute   : DomainState
  fabric    : DomainState
  memory    : DomainState
  host      : DomainState
  votes     : List (Nat × W32)           -- written votes: slots 16, 20, 21
  wakeHold  : Bool
  wakeDue   : Option Nat                 -- source of a wake that waits for a descent to complete (R460)
  held      : Option Domain              -- domain that a request held in slot 22 addresses (R458, R461)
  busyMp    : Bool                       -- slot 17: commit, firmware update or NOR write
  off       : Bool
  fail      : PowerFail
  tripped   : Bool                       -- arming refused until T_max falls (R451)
  tmax      : Int
  sensors   : List (Nat × (Nat × Int))   -- hottest index and temperature per sensor kind
  saved     : Bool                       -- retention list saved: the module is in DEEP
  savedH    : W64
  savedA    : W48
  deriving DecidableEq, Repr

/-! ### Host door (13, 14) -/

/-- State of the PCIe link (13 R470). -/
inductive PcieLink where
  | down | l0 | l0p | l1 | l12
  deriving DecidableEq, Repr

/-- A mailbox (R476-R479). -/
structure Mailbox where
  data      : List (Nat × W32)
  full      : Bool
  collision : Bool
  seq       : Byte
  taken     : Option (Byte × List W32)   -- the MP's copy
  ack       : W32
  deriving DecidableEq, Repr

/-- A host event queue (R482). -/
structure EventQueue where
  base    : W64
  size    : W32
  ctrl    : W32
  prod    : W32
  cons    : W32
  dmaErr  : Bool
  unsignalled : Nat
  deriving DecidableEq, Repr

/-- A proxy slot (R486). -/
structure ProxySlot where
  ctrl   : W32
  busy   : Bool
  done   : Bool
  status : BitVec 16
  addr   : W64
  data   : List (Nat × W32)
  deriving DecidableEq, Repr

/-- A dictionary engine slot (R512-R514). -/
structure EngineSlot where
  cmd    : W32
  busy   : Bool
  done   : Bool
  status : BitVec 16
  obj    : W32
  len    : W32
  offset : W32
  size   : W32
  xfer   : W32
  addr   : W64
  data   : List (Nat × Byte)
  dma    : List Byte                     -- data of a long write not yet applied (R508)
  moved  : Nat                           -- bytes of a long request read or applied so far (R508)
  deriving DecidableEq, Repr

/-- A debug session (R516, R561). -/
structure Session where
  path   : Nat                           -- 0 host door, 1 proxied, 2 bridge
  via    : BitVec 9                      -- proxy PNID or X port
  scope  : BitVec 16
  expiry : W48
  deriving DecidableEq, Repr

/-- The host door. -/
structure HostUnit where
  linkUp   : Bool
  link     : PcieLink
  bar2     : Nat                         -- log2 of the size of BAR2 (07 R284)
  perst    : Bool
  toMp     : List (Nat × Mailbox)
  toHost   : List (Nat × Mailbox)
  dbIn     : W64
  dbOut    : W64
  dbOutMask : W64
  dbInMask : W64
  queues   : List (Nat × EventQueue)
  vectors  : List (Nat × W32)            -- MSI-X table words: key 4 * vector + word (R473)
  masked   : W64                         -- MSI-X vectors masked
  pendingV : W64                         -- MSI-X pending bits
  proxies  : List (Nat × ProxySlot)
  engines  : List (Nat × EngineSlot)
  sram     : Bool                        -- BAR4 is open (R590)
  session  : Option Session
  everDebug : Bool                       -- a debug session opened since reset
  token    : List (Nat × Byte)           -- DEBUG_TOKEN bytes as written
  refusals : Nat
  lockout  : Bool
  challenge : BitVec 128
  draws    : Nat                         -- entropy drawn so far
  status   : BitVec 16                   -- status of the last dictionary-like command (R413)
  deriving DecidableEq, Repr

/-- A segmented CAN transfer (R525). -/
structure CanXfer where
  write  : Bool
  tid    : Byte
  ix     : BitVec 16
  sub    : Byte
  off    : Nat
  total  : Nat
  data   : List Byte                     -- read: bytes still to send; write: bytes of the open chunk
  seq    : Nat                           -- segments sent or taken
  acked  : Nat
  window : Nat
  applied : Nat
  repeats : Nat
  deriving DecidableEq, Repr

/-- The management door (14 R520-R529). -/
structure CanUnit where
  isOpen   : Bool
  busOff   : Bool
  tec      : Nat                         -- transmit error count (14 R520, R532)
  rec_     : Nat                         -- receive error count
  rate     : Nat                         -- CAN_DATA_RATE in force since the last module reset (14 R520)
  reqOwn   : List Byte
  rspOwn   : List Byte
  reqAll   : List Byte
  rspAll   : List Byte
  xfer     : Option CanXfer
  beats    : Byte
  class2   : Bool                        -- a class 2 fault since the last heartbeat
  deriving DecidableEq, Repr

/-! ### Boot and the config store (15) -/

/-- What the MP is doing (R536, R537, R545). -/
inductive MpState where
  | off                                  -- before reset release
  | rom (window : Bool)                  -- boot ROM; the push window is open
  | starting                             -- an image was started and has not reported
  | running
  | restarting                           -- MP restart (R545)
  deriving DecidableEq, Repr

/-- FW_STATE (R543). -/
inductive FwState where
  | empty | loading | verifying | verified | failed | programming
  deriving DecidableEq, Repr

/-- A config-store record (R554). -/
structure CsRecord where
  key     : Nat                          -- 256 * index + subindex
  floor   : Bool                         -- kind 2
  seq     : W32
  value   : List Byte
  good    : Bool                         -- commit word and CRC in place
  block   : Nat
  deriving DecidableEq, Repr

/-- Boot, firmware, config store, identity. -/
structure BootUnit where
  mp       : MpState
  scanned  : Bool
  cause    : Byte
  pushed   : Bool                        -- a push has begun
  norOk    : Option Bool                 -- result of the NOR verification
  nor      : Option (List Byte)          -- NOR firmware as written since manufacture; none is the part's own, empty an invalid copy
  image    : List Byte                   -- the running image
  source   : Nat                         -- FW_SOURCE
  next     : Nat                         -- source of an image that was started
  fw       : FwState
  owner    : Byte
  staged   : List (Nat × Byte)
  stagedLen : Nat
  restarts : W32
  records  : List CsRecord               -- oldest first
  csSeq    : W32
  blocks   : Nat                         -- blocks in use
  retired  : Nat                         -- blocks retired in this boot
  spoiled  : List Nat                    -- those of them that hold records in force
  failed   : Bool                        -- CS_STATE FAILED
  ignored  : Nat
  fwFaults : List FaultRec
  identity : Option IdentityOutcome
  evidence : List Byte
  attBusy  : Bool
  attReady : Bool
  nonce    : List Byte
  everPerturb : Bool
  owesAbort : Bool                       -- an MP restart found mailboxes FULL that firmware has yet to abort (13 R478)
  deriving DecidableEq, Repr

/-! ### The 36 V entry and the reference (16) -/

/-- Entry, straps and FREF. -/
structure EntryUnit where
  mate     : Bool
  switch   : Bool
  soft     : Bool                        -- soft start under way
  released : Bool                        -- reset is released
  pnid     : Option (BitVec 9)
  fref     : Bool
  failover : Option Nat
  pending  : Bool                        -- FREF lost, failover lock awaited
  barred   : Bool                        -- outcome 4: arming refused
  ppb      : W32
  deriving DecidableEq, Repr

/-! ### Perturbation and lock-step (11) -/

/-- An armed perturbation slot (R436). -/
structure Perturb where
  owner : Byte
  armed : Bool
  left  : Nat
  due   : Nat
  deriving DecidableEq, Repr

/-- Running signatures of a phase (R430). -/
structure Signature where
  step  : W64
  ps    : W64
  ds    : W64
  units : W32
  grans : W32
  deriving DecidableEq, Repr

/-- The lock-step comparator. -/
structure LockUnit where
  cur   : Signature                      -- `ps` is the raw CRC register here
  grans : List (Nat × Nat × List Byte)   -- granules to be signed: channel slot, channel, signed bytes
  own   : List Signature                 -- unmatched own phases, oldest first
  peer  : List Signature                 -- peer phases that came early
  deriving DecidableEq, Repr

/-! ### What leaves the module -/

/-- An outward effect: the model's own trace, newest first (DESIGN CHOICE, log entry 4). -/
inductive Out where
  | unit (port : Nat) (hdr : W64) (pay : List Byte) (crc : W64)
  | can (id : Nat) (frame : List Byte)
  | msix (vector : Nat)
  | hostWrite (addr : W64) (data : List Byte)
  | readData (data : List Byte)          -- completion of a host read
  | poisoned                             -- poisoned completion (R286)
  | pulse (pin : Nat) (level : Bool)
  | wakeBurst (port : Nat)
  | mp (words : List W32)                -- a message or interrupt to MP firmware
  deriving DecidableEq, Repr

/-- The whole module. -/
structure State where
  times   : Times
  objs    : List (Nat × Nat)             -- scalar objects: key 256 * index + subindex
  doms    : List (Nat × Byte)            -- DOMAIN bytes: key (256 * index + subindex) * 2^32 + offset
  sram    : List Host.Cell               -- pail and vat SRAM, by BAR4 offset (13 R474)
  ext     : List (Nat × BitVec 16)       -- churn cell extensions, by cell number (03 R119)
  gens    : List (Nat × Byte)            -- ready generation of each pail page (02 R85)
  dram    : List Host.Cell               -- by physical address (07 R255)
  vats    : List (Nat × VatState)
  vatsRan : Bool                         -- a vat may have fetched since FETCH_MISSES was last read (05 R180, R203)
  ctxs    : List (Nat × CtxState)
  ports   : List (Nat × PortState)
  sync    : SyncUnit
  mem     : MemUnit
  events  : EventUnit
  skim    : SkimUnit
  power   : PowerUnit
  host    : HostUnit
  can     : CanUnit
  boot    : BootUnit
  entry   : EntryUnit
  perturb : List (Nat × Perturb)
  lock    : LockUnit
  out     : List Out
  fresh   : Nat                          -- free values taken so far (DESIGN CHOICE, log entry 3)
  pending : List Instr                   -- commands waiting, first in first out
  deriving DecidableEq, Repr

/-! ### Stop reasons -/

/-- Faults of the model. The module's own faults (11 R412) are records in the state and stop nothing here. -/
inductive Fault where
  /-- Never raised: the spec gives every command an effect. Safe. -/
  | unreachable
  deriving DecidableEq, Repr

/-- Refusals of the model. -/
inductive Refusal where
  /-- A command that has no meaning yet. Raised by Dispatch only. Safe. -/
  | notModelled (mnemonic : String)
  deriving DecidableEq, Repr

/-! ### Reset (00 R7; 02 R590; 09 R381; 11 R419; DESIGN CHOICE, log entries 1 and 2) -/

/-- A vat that nothing has written (DESIGN CHOICE, log entries 67 and 121). -/
def VatState.reset : VatState where
  sreg := []; areg := []; preg := []; vreg := []; pc := 0; run := .halted; stopped := false; step := 0; trel := 0; lstat := 0
  cyc := 0; cycHi := 0; loops := []; nextAge := 0; marks := []; events := []; syncq := []; results := []
  stimes := []; notices := []; echoes := []; remote := 0; queue := []; tokens := 0; tiles := []; sides := []
  tags := []; acc := []; banks := []; satCnt := 0; nanSeen := false; slotGen := []; freq := 2400; temp := 25
  gated := false; stretches := 0; stepdowns := 0; stretchRun := 0; runSinceRecover := false; stretchLog := 0

/-- A context with no job since reset. -/
def CtxState.reset : CtxState where
  job := .none; failed := false; barrier := false; lnid := 0; unit := 0; launchAt := none; stime := 0
  executed := false; place := none; step := 0; boundaries := []; crossed := 0; holds := []; raised := []
  hold := none; chain := 0; exempt := false; limitHit := false; soft := none; deferred := false; selectors := []; emitted := []; lateSel := 0
  bank0 := .empty; bank1 := .empty; switch := none; sigma := 0; checkedTo := 0; createdTo := 0; dueTo := 0; departs := []; walk := []
  relays := []; signals := []; fenceSeen := []; first := none; log := []; notices := []; holdLog := []
  sync := .none; lossReason := 0; badBanks := []; imageIntlv := none; freezeF := 0; freezeS := 0; epochs := 0; variant := 0; permitted := 0
  quiet := 0; hot := 0; reports := []; owedReport := false; ceil0 := 0; ceil1 := 0; freq := 0; grace := []
  measure0 := []; measure1 := []; tail := 0

/-- Credits before training; each rate starts at its maximum (R372): 48, or 12 on an uplink. -/
def Credit.reset (rate : Nat) : Credit where
  advHdr := 0; advData := 0; sentHdr := 0; sentData := 0; retHdr := 0; retData := 0; freedHdr := 0
  freedData := 0; toldHdr := 0; toldData := 0; rate := rate; sent := 0; echoed := false; cut := 0

/-- The greatest injection rate of a port (R372): RATE_MAX, a quarter of it on an uplink. -/
def maxRate (p : Nat) : Nat := if 16 ≤ p ∧ p < 32 then 12 else 48

/-- Port p before training. -/
def PortState.reset (p : Nat) : PortState where
  link := .down; lanes := 0; half := false; txSleep := false; gap := 0; waking := 0; peerSleep := false
  peerDeep := false; discarding := false; expect := 0; tseq := 0; buffer := []; resend := 0; waitq := []
  unacked := 0; nakOwed := false; ackOwed := false; creditDue := false; nakFor := 0; nakCount := 0; full := false; fwd := []
  carried := []; tc3 := []; skim1 := []; skim2 := []; credit1 := Credit.reset (maxRate p)
  credit2 := Credit.reset (maxRate p); held1 := 0; held2 := 0; retrain := none; wantRetrain := false
  coeffs := false; exchanges := 0; rttSum := 0; peer := 0xFFFF; lastFtime := 0
  wakeSend := false; stall := 0; peerWake := 0; resumed := false; back := false; corrupt := 0; withhold := 0; withholdTo := 0; drop := 0; dropIn := 0; discardAt := 0; timePeers := []
  fecC := false; fecU := false; peerRtts := []

/-- The sync unit with no counter of any job. -/
def SyncUnit.reset : SyncUnit where
  counters := []; barriers := []; watches := []; gens := []; regs := []; mapEpoch := []; rdDone := false
  rdStatus := 0; rdValue := 0; rdPend := none; wDone := false; wFail := false; wHandle := 0; wPend := none; last := 0; busy := false
  refused := false; nojob := false; loggedRefusals := []

/-- The memory controllers before any stream. -/
def MemUnit.reset : MemUnit where
  streams := []; issued := []; slots := []; banks := []; acts := []; lastRd := []; lastWr := []; refreshed := []
  bands := []; temps := []; patrol := []; fixes := []; corrected := []; rate := 1; closed := []; auto := []; asked := []

/-- Time bases at reset (DESIGN CHOICE, log entry 1). -/
def Times.reset : Times where
  ftime := 0; grid := 0; htime := 0; hfrac := 0; hrate := 0; atime := 0; afrac := 0; locked := false
  holdover := false; slew := 0; stepped := false; alt := false; offset := 0; snapCtx := 0; snapF := 0; snapH := 0
  snapA := 0; snapS := 0; snapN := 0; cmps := []; pulses := []; latches := []; staged := []

/-- Power state at reset: every domain in RUN, the first state R468 lists (DESIGN CHOICE, log entry 2). -/
def PowerUnit.reset : PowerUnit where
  theta := 0; peak := 0; throttled := 0; compute := ⟨.run, none, false⟩; fabric := ⟨.run, none, false⟩
  memory := ⟨.run, none, false⟩; host := ⟨.run, none, false⟩; votes := []; wakeHold := false; wakeDue := none; held := none
  busyMp := false; off := false
  fail := .none; tripped := false; tmax := 25 * 16; sensors := []; saved := false; savedH := 0
  savedA := 0

/-- The host door before the link trains. -/
def HostUnit.reset : HostUnit where
  linkUp := false; link := .down; bar2 := 39; perst := false; toMp := []; toHost := []; dbIn := 0; dbOut := 0; dbOutMask := 0; dbInMask := 0
  queues := []; vectors := []; masked := BitVec.allOnes 64; pendingV := 0; proxies := []; engines := []; sram := false
  session := none; everDebug := false; token := []; refusals := 0; lockout := false; challenge := 0; draws := 0
  status := 0

/-- The management door before the boot ROM opens it. -/
def CanUnit.reset : CanUnit where
  isOpen := false; busOff := false; tec := 0; rec_ := 0; rate := 3; reqOwn := []; rspOwn := []; reqAll := []; rspAll := []; xfer := none; beats := 0
  class2 := false

/-- Before the boot ROM runs: the store is empty and the NOR copy unverified (DESIGN CHOICE, log entry 2). -/
def BootUnit.reset : BootUnit where
  mp := .off; scanned := false; cause := 1; pushed := false; norOk := none; nor := none; image := []; source := 0
  next := 0; fw := .empty; owner := 0xFF; staged := []; stagedLen := 0; restarts := 0; records := []; csSeq := 0
  blocks := 0; retired := 0; spoiled := []; failed := false; ignored := 0; fwFaults := []; identity := none; evidence := []
  attBusy := false; attReady := false; nonce := []; everPerturb := false; owesAbort := false

/-- Power applied, the input switch closed and the bulk charged; the straps not yet sampled (DESIGN CHOICE, log entry 2). -/
def EntryUnit.reset : EntryUnit where
  mate := true; switch := true; soft := false; released := true; pnid := none; fref := true; failover := none
  pending := false; barred := false; ppb := 0

/-- The CRC register starts at all ones (R353). -/
def Signature.reset : Signature where
  step := 0; ps := BitVec.allOnes 64; ds := BitVec.allOnes 64; units := 0; grans := 0

/-- The module right after reset: no command waits. -/
def State.reset : State where
  times := Times.reset; objs := []; doms := []; sram := []; ext := []; gens := []; dram := []; vats := []; vatsRan := false
  ctxs := []; ports := []; sync := SyncUnit.reset; mem := MemUnit.reset
  events := ⟨[], [], [], [], [], false⟩; skim := ⟨[], [], [], [], 0, []⟩; power := PowerUnit.reset
  host := HostUnit.reset; can := CanUnit.reset; boot := BootUnit.reset; entry := EntryUnit.reset; perturb := []
  lock := ⟨Signature.reset, [], [], []⟩; out := []; fresh := 0; pending := []

end Sys2Proof.Machine
end

