-- ==== Sys2Proof/Machine/Ops.lean ====
section
/-! DEFINITION. The named operations over the state: objects, units, memories, owners, free values. -/
namespace Sys2Proof.Machine
open Sys2Proof

/-! ### The answer of a meaning -/

/-- What a meaning answers: its next state, with the queue of waiting commands as it was. -/
def answer (s t : State) : Host.Outcome State Fault Refusal := .next { t with pending := s.pending }

/-! ### Objects (14 R498-R504) -/

/-- A scalar object's value. -/
def State.obj (s : State) (k : Nat) : Nat := Tab.get objDefault s.objs k

/-- Sets a scalar object. -/
def State.setObj (s : State) (k v : Nat) : State := { s with objs := Tab.set objDefault s.objs k v }

/-- Adds to a 32-bit counter object, modulo 2^32 (DEDUCED, log entry 6). -/
def State.bump32 (s : State) (k n : Nat) : State := s.setObj k ((s.obj k + n) % 2 ^ 32)

/-- Adds to a 64-bit counter object, modulo 2^64 (DEDUCED, log entry 6). -/
def State.bump64 (s : State) (k n : Nat) : State := s.setObj k ((s.obj k + n) % 2 ^ 64)

/-- Bytes of a DOMAIN object. -/
def State.dom (s : State) (k off n : Nat) : List Byte := Tab.read domDefault s.doms (domKey k off) n

/-- The little-endian number in n bytes of a DOMAIN object. -/
def State.domLe (s : State) (k off n : Nat) : Nat := leNat (s.dom k off n)

/-- Writes bytes of a DOMAIN object. -/
def State.setDom (s : State) (k off : Nat) (b : List Byte) : State :=
  { s with doms := Tab.write domDefault s.doms (domKey k off) b }

/-- Every byte of a DOMAIN object back to its default. -/
def State.clearDom (s : State) (k : Nat) : State := { s with doms := Tab.erase (fun x => x / 2 ^ 32 == k) s.doms }

/-! ### Units held in tables -/

/-- A vat by its number 0-319. -/
def State.vat (s : State) (v : Nat) : VatState := Tab.get (fun _ => VatState.reset) s.vats v

/-- Replaces a vat. -/
def State.setVat (s : State) (v : Nat) (x : VatState) : State :=
  { s with vats := Tab.set (fun _ => VatState.reset) s.vats v x }

/-- Changes a vat. -/
def State.onVat (s : State) (v : Nat) (f : VatState → VatState) : State := s.setVat v (f (s.vat v))

/-- A context. -/
def State.ctx (s : State) (c : Nat) : CtxState := Tab.get (fun _ => CtxState.reset) s.ctxs c

/-- Replaces a context. -/
def State.setCtx (s : State) (c : Nat) (x : CtxState) : State :=
  { s with ctxs := Tab.set (fun _ => CtxState.reset) s.ctxs c x }

/-- Changes a context. -/
def State.onCtx (s : State) (c : Nat) (f : CtxState → CtxState) : State := s.setCtx c (f (s.ctx c))

/-- A port 0-33. -/
def State.port (s : State) (p : Nat) : PortState := Tab.get PortState.reset s.ports p

/-- Replaces a port. -/
def State.setPort (s : State) (p : Nat) (x : PortState) : State := { s with ports := Tab.set PortState.reset s.ports p x }

/-- Changes a port. -/
def State.onPort (s : State) (p : Nat) (f : PortState → PortState) : State := s.setPort p (f (s.port p))

/-- A compare unit before anything is written to it. -/
def Compare.reset : Compare := ⟨0, 0, false, false, false, false, 0, 0, 0⟩

/-- A compare unit. -/
def State.cmp (s : State) (n : Nat) : Compare := Tab.get (fun _ => Compare.reset) s.times.cmps n

/-- Replaces a compare unit. -/
def State.setCmp (s : State) (n : Nat) (x : Compare) : State :=
  { s with times := { s.times with cmps := Tab.set (fun _ => Compare.reset) s.times.cmps n x } }

/-- Changes a compare unit. -/
def State.onCmp (s : State) (n : Nat) (f : Compare → Compare) : State := s.setCmp n (f (s.cmp n))

/-! ### Numbers of things -/

/-- The vat ID of R68: bit 8 the die, bits 7:0 the number. -/
def vatId (v : Nat) : Nat := v / 160 * 256 + v % 160

/-- The vat of a vat ID; none for numbers 160-255 (R68). -/
def vatOfId (x : Nat) : Option Nat := if x < 512 ∧ x % 256 < 160 then some (x / 256 * 160 + x % 256) else none

/-- The C-die of a vat. -/
def dieOf (v : Nat) : Nat := v / 160

/-- BAR4 offset of a vat's SRAM (13 R474). -/
def vatBase (v : Nat) : Nat := 0x40000000 + vatId v * 0x200000

/-- The size of vat SRAM: 2 MiB (02 R71). -/
def vatSize : Nat := 0x200000

/-- The size of pail SRAM: 96 MiB (02 R71). -/
def pailSize : Nat := 0x6000000

/-- Whether a port is an uplink (R340). -/
def isUplink (p : Nat) : Bool := decide (16 ≤ p) && decide (p < 32)

/-- Whether a port is X0 or X1 (R340). -/
def isXport (p : Nat) : Bool := decide (32 ≤ p)

/-- The numbers of the 34 ports. -/
def allPorts : List Nat := List.range 34

/-- The numbers of the 16 contexts. -/
def allCtxs : List Nat := List.range 16

/-- The module's PNID field; 0x1FF while it has no valid one (R293). -/
def State.pnid (s : State) : Nat :=
  match s.entry.pnid with
  | some p => p.toNat
  | none => 0x1FF

/-! ### Jobs -/

/-- Whether a context has a job armed or running. A job past its job end is neither (08 R301; DEDUCED, log entry 7). -/
def CtxState.busy (x : CtxState) : Bool := x.job == .armed || x.job == .running

/-- Whether a context's claims stand: from arming to its context reset, past a job end (08 R296; 11 R434). -/
def CtxState.claims (x : CtxState) : Bool := x.job != .none

/-- A context's job number. -/
def State.jobn (s : State) (c : Nat) : Nat := s.obj (Obj.jobn c)

/-- The context whose job, armed or running, has a job number (R37). -/
def State.ctxOfJob (s : State) (j : Nat) : Option Nat := allCtxs.find? (fun c => (s.ctx c).busy && s.jobn c == j)

/-- Whether any context has a job armed or running. -/
def State.anyBusy (s : State) : Bool := allCtxs.any (fun c => (s.ctx c).busy)

/-- STIME of a context as its 48-bit register shows it (R13). -/
def State.stime48 (s : State) (c : Nat) : W48 := BitVec.ofNat 48 (s.ctx c).stime

/-- The hold lead L of a context (R33). -/
def State.lead (s : State) (c : Nat) : Nat := s.obj (Obj.holdLead c)

/-- The context that owns a port for scheduling, by SCHED_OWNER (08 R296). -/
def State.portCtx (s : State) (p : Nat) : Option Nat :=
  if s.obj (Obj.schedOwner p) < 16 then some (s.obj (Obj.schedOwner p)) else none

/-- The context that owns a port and whose job runs (09 R357). -/
def State.portRunning (s : State) (p : Nat) : Option Nat :=
  (s.portCtx p).bind (fun c => if (s.ctx c).job = .running then some c else none)

/-- The ports of a context's job: those it owns (R296). -/
def State.jobPorts (s : State) (c : Nat) : List Nat := allPorts.filter (fun p => s.obj (Obj.schedOwner p) == c)

/-- Whether VAT_ASSIGN of a context names a vat (13 R497). -/
def State.assigned (s : State) (c v : Nat) : Bool := bitOf (s.domLe (Obj.vatAssign c) (v / 8) 1) (v % 8)

/-- The context a vat works for: the one that names it in VAT_ASSIGN, while that context's claims stand (13 R497). -/
def State.vatCtx (s : State) (v : Nat) : Option Nat := allCtxs.find? (fun c => (s.ctx c).claims && s.assigned c v)

/-! ### Memory (02 R71; 07 R255; 13 R474) -/

/-- What a byte of SRAM or DRAM that nothing has written reads as: zero (R590; DRAM by DESIGN CHOICE, log entry 8). -/
def memDefault (_ : Nat) : Byte := 0

/-- Memory in its one canonical form: addresses strictly rising, and no entry equal to what an unlisted address reads as. -/
abbrev Memory.wf (m : List Host.Cell) : Prop := m.Pairwise (fun a b => a.1 < b.1) ∧ ∀ e ∈ m, e.2 ≠ memDefault e.1

/-- Bytes of pail or vat SRAM, by BAR4 offset. -/
def State.sramRead (s : State) (a n : Nat) : List Byte := Tab.read memDefault s.sram a n

/-- Writes bytes of pail or vat SRAM, by BAR4 offset. -/
def State.sramWrite (s : State) (a : Nat) (b : List Byte) : State := { s with sram := Tab.write memDefault s.sram a b }

/-- Bytes of DRAM by physical address. -/
def State.dramRead (s : State) (a n : Nat) : List Byte := Tab.read memDefault s.dram a n

/-- Writes bytes of DRAM by physical address. -/
def State.dramWrite (s : State) (a : Nat) (b : List Byte) : State := { s with dram := Tab.write memDefault s.dram a b }

/-- The extension of a churn cell (03 R119), by cell number: pail address divided by 16. -/
def State.ext16 (s : State) (cell : Nat) : BitVec 16 := Tab.get (fun _ => 0) s.ext cell

/-- Sets the extension of a churn cell. -/
def State.setExt (s : State) (cell : Nat) (v : BitVec 16) : State := { s with ext := Tab.set (fun _ => 0) s.ext cell v }

/-- The ready generation of a pail page (02 R85). -/
def State.pageGen (s : State) (page : Nat) : Byte := Tab.get (fun _ => 0) s.gens page

/-- Sets the ready generation of a pail page. -/
def State.setPageGen (s : State) (page : Nat) (g : Byte) : State := { s with gens := Tab.set (fun _ => 0) s.gens page g }

/-! ### Free values (DESIGN CHOICE, log entry 3) -/

/-- A free value of n bits, and the state that has taken it. -/
def State.takeFree (n : Nat) (s : State) : BitVec n × State :=
  ((Config.freeValue s.fresh).setWidth n, { s with fresh := s.fresh + 1 })

/-- n free bytes, each a free value of its own. -/
def State.freeBytes : Nat → State → List Byte × State
  | 0, s => ([], s)
  | n + 1, s =>
    let (b, s) := s.takeFree 8
    let (t, s) := State.freeBytes n s
    (b :: t, s)

/-! ### What leaves the module (DESIGN CHOICE, log entry 4) -/

/-- Adds an outward effect to the trace. -/
def State.emit (s : State) (o : Out) : State := { s with out := o :: s.out }

end Sys2Proof.Machine
end

