-- ==== Sys2Proof/Machine/Event.lean ====
section
/-! DEFINITION. The event unit: records, sequence numbers, the ring and its losses (11 R418-R421, R589), host event queues (13 R482-R484),
MSI-X signalling (R475) and frames on the management bus (14 R520, R528). -/
namespace Sys2Proof.Machine
open Sys2Proof

/-! ### MSI-X -/

/-- Signals a vector: a masked one becomes pending, another sends its message (R475). -/
def State.signal (s : State) (n : Nat) : State :=
  if bitOf s.host.masked.toNat n then
    { s with host := { s.host with pendingV := s.host.pendingV ||| BitVec.ofNat 64 (2 ^ n) } }
  else s.emit (.msix n)

/-! ### Sources (R411) -/

/-- Source of MP firmware. -/
def srcMp : Nat := 0
/-- Source of a vat. -/
def srcVat (v : Nat) : Nat := 0x1000 + vatId v
/-- Source of a port. -/
def srcPort (p : Nat) : Nat := 0x2000 + p
/-- Source of a context's schedule logic. -/
def srcSched (c : Nat) : Nat := 0x3000 + c
/-- Source of a context's sync unit. -/
def srcSync (c : Nat) : Nat := 0x4000 + c
/-- Source of a memory channel. -/
def srcChannel (n : Nat) : Nat := 0x5000 + n
/-- Source of a fenced LNID. -/
def srcFence (l : Nat) : Nat := 0x6000 + l
/-- Source of the debugger. -/
def srcDebug : Nat := 0x7011
/-- Source of the host door. -/
def srcHost : Nat := 0x8000
/-- Source of the management door. -/
def srcCan : Nat := 0x9000
/-- Source of the power governor and thermal logic. -/
def srcPower : Nat := 0xA000
/-- Source of a compare unit. -/
def srcCmp (n : Nat) : Nat := 0xB000 + n
/-- Source of the lock-step comparator. -/
def srcLock : Nat := 0xC000
/-- Source of the time bases. -/
def srcTime : Nat := 0xD000
/-- Source of a perturbation slot. -/
def srcPerturb (n : Nat) : Nat := 0xE000 + n

/-! ### Host event queues -/

/-- A queue before the host writes to it: CNT is 1 (R482). -/
def EventQueue.reset : EventQueue := ⟨0, 0, 0x100, 0, 0, false, 0⟩

/-- A host event queue. -/
def State.eq (s : State) (q : Nat) : EventQueue := Tab.get (fun _ => EventQueue.reset) s.host.queues q

/-- Replaces a host event queue. -/
def State.setEq (s : State) (q : Nat) (x : EventQueue) : State :=
  { s with host := { s.host with queues := Tab.set (fun _ => EventQueue.reset) s.host.queues q x } }

/-- The number of entries of a queue's ring. -/
def EventQueue.entries (x : EventQueue) : Nat := 2 ^ fld x.size.toNat 0 5

/-- Whether the ring is full (R482 STALLED). -/
def EventQueue.stalled (x : EventQueue) : Bool := decide (x.entries ≤ (x.prod - x.cons).toNat)

/-- Whether a queue takes a record now (R483). -/
def EventQueue.takes (x : EventQueue) : Bool := bitOf x.ctrl.toNat 31 && !x.stalled

/-- Whether a queue has wide entries (R484). -/
def EventQueue.wide (x : EventQueue) : Bool := bitOf x.ctrl.toNat 30

/-- The 32 bytes of an event record (R418). -/
def Event.bytes (e : Event) : List Byte :=
  leBytes 2 e.source.toNat ++ leBytes 2 e.code.toNat ++ leBytes 4 e.seq.toNat ++ leBytes 8 e.ftime.toNat ++ padTo 16 e.detail

/-- Whether an access of the module to n bytes of host memory fails, and how many of them it has moved then. Nothing the block is sent tells: it is a
free choice (DESIGN CHOICE, log entry 123). -/
def State.hostFails (s : State) (n : Nat) : Option Nat × State :=
  let (f, s) := s.takeFree 1
  if f = 0 then (none, s)
  else
    let (m, s) := s.takeFree 32
    (some (m.toNat % max n 1), s)

/-- The host address of the entry a queue writes next. -/
def EventQueue.at_ (x : EventQueue) : W64 := x.base + BitVec.ofNat 64 (x.prod.toNat % x.entries * (if x.wide then 64 else 32))

/-- Writes one entry into a queue's ring; after CNT new entries the queue's vector fires. A write that fails stops the queue: DMA_ERROR is set and EN
reads 0 (R482, R483). -/
def State.eqWrite (s : State) (q : Nat) (rec : List Byte) (pnid : Nat) : Bool × State :=
  let x := s.eq q
  let entry := if x.wide then padTo 64 (rec ++ leBytes 2 pnid) else rec
  let n := x.unsignalled + 1
  let fire := decide (fld x.ctrl.toNat 8 8 ≤ n)
  match s.hostFails entry.length with
  | (some _, s) => (false, s.setEq q { x with ctrl := x.ctrl &&& 0x7FFFFFFF, dmaErr := true })
  | (none, s) =>
    let s := (s.setEq q { x with prod := x.prod + 1, unsignalled := if fire then 0 else n }).emit (.hostWrite x.at_ entry)
    (true, if fire then s.signal (1 + q) else s)

/-! ### The ring -/

/-- The kind of a source (R411). -/
def sourceKind (src : Nat) : Nat := fld src 12 4

/-- The queue EVENT_ROUTE names for a source kind; none for 0xFF (R421). -/
def State.route (s : State) (kind : Nat) : Option Nat :=
  let q := s.domLe Obj.eventRoute kind 1
  if q < 8 then some q else none

/-- The detail of an EVENTS_LOST record (R420). -/
def Tally.detail (t : Tally) : List Byte := leBytes 2 t.source.toNat ++ zeros 2 ++ leBytes 4 t.first.toNat ++ leBytes 4 t.count.toNat

/-- Gives a source's next record its number, and puts it into the ring. -/
def State.appendEvent (s : State) (src code : Nat) (detail : List Byte) (queue : Option Nat) : Event × State :=
  let seq := Tab.get (fun _ => 0) s.events.seqs src
  let e : Event := ⟨BitVec.ofNat 16 src, BitVec.ofNat 16 code, seq, s.times.ftime, padTo 16 detail, queue⟩
  (e, { s with events := { s.events with seqs := Tab.set (fun _ => 0) s.events.seqs src (seq + 1), ring := s.events.ring ++ [e] } })

/-- Adds a lost record to the tally of its source; a loss that breaks the run closes the old tally, which is then announced (R589). -/
def State.lose (s : State) (e : Event) : Option Tally × State :=
  let s := s.bump64 Obj.eventsLost 1
  let rest := s.events.tallies.filter (fun t => t.source != e.source)
  match s.events.tallies.find? (fun t => t.source == e.source) with
  | none => (none, { s with events := { s.events with tallies := rest ++ [⟨e.source, e.seq, 1⟩] } })
  | some t =>
    if t.first + t.count = e.seq then
      (none, { s with events := { s.events with tallies := rest ++ [{ t with count := t.count + 1 }] } })
    else (some t, { s with events := { s.events with tallies := rest ++ [⟨e.source, e.seq, 1⟩] } })

/-- Enters a record; a full ring overwrites its oldest record, which is lost if a queue has not taken it (R421, R589). -/
def State.enter : Nat → State → Nat → Nat → List Byte → Option Nat → State
  | 0, s, _, _, _, _ => s
  | n + 1, s, src, code, detail, queue =>
    let old := if s.events.ring.length < 4096 then none else s.events.ring.head?
    let s := if s.events.ring.length < 4096 then s else { s with events := { s.events with ring := s.events.ring.drop 1 } }
    let s := (s.appendEvent src code detail queue).2
    match old with
    | none => s
    | some o =>
      if o.queue.isNone then s
      else match s.lose o with
        | (none, s) => s
        | (some t, s) => State.enter n s 0 0x0003 t.detail (s.route 0)

/-- Marks the oldest record with a source and number as taken by its queue. -/
def markTaken (src : BitVec 16) (seq : W32) : List Event → List Event
  | [] => []
  | e :: t => if e.source = src ∧ e.seq = seq ∧ e.queue.isSome then { e with queue := none } :: t else e :: markTaken src seq t

/-- A queue has taken a record: it is bound no longer, and an open tally of its source is announced (R589). -/
def State.taken (s : State) (src : BitVec 16) (seq : W32) : State :=
  let s := { s with events := { s.events with ring := markTaken src seq s.events.ring } }
  match s.events.tallies.find? (fun t => t.source == src) with
  | none => s
  | some t =>
    let s := { s with events := { s.events with tallies := s.events.tallies.filter (fun t => t.source != src) } }
    s.enter 4096 0 0x0003 t.detail (s.route 0)

/-- Whether a queue's records leave through the module's own PCIe link: it is up and no bridge takes them (13 R487, R490). -/
def State.localQueue (s : State) (q : Nat) : Bool := s.host.linkUp && !bitOf (s.obj Obj.bridgeQueues) q

/-- EQ_ERROR: a write to a queue's ring failed (R496). -/
def State.queueFailed (s : State) (q : Nat) (addr : W64) : State :=
  s.enter 4096 srcHost 0x00A3 (leBytes 1 q ++ zeros 7 ++ leBytes 8 addr.toNat) (s.route (sourceKind srcHost))

/-- Writes the waiting records of a queue into its ring, oldest first, while it takes them (R483). -/
def State.deliver : Nat → State → Nat → State
  | 0, s, _ => s
  | n + 1, s, q =>
    if s.localQueue q && (s.eq q).takes then
      match s.events.ring.find? (fun e => e.queue == some q) with
      | none => s
      | some e =>
        match s.eqWrite q e.bytes s.pnid with
        | (true, t) => State.deliver n (t.taken e.source e.seq) q
        | (false, t) => t.queueFailed q (s.eq q).at_
    else s

/-- The same for every queue. -/
def State.deliverAll (s : State) : State := (List.range 8).foldl (fun s q => s.deliver 4096 q) s

/-- Logs an event bound for a given queue, and delivers what the queues take. -/
def State.logTo (s : State) (src code : Nat) (detail : List Byte) (queue : Option Nat) : State :=
  (s.enter 4096 src code detail queue).deliverAll

/-- Logs an event, bound for the queue EVENT_ROUTE names for its source kind (R421). -/
def State.log (s : State) (src code : Nat) (detail : List Byte) : State := s.logTo src code detail (s.route (sourceKind src))

/-! ### Status codes (R413) -/

/-- SUCCESS. -/
def stSuccess : Nat := 0
/-- OWNER_LOST. -/
def stOwnerLost : Nat := 0x0101
/-- PATH_LOST. -/
def stPathLost : Nat := 0x0102
/-- TARGET_RESETTING. -/
def stResetting : Nat := 0x0103
/-- RESOURCE_HELD. -/
def stHeld : Nat := 0x0104
/-- ABORTED. -/
def stAborted : Nat := 0x0105
/-- NO_OBJECT. -/
def stNoObject : Nat := 0x0106
/-- ACCESS_DENIED. -/
def stDenied : Nat := 0x0107
/-- VALUE_REFUSED. -/
def stRefused : Nat := 0x0108
/-- WRONG_STATE. -/
def stWrongState : Nat := 0x0109
/-- TOKEN_REQUIRED. -/
def stToken : Nat := 0x010A

/-! ### Frames on the management bus -/

/-- Sends a frame, padded to a CAN FD length, while the management door is open, enabled and on the bus (14 R520, R523, R529). -/
def State.sendCan (s : State) (id : Nat) (frame : List Byte) : State :=
  if s.can.isOpen && !s.can.busOff && s.obj Obj.canEnable == 1 && !s.power.off then
    let len := if frame.length ≤ 8 then frame.length else
      ([12, 16, 20, 24, 32, 48].find? (fun n => decide (frame.length ≤ n))).getD 64
    (s.emit (.can id (padTo len frame))).bump64 Obj.canFramesTx 1
  else s

/-- Grid ticks in a second (00 R5: a tick is 2.56 ns). -/
def ticksPerSecond : Nat := 390625000

/-- Sends an emergency frame, unless EMCY_RATE of them left in the last second (R528). -/
def State.emergency (s : State) (frame : List Byte) : State :=
  let recent := s.events.emcy.filter (fun t => decide (s.times.grid < t + ticksPerSecond))
  if !(s.can.isOpen && s.obj Obj.canEnable == 1) then s
  else if recent.length < s.obj Obj.emcyRate then
    ({ s with events := { s.events with emcy := s.times.grid :: recent } }).sendCan s.pnid frame
  else ({ s with events := { s.events with emcy := recent } }).bump32 Obj.emcyDropped 1

/-! ### Fault confinement of the management bus (14 R520, R533) -/

/-- 0 error-active, 1 error-passive, 2 bus-off. -/
def CanUnit.code (u : CanUnit) : Nat := if u.busOff then 2 else if 128 ≤ u.tec ∨ 128 ≤ u.rec_ then 1 else 0

/-- What the bus did since the counts were last taken, which no command carries: the error counts are free, and a transmit count above 255 is bus-off.
A change of state is logged (DESIGN CHOICE, log entry 62). -/
def State.busErrors (s : State) : State :=
  if !s.can.isOpen || s.can.busOff then s
  else
    let (t, s) := s.takeFree 9
    let (r, s) := s.takeFree 8
    let can : CanUnit := { s.can with tec := min t.toNat 255, rec_ := r.toNat, busOff := decide (256 ≤ t.toNat) }
    let was := s.can.code
    let s : State := { s with can := can }
    if can.code = was then s else s.log srcCan 0x00B2 (leBytes 1 can.code ++ leBytes 1 can.tec ++ leBytes 1 can.rec_)

/-! ### Dictionary engine slots (14 R512-R514) -/

/-- A slot nothing was asked of. -/
def EngineSlot.reset : EngineSlot := ⟨0, false, false, 0, 0, 0, 0, 0, 0, 0, [], [], 0⟩

/-- Engine slot i. -/
def State.engine (s : State) (i : Nat) : EngineSlot := Tab.get (fun _ => EngineSlot.reset) s.host.engines i

/-- Replaces an engine slot. -/
def State.setEngine (s : State) (i : Nat) (x : EngineSlot) : State :=
  { s with host := { s.host with engines := Tab.set (fun _ => EngineSlot.reset) s.host.engines i x } }

/-- Index of DE_OBJ. -/
def EngineSlot.ix (x : EngineSlot) : Nat := fld x.obj.toNat 8 16
/-- Subindex of DE_OBJ. -/
def EngineSlot.sub (x : EngineSlot) : Nat := fld x.obj.toNat 0 8
end Sys2Proof.Machine
end

