-- ==== Sys2Proof/Machine/Skim.lean ====
section
/-! DEFINITION. The skim channel at its sending side: messages, routing, broadcasts, requests with their tags and their completion
(09 R368-R373, R377, R379; 11 R388; 13 R486-R489). -/
namespace Sys2Proof
open Sys2Proof.Machine

/-! ### The message header (R369) -/

/-- TYPE of a message. -/
def SkimMsg.type (m : SkimMsg) : Nat := fld m.hdr.toNat 56 8
/-- Number of 16-byte body blocks. -/
def SkimMsg.blocks (m : SkimMsg) : Nat := fld m.hdr.toNat 53 3
/-- MARK. -/
def SkimMsg.mark (m : SkimMsg) : Bool := bitOf m.hdr.toNat 52
/-- BCAST. -/
def SkimMsg.bcast (m : SkimMsg) : Bool := bitOf m.hdr.toNat 51
/-- JOBN. -/
def SkimMsg.jobn (m : SkimMsg) : Nat := fld m.hdr.toNat 47 4
/-- GEN. -/
def SkimMsg.gen (m : SkimMsg) : Nat := fld m.hdr.toNat 43 4
/-- TAG. -/
def SkimMsg.tag (m : SkimMsg) : Nat := fld m.hdr.toNat 31 12
/-- SRC. -/
def SkimMsg.src (m : SkimMsg) : Nat := fld m.hdr.toNat 22 9
/-- DST. -/
def SkimMsg.dst (m : SkimMsg) : Nat := fld m.hdr.toNat 13 9

/-- Builds a message; the body is filled to whole blocks. -/
def mkMsg (type : Nat) (bcast : Bool) (jobn gen tag src dst : Nat) (body : List Byte) : SkimMsg :=
  let blocks := ceilDiv body.length 16
  ⟨BitVec.ofNat 64 (type * 2 ^ 56 + blocks * 2 ^ 53 + b2n bcast * 2 ^ 51 + jobn * 2 ^ 47 + gen * 2 ^ 43 + tag * 2 ^ 31 +
    src * 2 ^ 22 + dst * 2 ^ 13), padTo (16 * blocks) body⟩

/-- The message with MARK set (R372). -/
def SkimMsg.marked (m : SkimMsg) : SkimMsg := { m with hdr := m.hdr ||| BitVec.ofNat 64 (2 ^ 52) }

/-- Bytes of a message on the wire. -/
def SkimMsg.bytes (m : SkimMsg) : List Byte := leBytes 8 m.hdr.toNat ++ m.body

end Sys2Proof

namespace Sys2Proof.Machine
open Sys2Proof

/-- Class of a TYPE: TC1 below 0x10, TC2 from there (R369). -/
def skimClass (type : Nat) : Nat := if type < 0x10 then 1 else 2

/-- Whether a TYPE is defined (R369). -/
def skimDefined (type : Nat) : Bool := (decide (1 ≤ type) && decide (type ≤ 4)) || (decide (0x10 ≤ type) && decide (type ≤ 0x16))

/-! ### Link state (R344) -/

/-- The code of a link state. -/
def LinkState.code : LinkState → Nat
  | .down => 0
  | .detect => 1
  | .equalize => 2
  | .lock => 3
  | .param => 4
  | .delay => 5
  | .active => 6
  | .retrain => 7
  | .listen => 8

/-- Width code of LINK_STATUS (R380). -/
def PortState.width (x : PortState) : Nat := if x.lanes = 4 then 3 else if x.lanes = 2 then 2 else if x.lanes = 1 then 1 else 0

/-- Moves a port to a state and logs it (11 R420). -/
def State.setLink (s : State) (p : Nat) (l : LinkState) : State :=
  let s := s.onPort p (fun x => { x with link := l })
  s.log (srcPort p) 0x0050 (leBytes 1 l.code ++ leBytes 1 (s.obj (Obj.downReason p)) ++ leBytes 1 (s.port p).width)

/-- A sleeping port begins to wake: its first unit leaves LANE_WAKE ticks later (04 R153). -/
def State.startWake (s : State) (p : Nat) : State :=
  if (s.port p).txSleep then s.onPort p (fun x => { x with txSleep := false, waking := s.times.grid + s.obj Obj.laneWake }) else s

/-- What wakes a port at once (04 R153). -/
def PortState.wakeNow (x : PortState) (ackWake : Nat) : Bool :=
  !x.fwd.isEmpty || !x.tc3.isEmpty || !x.skim1.isEmpty || !x.skim2.isEmpty || x.nakOwed || !x.waitq.isEmpty || x.resend != 0 ||
    decide (ackWake ≤ x.unacked) || x.wantRetrain

/-- Wakes a sleeping port that has something to send (04 R153). -/
def State.wakeIfDue (s : State) (p : Nat) : State :=
  if (s.port p).txSleep && (s.port p).wakeNow (s.obj Obj.ackWakeUnits) then s.startWake p else s

/-- Changes a port, which wakes where the change gives it something to send. -/
def State.stirPort (s : State) (p : Nat) (f : PortState → PortState) : State := (s.onPort p f).wakeIfDue p

/-! ### Client codes (11 R433) -/

/-- Driver. -/
def clDriver : Nat := 0x10
/-- Debugger. -/
def clDebugger : Nat := 0x11
/-- Chassis manager. -/
def clChassis : Nat := 0x12
/-- MP firmware. -/
def clMp : Nat := 0x13
/-- Lock-step comparator. -/
def clLock : Nat := 0x14
/-- Storage attach. -/
def clStorage : Nat := 0x15
/-- Host-side bridge. -/
def clBridge : Nat := 0x16
/-- No client. -/
def clNone : Nat := 0xFF

/-- The context the comparator watches (11 R429). -/
def State.lockCtx (s : State) : Nat := s.obj Obj.lockstepCtx % 16

/-- Whether the comparator owns X1 (11 R429). -/
def State.lockOwns (s : State) : Bool := s.obj Obj.lockstepEnable == 1 && s.obj (Obj.xOwner 1) == clLock

/-- A port starts to train (R344, R377-R379): it learns its peer anew. -/
def State.startTraining (s : State) (p : Nat) : State :=
  (s.onPort p (fun x => { x with back := x.link == .listen || x.wakeSend, resumed := false, wakeSend := false, peerDeep := false, peerSleep := false,
                                 exchanges := 0, rttSum := 0, fecC := true, fecU := true })).setLink p .detect

/-! ### Routing (R370) -/

/-- The port a message to a PNID takes. -/
def State.nextHop (s : State) (dst : Nat) : Nat :=
  let n := s.domLe Obj.skimNext dst 1
  if n < 34 then n
  else if dst / 32 = s.pnid / 32 then (dst % 32 + 17 * 2 - s.pnid % 32 - 1) % 17
  else 16 + dst % 32 % 16

/-- Adds a message to a port's queue of its class. -/
def PortState.push (x : PortState) (m : SkimMsg) (own : Bool) (arr : Option Nat) (via : Nat) : PortState :=
  if skimClass m.type = 1 then { x with skim1 := x.skim1 ++ [⟨m, own, arr, via⟩] }
  else { x with skim2 := x.skim2 ++ [⟨m, own, arr, via⟩] }

/-- Whether a message waits on a port now: the port is ACTIVE or retraining, sleeps in LISTEN or comes back from it, or its peer is
DEEP and AUTO_WAKE is set (R370, R377, R379, R422; DEDUCED, log entry 9). X1 carries no message while the comparator owns it (11 R429). -/
def State.portQueues (s : State) (p : Nat) : Bool :=
  if p = 33 ∧ s.lockOwns then false else match (s.port p).link with
  | .active => true
  | .retrain => true
  | .listen => true
  | .down => (s.port p).peerDeep && s.obj Obj.autoWake == 1 && !isUplink p
  | _ => (s.port p).back

/-- Puts a message on a port that takes it; a port in LISTEN starts to train, a port with a DEEP peer starts the wake pattern. -/
def State.pushVia (s : State) (p : Nat) (m : SkimMsg) (own : Bool) (arr : Option Nat) (via : Nat) : State :=
  let s := s.stirPort p (fun x => x.push m own arr via)
  match (s.port p).link with
  | .listen => s.startTraining p
  | .down => s.onPort p (fun x => { x with wakeSend := true })
  | _ => s

/-- The same, steered to the message's own destination. -/
def State.pushSkim (s : State) (p : Nat) (m : SkimMsg) (own : Bool) : State := s.pushVia p m own none m.dst

/-- Sends a message that needs no reply: it is discarded where its port does not take it (R363, R373). -/
def State.sendPlain (s : State) (m : SkimMsg) (own : Bool) : State :=
  let p := s.nextHop m.dst
  if s.portQueues p then s.pushSkim p m own else s

/-- Answers a request with a status completion (R373, R374, R388). -/
def State.sendStatus (s : State) (req : SkimMsg) (status : Nat) : State :=
  s.sendPlain (mkMsg 0x15 false req.jobn req.gen req.tag s.pnid req.src (leBytes 2 status)) true

/-- Answers a request with a reply (R485, R518). -/
def State.sendReply (s : State) (req : SkimMsg) (status : Nat) (data : List Byte) : State :=
  s.sendPlain (mkMsg 0x14 false 0 req.gen req.tag s.pnid req.src (padTo 16 (leBytes 2 status) ++ data)) true

/-- Frees the credits of a message of a class that leaves a port's input buffer (R365). -/
def State.freeClass (s : State) (p cls blocks : Nat) : State :=
  let f := fun (c : Credit) => { c with freedHdr := c.freedHdr + 1, freedData := c.freedData + BitVec.ofNat 12 blocks }
  s.onPort p (fun x => if cls = 1 then { x with credit1 := f x.credit1, held1 := x.held1 - 1 }
    else { x with credit2 := f x.credit2, held2 := x.held2 - 1 })

/-- The same for a message of its TYPE's class. -/
def State.freeCredit (s : State) (p : Nat) (m : SkimMsg) : State := s.freeClass p (skimClass m.type) m.blocks

/-- Forwards a message for another module, which stays in its arrival port's input buffer until it leaves; a request that cannot go on
is answered with PATH_LOST (R370, R373). -/
def State.forward (s : State) (arr : Nat) (m : SkimMsg) : State :=
  let p := s.nextHop m.dst
  if s.portQueues p then s.pushVia p m false (some arr) m.dst
  else
    let s := s.freeCredit arr m
    if m.type < 0x10 then s.sendStatus m stPathLost else s

/-! ### Completion of a request (R373) -/

/-- A proxy slot (R486). -/
def State.proxy (s : State) (i : Nat) : ProxySlot := Tab.get (fun _ => ⟨0, false, false, 0, 0, []⟩) s.host.proxies i

/-- Replaces a proxy slot. -/
def State.setProxy (s : State) (i : Nat) (x : ProxySlot) : State :=
  { s with host := { s.host with proxies := Tab.set (fun _ => ⟨0, false, false, 0, 0, []⟩) s.host.proxies i x } }

/-- Words of little-endian bytes. -/
def words : Nat → List Byte → List W32
  | 0, _ => []
  | n + 1, l => BitVec.ofNat 32 (leNat (l.take 4)) :: words n (l.drop 4)

/-- What a status or reply does at the source of the request. A remote SADD that was not applied is logged and counted (R388); a
proxy slot completes (R486); a refused report is owed again (R445); an acknowledged record leaves its origin (R488). -/
def State.completeIssuer (s : State) (i : Issuer) (status : Nat) (data : List Byte) : State :=
  match i with
  | .vat v c lnid vid =>
    if status = 0 then s
    else (s.log (srcVat v) 0x0041 (leBytes 2 status ++ leBytes 2 lnid ++ leBytes 2 vid)).bump32 (Obj.remoteRefused c) 1
  | .host c lnid vid =>
    if status = 0 then s
    else (s.log srcHost 0x0041 (leBytes 2 status ++ leBytes 2 lnid ++ leBytes 2 vid)).bump32 (Obj.remoteRefused c) 1
  | .proxy i =>
    let x := s.proxy i
    if x.busy then
      let ws := words (data.length / 4) data
      let d := (List.range ws.length).foldl (fun t k => Tab.set (fun _ => 0) t k (ws.getD k 0)) x.data
      (s.setProxy i { x with busy := false, done := true, status := BitVec.ofNat 16 status, data := d }).signal 26
    else s
  | .report c => if status = stPathLost ∨ status = stResetting then s.onCtx c (fun x => { x with owedReport := true }) else s
  | .event _ src seq => if status = 0 then s.taken src seq else s
  | .dropped => s

/-- A request fails with PATH_LOST: it is counted, and its tag's GEN advances before the tag is used again (R373). -/
def State.failRequest (s : State) (r : Request) : State :=
  let s := { s with skim := { s.skim with
    reqs := s.skim.reqs.filter (fun x => x.tag != r.tag),
    gens := Tab.set (fun _ => 0) s.skim.gens r.tag.toNat (r.gen + 1) } }
  (s.bump32 Obj.pathLostCount 1).completeIssuer r.issuer stPathLost []

/-- The lowest tag no request holds (R373; DESIGN CHOICE, log entry 10). -/
def State.freeTag (s : State) : Option Nat :=
  (List.range (s.skim.reqs.length + 1)).find? (fun t => decide (t < 4096) && s.skim.reqs.all (fun r => r.tag.toNat != t))

/-- Issues a request on a port: it takes a tag and leaves on its first hop. With every tag held it waits at its source; with no path it fails
with PATH_LOST (R370, R373). The message is given with GEN and TAG zero. -/
def State.issueOn (s : State) (p : Nat) (i : Issuer) (m : SkimMsg) : State :=
  match s.freeTag with
  | none => { s with skim := { s.skim with waiting := s.skim.waiting ++ [(i, m)] } }
  | some t =>
    let gen := Tab.get (fun _ => (0 : BitVec 4)) s.skim.gens t
    let m : SkimMsg := { m with hdr := m.hdr ||| BitVec.ofNat 64 (gen.toNat * 2 ^ 43 + t * 2 ^ 31) }
    if s.portQueues p then
      ({ s with skim := { s.skim with reqs := s.skim.reqs ++ [(⟨BitVec.ofNat 12 t, gen, p, i⟩ : Request)] } }).pushVia p m true none m.dst
    else s.failRequest ⟨BitVec.ofNat 12 t, gen, p, i⟩

/-- Issues a request on the first hop of its route. -/
def State.issueRequest (s : State) (i : Issuer) (m : SkimMsg) : State := s.issueOn (s.nextHop m.dst) i m

/-- While a tag is free the request that has waited longest is issued. A vat's remote SADD no longer counts as posted (R373). -/
def State.retryWaiting (s : State) : State :=
  (List.range s.skim.waiting.length).foldl (fun s _ =>
    match s.skim.waiting, s.freeTag with
    | (i, m) :: rest, some _ =>
      let s : State := { s with skim := { s.skim with waiting := rest } }
      let s := match i with
        | .vat v _ _ _ => s.onVat v (fun x => { x with remote := x.remote - 1 })
        | _ => s
      s.issueRequest i m
    | _, _ => s) s

/-- Outstanding requests fail, in issue order; their tags go to those that wait. -/
def State.failRequests (s : State) (l : List Request) : State := (l.foldl State.failRequest s).retryWaiting

/-- Completes an outstanding request: TAG and GEN must match one. A status completion with PATH_LOST, from a module that held the request,
fails it (R373). -/
def State.completeRequest (s : State) (m : SkimMsg) (status : Nat) (data : List Byte) : State :=
  match s.skim.reqs.find? (fun r => r.tag.toNat == m.tag && r.gen.toNat == m.gen) with
  | none => s.bump32 Obj.lateReplies 1
  | some r =>
    if status = stPathLost then s.failRequests [r]
    else
      let s := { s with skim := { s.skim with reqs := s.skim.reqs.filter (fun x => x.tag != r.tag) } }
      (s.completeIssuer r.issuer status data).retryWaiting

/-! ### Broadcasts (R371) -/

/-- Puts an identifier into the table of recent broadcasts: newest first, the oldest falls out of a full table. -/
def State.seeBcast (s : State) (src gt : Nat) : State :=
  { s with skim := { s.skim with seen := ((BitVec.ofNat 9 src, BitVec.ofNat 16 gt) :: s.skim.seen).take 64 } }

/-- Copies of a broadcast for the board and X ports of a job's port set, but for the port it came from. -/
def State.flood (s : State) (c : Nat) (m : SkimMsg) (from_ : Option Nat) : State :=
  ((s.jobPorts c).filter (fun p => !isUplink p && from_ != some p)).foldl
    (fun s p => if s.portQueues p then s.pushSkim p m from_.isNone else s) s

/-- Key of the active bank's table of a kind, and a route entry of it (08 R297, R298). -/
def State.routeEntry (s : State) (c bank l : Nat) : Nat :=
  if l < s.obj (Obj.routeCount c) then s.domLe (Obj.routeBank bank) (8 * (s.obj (Obj.routeBase c) + l)) 8 else 0

/-- The bank in use: ACTIVE_BANK (08 R306). -/
def State.activeBank (s : State) (c : Nat) : Nat := s.obj (Obj.activeBank c) % 2

/-- The PNID a route entry names. -/
def routePnid (e : Nat) : Nat := fld e 53 9

/-- The PNIDs of the lowest LNID of the job on each other board (R371). -/
def State.boardHeads (s : State) (c : Nat) : List Nat :=
  ((List.range (s.obj (Obj.routeCount c))).foldl (fun (acc : List Nat) l =>
    let e := s.routeEntry c (s.activeBank c) l
    let p := routePnid e
    if bitOf e 63 && decide (p / 32 ≠ s.pnid / 32) && acc.all (fun q => q / 32 != p / 32) then acc ++ [p] else acc) [])

/-- Broadcasts a message to every module of a context's job: it floods on the job's ports, and one copy leaves over an uplink for
each other board (R371). The copy over an uplink is steered by the unit's route word (R368); its DST is zero. -/
def State.broadcast (s : State) (c type : Nat) (body : List Byte) : State :=
  let n := s.skim.bseq
  let m := mkMsg type true (s.jobn c) (n.toNat / 4096) (n.toNat % 4096) s.pnid 0 body
  let s := { s with skim := { s.skim with bseq := n + 1 } }
  let s := (s.seeBcast s.pnid n.toNat).flood c m none
  (s.boardHeads c).foldl (fun s d =>
    let p := 16 + d % 32 % 16
    if s.portQueues p then s.pushVia p m true none d else s) s

end Sys2Proof.Machine
end

