-- ==== Sys2Proof/Machine/Fault.lean ====
section
/-! DEFINITION. Hold records and their flooding (01 R29-R45, R592), and the reporting of faults with the fault hold they raise (11 R409-R417,
R423, R528). A fault of the module is a record in the state; it stops the job, not the model. -/
namespace Sys2Proof.Machine
open Sys2Proof

/-! ### Durations (R30) -/

/-- The longest finite duration. -/
def longestHold : Nat := 126 * 4096

/-- The scale a duration needs: the smallest whose mantissa covers it. -/
def holdScale (d : Nat) : Nat := if d ≤ 127 then 0 else if d ≤ 127 * 16 then 1 else if d ≤ 127 * 256 then 2 else 3

/-- The smallest representable duration not below a need, at most the longest finite one; at least one tick. -/
def encodable (need : Nat) : Nat :=
  let d := max 1 (min need longestHold)
  ceilDiv d (16 ^ holdScale d) * 16 ^ holdScale d

/-- Mantissa and scale of a representable duration; none is indefinite. -/
def durFields : Option Nat → Nat × Nat
  | none => (127, 3)
  | some d => (d / 16 ^ holdScale d, holdScale d)

/-- The duration a mantissa and a scale encode; none is indefinite. -/
def fieldsDur (mant scale : Nat) : Option Nat := if scale = 3 ∧ mant = 127 then none else some (mant * 16 ^ scale)

/-- The hold field of a record (R29). -/
def holdField (jobn : Nat) (h : HoldRec) : Nat :=
  let (mant, scale) := durFields h.dur
  2 ^ 39 + jobn * 2 ^ 35 + h.origin.toNat * 2 ^ 23 + h.cause * 2 ^ 20 + b2n h.power * 2 ^ 19 + scale * 2 ^ 17 + mant * 2 ^ 10 +
    h.start % 1024

/-- Whether a duration is longer than another, an indefinite one being longer than any finite one (R34). -/
def longer : Option Nat → Option Nat → Bool
  | none, none => false
  | none, some _ => true
  | some _, none => false
  | some a, some b => decide (b < a)

/-! ### The hold table and the hold-forward queues (R34, R35) -/

/-- What overflowed when a record was taken in (R35). -/
inductive HoldOverflow where
  | table
  | queue (p : Nat)
  deriving DecidableEq, Repr

/-- Inserts into a hold-forward queue, earliest S first; a later version of a key replaces the one that waits. -/
def insertFwd (h : HoldFwd) : List HoldFwd → List HoldFwd
  | [] => [h]
  | x :: t => if h.hold.start < x.hold.start then h :: x :: t else x :: insertFwd h t

/-- Puts a record on a port's hold-forward queue of 64; answers whether there was no room. -/
def PortState.queueHold (x : PortState) (h : HoldFwd) : PortState × Bool :=
  let rest := x.fwd.filter (fun y => !(y.jobn == h.jobn && y.hold.origin == h.hold.origin && y.hold.start == h.hold.start))
  if rest.length < 64 then ({ x with fwd := insertFwd h rest }, false) else (x, true)

/-- Forwards a record once on every port of the job but the one it came from. -/
def State.forwardHold (s : State) (c : Nat) (h : HoldRec) (from_ : Option Nat) : State × List HoldOverflow :=
  ((s.jobPorts c).filter (fun p => from_ != some p)).foldl (fun (a : State × List HoldOverflow) p =>
    let (x, full) := (a.1.port p).queueHold ⟨BitVec.ofNat 4 (s.jobn c), h⟩
    ((a.1.setPort p x).wakeIfDue p, if full then a.2 ++ [.queue p] else a.2)) (s, [])

/-- Treats a request by the table: a new key or a longer duration is kept and forwarded, anything else is a duplicate (R34). The first
component says whether it was kept. -/
def State.takeHold (s : State) (c : Nat) (h : HoldRec) (from_ : Option Nat) : Bool × State × List HoldOverflow :=
  let x := s.ctx c
  match x.holds.find? (fun y => y.origin == h.origin && y.start == h.start) with
  | some old =>
    if longer h.dur old.dur then
      let s := s.setCtx c { x with holds := x.holds.map (fun y => if y.origin = h.origin ∧ y.start = h.start then h else y) }
      (true, s.forwardHold c h from_)
    else (false, s, [])
  | none =>
    if x.holds.length < 64 then (true, (s.setCtx c { x with holds := x.holds ++ [h] }).forwardHold c h from_)
    else (false, s, [.table])

/-- The record a module sends for its own need: merged with its own record of the same key, the longer request's cause and the OR of
both kinds (R34). -/
def State.mergeOwn (s : State) (c : Nat) (h : HoldRec) : HoldRec :=
  match (s.ctx c).holds.find? (fun y => y.origin == h.origin && y.start == h.start) with
  | some old => { h with power := h.power || old.power }
  | none => h

/-- A kept record for the tick STIME is frozen at lengthens the hold in force at once (R31, R40). HOLD_STATE keeps the cause of a record that a
longer one of its key replaces (DESIGN CHOICE, log entry 127). -/
def HoldNow.extend (n : HoldNow) (h : HoldRec) : HoldNow :=
  match h.dur with
  | none => { n with indef := true, power := n.power || h.power, causes := n.causes ||| BitVec.ofNat 8 (2 ^ h.cause) }
  | some d =>
    { n with total := max n.total d, power := n.power || h.power, causes := n.causes ||| BitVec.ofNat 8 (2 ^ h.cause) }

/-- Applies a kept record to the hold in force, if it names its start. -/
def State.extendNow (s : State) (c : Nat) (h : HoldRec) : State :=
  s.onCtx c (fun x =>
    match x.hold with
    | some n => if n.start = h.start then { x with hold := some (n.extend h), exempt := x.exempt || decide (6 ≤ h.cause) } else x
    | none => x)

/-! ### Fault records (R409) -/

/-- Code, unit, entry and detail of a fault, as its rule gives them. -/
structure FaultInfo where
  code    : Nat
  unit    : Nat
  entry   : Nat
  detail  : List Byte
  precise : Bool
  deriving DecidableEq, Repr

/-- The 64 bytes of a record. -/
def FaultRec.bytes (f : FaultRec) : List Byte :=
  leBytes 2 f.code.toNat ++ leBytes 1 f.cls ++
  leBytes 1 (f.ctx.getD 0 + b2n f.ctx.isSome * 16 + b2n f.first * 32 + b2n f.precise * 64) ++
  leBytes 2 f.pnid.toNat ++ leBytes 2 (match f.lnid with | some l => l.toNat | none => 0x8000) ++ leBytes 2 f.unit.toNat ++
  leBytes 1 (b2n f.bank + f.jobn.toNat * 16) ++ [0] ++ leBytes 6 f.stime.toNat ++ [0, 0] ++ leBytes 8 f.ftime.toNat ++
  leBytes 4 f.entry.toNat ++ leBytes 8 f.step.toNat ++ padTo 24 f.detail

/-- The record of a fault of a context. -/
def State.ctxFault (s : State) (c : Nat) (i : FaultInfo) (first : Bool) : FaultRec :=
  { code := BitVec.ofNat 16 i.code, cls := 1, ctx := some c, first := first, precise := i.precise, pnid := BitVec.ofNat 9 s.pnid,
    lnid := some (s.ctx c).lnid, unit := BitVec.ofNat 16 i.unit, bank := s.activeBank c == 1, jobn := BitVec.ofNat 4 (s.jobn c),
    stime := s.stime48 c, ftime := s.times.ftime, entry := BitVec.ofNat 32 i.entry, step := (s.ctx c).step,
    detail := padTo 24 i.detail }

/-- The record of a fault of a resource with no job: class 2. -/
def State.moduleFaultRec (s : State) (i : FaultInfo) : FaultRec :=
  { code := BitVec.ofNat 16 i.code, cls := 2, ctx := none, first := false, precise := i.precise, pnid := BitVec.ofNat 9 s.pnid,
    lnid := none, unit := BitVec.ofNat 16 i.unit, bank := false, jobn := 0, stime := 0, ftime := s.times.ftime,
    entry := BitVec.ofNat 32 i.entry, step := 0, detail := padTo 24 i.detail }

/-- The event of a fault record (R423). -/
def State.logFault (s : State) (f : FaultRec) : State :=
  s.log f.unit.toNat f.code.toNat (leBytes 6 f.stime.toNat ++ leBytes 1 (f.ctx.getD 0) ++ leBytes 1 f.cls ++
    leBytes 4 f.entry.toNat ++ f.detail.take 4)

/-- The emergency frame of a fault record (R528). -/
def FaultRec.frame (f : FaultRec) : List Byte :=
  leBytes 2 f.code.toNat ++ leBytes 1 f.cls ++ slice f.bytes 3 1 ++ slice f.bytes 6 2 ++ leBytes 2 f.unit.toNat ++ leBytes 8 f.ftime.toNat

/-- Records a class 2 fault in MODULE_FAULTS, with its event, vector 0 and emergency frame (R410, R423, R475, R528). -/
def State.moduleFault (s : State) (i : FaultInfo) : State :=
  let f := s.moduleFaultRec i
  let kept := s.events.module ++ [f]
  let s := { s with events := { s.events with module := kept.drop (kept.length - 64) }, can := { s.can with class2 := true } }
  ((s.logFault f).signal 0).emergency f.frame

/-- Records a class 1 fault in the context's log: the first becomes FAULT_FIRST, 64 are kept, all are counted (R414). Answers the record
where it is the first. -/
def State.noteFault (s : State) (c : Nat) (i : FaultInfo) : Option FaultRec × State :=
  let x := s.ctx c
  let f := s.ctxFault c i x.first.isNone
  let s := s.bump32 (Obj.faultCount c) 1
  let keep := decide (x.log.length < 64)
  let s := s.setCtx c { x with log := if keep then x.log ++ [f] else x.log, first := if x.first.isNone then some f else x.first }
  let s := if keep then s.logFault f else s
  (if x.first.isNone then some f else none, s)

/-- HOLD_LIMIT with its detail: 1 length, 2 table, 3 queue (R412). -/
def holdLimitInfo (unit kind start : Nat) : FaultInfo :=
  ⟨0x1007, unit, 0, leBytes 1 kind ++ zeros 7 ++ leBytes 6 start, false⟩

/-- The faults of overflowing hold tables and queues, recorded after the job's first fault is (R35). -/
def State.noteOverflows (s : State) (c start : Nat) (l : List HoldOverflow) : State :=
  l.foldl (fun s o => match o with
    | .table => (s.noteFault c (holdLimitInfo (srcSched c) 2 start)).2
    | .queue p => (s.noteFault c (holdLimitInfo (srcPort p) 3 start)).2) s

/-- Whether an indefinite hold is in force on a context's job. -/
def CtxState.indefNow (x : CtxState) : Bool :=
  match x.hold with
  | some n => n.indef
  | none => false

/-- The cause 7 request of a fault: S = STIME + L, indefinite (R45, R414). Nothing is issued for a job that has not launched or that an
indefinite hold already stops. -/
def State.faultHold (s : State) (c : Nat) (power : Bool) : State :=
  let x := s.ctx c
  if x.job != .running || x.indefNow then s
  else
    let h : HoldRec := s.mergeOwn c ⟨x.lnid, x.stime + s.lead c, none, 7, power⟩
    let (_, s, o) := s.takeHold c h none
    (s.extendNow c h).noteOverflows c h.start o

/-- A fault notice reaches a context, from another module or its own broadcast: kept in FAULT_NOTICES up to 16 and logged; a job that has not
launched is marked failed (R415, R417: both notices stand in every FAULT_NOTICES; DEDUCED, log entry 105). -/
def State.takeNotice (s : State) (c : Nat) (r : List Byte) : State :=
  let s := s.onCtx c (fun x => { x with notices := if x.notices.length < 16 then x.notices ++ [r] else x.notices,
                                        failed := x.failed || x.job == .armed })
  s.log (srcSched c) 0x0019 (slice r 0 2 ++ slice r 6 2 ++ slice r 12 6)

/-- Records a class 1 fault in a context. The first of a job issues the fault hold, broadcasts the record to every module of the job, this one
included, fires vector 0 and sends an emergency frame (R414, R415, R475, R528). -/
def State.jobFault (s : State) (c : Nat) (i : FaultInfo) : State :=
  match s.noteFault c i with
  | (none, s) => s
  | (some f, s) =>
    let s := s.faultHold c (i.code == 0x6001 || i.code == 0x6002)
    let s := (s.broadcast c 0x13 f.bytes).takeNotice c f.bytes
    (s.signal 0).emergency f.frame

/-- Records a fault of a context. One without a job armed or running keeps no class 1 record (R410; DEDUCED, log entry 7). -/
def State.fault (s : State) (c : Nat) (i : FaultInfo) : State := if !(s.ctx c).busy then s.moduleFault i else s.jobFault c i

/-! ### Issuing a hold (R31, R34, R35, R45) -/

/-- Takes in a record this module raised or received, and reports what overflowed (DEDUCED, log entry 108). -/
def State.acceptHold (s : State) (c : Nat) (h : HoldRec) (from_ : Option Nat) : State :=
  let (kept, s, o) := s.takeHold c h from_
  let s := if kept then s.extendNow c h else s
  o.foldl (fun s o => match o with
    | .table => s.fault c (holdLimitInfo (srcSched c) 2 h.start)
    | .queue p => s.fault c (holdLimitInfo (srcPort p) 3 h.start)) s

/-- Raises a hold of this module for a running job and remembers why, so that the raiser can extend it (R45). A need beyond the longest
finite duration is encoded as that duration (R592). -/
def State.raiseHold (s : State) (c start need cause : Nat) (power : Bool) (why : Option Raiser) : State :=
  let x := s.ctx c
  let h := s.mergeOwn c ⟨x.lnid, start, some (encodable need), cause, power⟩
  let s := match why with
    | some w => if x.raised.contains (start, w) then s else s.onCtx c (fun x => { x with raised := x.raised ++ [(start, w)] })
    | none => s
  s.acceptHold c h none

/-- Where a request made now starts: STIME + L outside a hold; the frozen STIME + L during one (R31). -/
def State.holdStart (s : State) (c : Nat) : Nat := (s.ctx c).stime + s.lead c

/-- SCHED_MISS of the schedule logic with a kind of R320 and every other field zero: launch late, hold late. -/
def schedMiss (unit kind : Nat) : FaultInfo := ⟨0x1001, unit, 0, leBytes 1 kind, false⟩

end Sys2Proof.Machine
end

