-- ==== Sys2Proof/Machine/Pail.lean ====
section
/-! DEFINITION. Pail pages and churn cells: page assignment (13 R497), plain writes and extensions (03 R119, R121, R122). -/
namespace Sys2Proof.Machine
open Sys2Proof

/-- PAIL_PAGES entry of a page in a context: 0 none, 1 outbound, 2 landing, 3 churn. -/
def State.pageKind (s : State) (c page : Nat) : Nat :=
  if page < 24576 then fld (s.domLe (Obj.pailPages c) (page / 4) 1) (2 * (page % 4)) 2 else 0

/-- Whether an armed image declares a page as a churn page (R119). -/
def State.churnPage (s : State) (page : Nat) : Bool := allCtxs.any (fun c => (s.ctx c).claims && s.pageKind c page == 3)

/-- The 4 KiB pages a range of pail addresses touches. -/
def pagesOf (a n : Nat) : List Nat := if n = 0 then [] else (List.range ((a + n - 1) / 4096 - a / 4096 + 1)).map (fun i => a / 4096 + i)

/-- The first address of a range that lies in a page not assigned to the context, if there is one (R243). -/
def State.unassigned (s : State) (c a n : Nat) : Option Nat :=
  ((pagesOf a n).find? (fun p => s.pageKind c p == 0)).map (fun p => max a (4096 * p))

/-- The sign extension of bit 127 of a cell's 16 bytes. -/
def cellSign (b : List Byte) : BitVec 16 := if bitOf (leNat b) 127 then 0xFFFF else 0

/-- The cells of a range that lie in churn pages. -/
def State.churnCells (s : State) (a n : Nat) : List Nat :=
  if n = 0 then []
  else
    let churn := (pagesOf a n).filter (fun p => s.churnPage p)
    churn.flatMap (fun p => (List.range 256).filterMap (fun i =>
      let cell := 256 * p + i
      if a / 16 ≤ cell ∧ cell ≤ (a + n - 1) / 16 then some cell else none))

/-- A plain write into pail SRAM: a churn cell's extension becomes the sign extension of its bit 127 (R121). The extension of a cell
written while no armed image declares its page a churn page stays as it was (DESIGN CHOICE, log entry 127). -/
def State.pailWrite (s : State) (a : Nat) (b : List Byte) : State :=
  let s := s.sramWrite a b
  (s.churnCells a b.length).foldl (fun s cell => s.setExt cell (cellSign (s.sramRead (16 * cell) 16))) s

/-- The signed 144-bit value of a cell; outside churn pages the extension equals bit 127 (R247). -/
def State.cellValue (s : State) (cell : Nat) : Int :=
  let b := s.sramRead (16 * cell) 16
  let e := if s.churnPage (cell / 256) then s.ext16 cell else cellSign b
  sgn 144 (e.toNat * 2 ^ 128 + leNat b)

/-- Zeroes every byte of SRAM and every extension, after which the host door reaches them (02 R590). -/
def State.clearSram (s : State) : State := { s with sram := [], ext := [], host := { s.host with sram := true } }

/-- Adds a partial into a cell modulo 2^144 (R119). -/
def State.cellAdd (s : State) (cell : Nat) (v : Int) : State :=
  let x := wrap 144 (s.cellValue cell + v)
  (s.sramWrite (16 * cell) (leBytes 16 x)).setExt cell (BitVec.ofNat 16 (x / 2 ^ 128))

end Sys2Proof.Machine
end

