-- ==== Sys2Proof/Machine/Sha256.lean ====
section
/-! DEFINITION. SHA-256 (FIPS 180-4), which the spec names for table measurements, image digests and attestation (15 R540, R552) and does not
restate (PRESUMED, log entry 23). Its constants are computed from the roots of the first primes that define them. -/
namespace Sys2Proof.Machine
open Sys2Proof

/-! ### Constants -/

/-- The integer k-th root of n, bit by bit from bit b - 1 down, above what is found so far. -/
def rootFrom (k n : Nat) : Nat → Nat → Nat
  | 0, found => found
  | b + 1, found => rootFrom k n b (if (found + 2 ^ b) ^ k ≤ n then found + 2 ^ b else found)

/-- The first 32 bits of the fraction of a number's k-th root. -/
def rootFraction (k p : Nat) : W32 := BitVec.ofNat 32 (rootFrom k (p * 2 ^ (32 * k)) 40 0)

/-- The first 64 primes. -/
def shaPrimes : List Nat := ((List.range 312).drop 2).filter (fun p => (List.range p).all (fun d => decide (d < 2) || p % d != 0))

/-- The constant of each round. -/
def shaK : List W32 := shaPrimes.map (rootFraction 3)

/-! ### Rounds -/

/-- The working variables as two runs of four, newest first: a, b, c, d are one run's last values, and e, f, g, h the other's. -/
structure Sha where
  as : List W32
  es : List W32
  deriving DecidableEq, Repr

/-- The initial value. -/
def Sha.start : Sha :=
  let h := (shaPrimes.take 8).map (rootFraction 2)
  ⟨h.take 4, h.drop 4⟩

/-- Exclusive or of three rotations. -/
def rotations (x : W32) (i j k : Nat) : W32 := x.rotateRight i ^^^ x.rotateRight j ^^^ x.rotateRight k

/-- Each bit from y or z as x says. -/
def choose (x y z : W32) : W32 := (x &&& y) ||| (~~~x &&& z)

/-- Each bit as two of the three have it. -/
def majority (x y z : W32) : W32 := (x &&& y) ||| (z &&& (x ||| y))

/-- A round with its word and constant added up: both runs take a new value. -/
def Sha.round (x : Sha) (kw : W32) : Sha :=
  let a := fun i => x.as.getD i 0
  let e := fun i => x.es.getD i 0
  let t := e 3 + rotations (e 0) 6 11 25 + choose (e 0) (e 1) (e 2) + kw
  ⟨(t + rotations (a 0) 2 13 22 + majority (a 0) (a 1) (a 2)) :: x.as.take 3, (a 3 + t) :: x.es.take 3⟩

/-- The next word of the message schedule from the words so far, newest first. -/
def nextWord (l : List W32) : W32 :=
  let back := fun i => l.getD (i - 1) 0
  let fold := fun (x : W32) (i j n : Nat) => x.rotateRight i ^^^ x.rotateRight j ^^^ (x >>> n)
  fold (back 2) 17 19 10 + back 7 + fold (back 15) 7 18 3 + back 16

/-- The message schedule, newest word first. -/
def schedule (words : List W32) : List W32 := (List.range 48).foldl (fun l _ => nextWord l :: l) words.reverse

/-- Words of a run of four bytes each, the first byte highest. -/
def beWord (l : List Byte) (i : Nat) : W32 := BitVec.ofNat 32 (leNat (slice l (4 * i) 4).reverse)

/-- A block of 64 bytes. -/
def Sha.block (x : Sha) (b : List Byte) : Sha :=
  let words := schedule ((List.range 16).map (beWord b))
  let y := (List.zipWith (· + ·) shaK words.reverse).foldl Sha.round x
  ⟨List.zipWith (· + ·) x.as y.as, List.zipWith (· + ·) x.es y.es⟩

/-- n bytes of x, big-endian. -/
def beBytes (n x : Nat) : List Byte := (leBytes n x).reverse

/-- SHA-256 of bytes: a one bit, zeros and the length in bits fill the last block. -/
def sha256 (m : List Byte) : List Byte :=
  let text := m ++ 0x80 :: zeros ((119 - m.length % 64) % 64) ++ beBytes 8 (8 * m.length)
  let x := (List.range (text.length / 64)).foldl (fun x i => x.block (slice text (64 * i) 64)) Sha.start
  (x.as ++ x.es).flatMap (fun w => beBytes 4 w.toNat)

end Sys2Proof.Machine
end

