-- ==== Sys2Proof/Machine/Banks.lean ====
section
/-! DEFINITION. The route, segment and milk-run tables: their entries, paths, bank commands and the checks of COMMIT (08 R289-R307, R339), the
arming of an epoch switch (R326, R330), fencing writes (R333) and the table measurement (15 R552). -/
namespace Sys2Proof.Machine
open Sys2Proof

/-! ### Status of a write (11 R413) -/

/-- The state with the status a write completes with. -/
def State.withStatus (s : State) (st : Nat) : State := { s with host := { s.host with status := BitVec.ofNat 16 st } }

/-- A write that completes with SUCCESS. -/
def State.ok (s : State) : State := s.withStatus stSuccess

/-! ### Route entries (R298, R299) -/

/-- Whether a route entry is a member of the job. -/
def routeV (e : Nat) : Bool := bitOf e 63
/-- SELF. -/
def routeSelf (e : Nat) : Bool := bitOf e 62
/-- DPORTS. -/
def routeDports (e : Nat) : Nat := fld e 37 16
/-- RV. -/
def routeRv (e : Nat) : Bool := bitOf e 36
/-- RPORT. -/
def routeRport (e : Nat) : Nat := fld e 32 4
/-- RLNID. -/
def routeRlnid (e : Nat) : Nat := fld e 20 12
/-- XPORTS. -/
def routeXports (e : Nat) : Nat := fld e 18 2
/-- PLANES. -/
def routePlanes (e : Nat) : Nat := fld e 0 16

/-- Whether a board or X port leads directly to an entry's PNID: its bit is set and its learned peer is that PNID. -/
def State.direct (s : State) (e p : Nat) : Bool :=
  (s.port p).peer.toNat == routePnid e &&
    (if p < 16 then bitOf (routeDports e) p else decide (32 ≤ p) && bitOf (routeXports e) (p - 32))

/-- Whether the relay path of an entry is one: RPORT leads directly to RLNID, which is valid and not SELF. -/
def State.relayPath (s : State) (c b e : Nat) : Bool :=
  let r := s.routeEntry c b (routeRlnid e)
  routeRv e && routeV r && !routeSelf r && s.direct r (routeRport e)

/-- Whether an entry's PNID lies on another board. -/
def State.offBoard (s : State) (e : Nat) : Bool := routePnid e / 32 != s.pnid / 32

/-- Whether a port is a path to an LNID (R299). -/
def State.isPath (s : State) (c b p l : Nat) : Bool :=
  let e := s.routeEntry c b l
  routeV e && !routeSelf e &&
    (s.direct e p || (s.relayPath c b e && p == routeRport e) ||
      (isUplink p && bitOf (routePlanes e) (p - 16) && s.offBoard e))

/-! ### Segment entries (R300) -/

/-- A segment entry. -/
structure SegEntry where
  first   : Nat
  count   : Nat
  len     : Nat
  rep     : Nat
  srcInc  : Int
  landInc : Int
  fin     : Nat                          -- END: 0 fall through, 1 phase boundary, 2 job end
  ncont   : Nat
  selsrc  : Nat
  next    : Nat
  lambda  : Nat
  conts   : List Nat
  pad     : Bool                         -- a reserved bit is set
  deriving DecidableEq, Repr

/-- A segment entry from its 64 bytes. -/
def segDecode (r : List Byte) : SegEntry :=
  let all := (List.range 16).map (fun j => leAt r (32 + 2 * j) 2)
  let n := leAt r 25 1 % 16 + 1
  { first := leAt r 0 4 % 2 ^ 17, count := leAt r 4 4, len := leAt r 8 4, rep := leAt r 12 4,
    srcInc := sgn 32 (leAt r 16 4), landInc := sgn 32 (leAt r 20 4), fin := leAt r 24 1, ncont := n,
    selsrc := leAt r 25 1 / 64, next := leAt r 26 2 % 4096, lambda := leAt r 28 4,
    conts := (all.take n).map (fun x => x % 4096),
    pad := decide (2 ^ 17 ≤ leAt r 0 4) || fld (leAt r 25 1) 4 2 != 0 || decide (4096 ≤ leAt r 26 2) ||
      all.any (fun x => decide (4096 ≤ x)) || (all.drop n).any (fun x => x != 0) }

/-- A segment entry of a context's bank. -/
def State.seg (s : State) (c b i : Nat) : SegEntry := segDecode (s.dom (Obj.segBank b) (64 * (s.obj (Obj.segBase c) + i)) 64)

/-- The ticks of all its repetitions. -/
def SegEntry.span (g : SegEntry) : Nat := g.rep * g.len

/-! ### Milk-run entries (R302-R305) -/

/-- A milk-run entry. -/
structure MrEntry where
  toff    : Nat
  port    : Nat
  role    : Nat                          -- 0 departure, 1 landing, 2 relay
  len     : Nat
  peer    : Nat
  flags   : Nat
  rowmask : Nat
  src     : Nat
  laddr   : Nat
  sync    : Nat
  gen     : Nat
  lat     : Nat
  slack   : Nat
  svat    : Nat
  pad     : Bool                         -- a reserved bit outside SRC and LADDR is set
  deriving DecidableEq, Repr

/-- A milk-run entry from its 32 bytes. -/
def mrDecode (r : List Byte) : MrEntry :=
  { toff := leAt r 0 3, port := leAt r 3 1 % 64, role := leAt r 3 1 / 64, len := leAt r 4 2, peer := leAt r 6 2 % 4096,
    flags := leAt r 8 2 % 2048, rowmask := leAt r 10 2, src := leAt r 12 4, laddr := leAt r 16 4, sync := leAt r 20 2 % 4096,
    gen := leAt r 22 1, lat := leAt r 23 1, slack := leAt r 24 2, svat := leAt r 26 2 % 512,
    pad := decide (4096 ≤ leAt r 6 2) || decide (2048 ≤ leAt r 8 2) || decide (4096 ≤ leAt r 20 2) || decide (512 ≤ leAt r 26 2) ||
      leAt r 28 4 != 0 }

/-- A milk-run entry of a context's bank. -/
def State.mr (s : State) (c b i : Nat) : MrEntry := mrDecode (s.dom (Obj.mrBank b) (32 * (s.obj (Obj.mrBase c) + i)) 32)

/-- DRY. -/
def MrEntry.dry (e : MrEntry) : Bool := bitOf e.flags 0
/-- PART. -/
def MrEntry.compact (e : MrEntry) : Bool := bitOf e.flags 1
/-- LAST. -/
def MrEntry.last (e : MrEntry) : Bool := bitOf e.flags 2
/-- INC. -/
def MrEntry.inc (e : MrEntry) : Bool := bitOf e.flags 3
/-- MCAST. -/
def MrEntry.mcast (e : MrEntry) : Nat := fld e.flags 4 2
/-- LKIND. -/
def MrEntry.lkind (e : MrEntry) : Nat := fld e.flags 6 2
/-- SKIND. -/
def MrEntry.slot (e : MrEntry) : Bool := bitOf e.flags 8
/-- SYNCOP. -/
def MrEntry.syncop (e : MrEntry) : Nat := fld e.flags 9 2
/-- In port of a relay. -/
def MrEntry.inPort (e : MrEntry) : Nat := fld e.src 0 6
/-- δ of a relay. -/
def MrEntry.delta (e : MrEntry) : Nat := fld e.src 8 16

/-- The ports of a row multicast. -/
def maskPorts (m : Nat) : List Nat := (List.range 16).filter (fun p => bitOf m p)

/-- The ports a departure takes (R310, R323). -/
def MrEntry.outPorts (e : MrEntry) : List Nat := if e.mcast = 1 then maskPorts e.rowmask else [e.port]

/-- The port whose arrivals an entry takes: the arrival port of a landing, the in port of a relay. -/
def MrEntry.arrPort (e : MrEntry) : Nat := if e.role = 2 then e.inPort else e.port

/-- The ports an entry names (R296). -/
def MrEntry.named (e : MrEntry) : List Nat := if e.role = 0 then e.outPorts else if e.role = 2 then [e.inPort, e.port] else [e.port]

/-- Ticks between units: four on an uplink (R310; DEDUCED, log entry 75). -/
def unitStep (p : Nat) : Nat := if isUplink p then 4 else 1

/-- The step of a departure's units. -/
def MrEntry.depStep (e : MrEntry) : Nat := if e.mcast = 1 then 1 else unitStep e.port

/-- The region base of a vat-resident slot (R85; 13 R497). -/
def State.slotBase (s : State) (c v slot : Nat) : Nat := 4096 * fld (s.domLe (Obj.slotTable c) (64 * v + 4 * slot) 4) 12 9

/-- The numbers of a context's loaded slot regions in a vat. -/
def State.slotRegions (s : State) (c v : Nat) : List Nat :=
  (List.range 16).filterMap (fun i =>
    let e := s.domLe (Obj.slotTable c) (64 * v + 4 * i) 4
    if bitOf e 31 then some (fld e 12 9) else none)

/-- Bytes that a repetition adds to an entry's addresses (R305). -/
def MrEntry.shift (e : MrEntry) (k : Nat) (rinc : Int) : Int := if e.inc then k * rinc else 0

/-- BAR4 offset of unit i of a departure whose repetition adds some bytes (R305). -/
def State.srcAddr (s : State) (c : Nat) (e : MrEntry) (inc : Int) (i : Nat) : Nat :=
  if e.slot then
    match vatOfId e.svat with
    | some v => vatBase v + (((s.slotBase c v (e.src % 16) + 256 * (e.src / 256 + i) : Nat) : Int) + inc).toNat
    | none => 0
  else (((e.src + 256 * i : Nat) : Int) + inc).toNat

/-- Bytes of a landing's unit at its address: a payload of 240, or 30 cells of compact partials. -/
def MrEntry.landStep (e : MrEntry) : Nat := if e.lkind = 2 then (if e.compact then 480 else 240) else 256

/-- BAR4 offset of unit i of a landing whose repetition adds some bytes (R305). -/
def landAddr (e : MrEntry) (inc : Int) (i : Nat) : Nat :=
  if e.lkind = 1 then
    match vatOfId (fld e.laddr 21 9) with
    | some v => vatBase v + (((fld e.laddr 0 21 + 256 * i : Nat) : Int) + inc).toNat
    | none => 0
  else (((fld e.laddr 0 27 + e.landStep * i : Nat) : Int) + inc).toNat

/-! ### Bank states (R306) -/

/-- The state of a bank. -/
def CtxState.bank (x : CtxState) (b : Nat) : BankState := if b = 0 then x.bank0 else x.bank1

/-- Sets the state of a bank. -/
def CtxState.setBank (x : CtxState) (b : Nat) (t : BankState) : CtxState := if b = 0 then { x with bank0 := t } else { x with bank1 := t }

/-- The code of a bank state. -/
def BankState.code : BankState → Nat
  | .empty => 0
  | .loading => 1
  | .loaded => 2
  | .active => 3
  | .draining => 4

/-- Whether a table entry lies in a context's range. -/
def State.inRange (s : State) (base count : Nat → Nat) (c e : Nat) : Bool :=
  decide (s.obj (base c) ≤ e) && decide (e < s.obj (base c) + s.obj (count c))

/-- Removes the content of a context's ranges of a bank: an EMPTY bank has none. What lies in another context's range too stays with it. -/
def State.clearBank (s : State) (c b : Nat) : State :=
  let others := allCtxs.filter (fun d => d != c && (s.ctx d).bank b != .empty)
  let cut := fun (t : State) (key size : Nat) (base count : Nat → Nat) =>
    { t with doms := Tab.erase (fun k => k / 2 ^ 32 == key && s.inRange base count c (k % 2 ^ 32 / size) &&
        others.all (fun d => !s.inRange base count d (k % 2 ^ 32 / size))) t.doms }
  let t := cut s (Obj.routeBank b) 8 Obj.routeBase Obj.routeCount
  let t := cut t (Obj.segBank b) 64 Obj.segBase Obj.segCount
  cut t (Obj.mrBank b) 32 Obj.mrBase Obj.mrCount

/-- A command in an ACTIVE or DRAINING bank is refused with RESOURCE_HELD; one the state does not list, with WRONG_STATE. -/
def State.bankRefused (s : State) (c b : Nat) : State :=
  match (s.ctx c).bank b with
  | .active => s.withStatus stHeld
  | .draining => s.withStatus stHeld
  | _ => s.withStatus stWrongState

/-- BANK_OPEN: EMPTY or LOADED becomes LOADING, the content of a LOADED bank is kept. -/
def execBankOpen (c : CtxId) (b : BankId) (s : State) : Host.Outcome State Fault Refusal :=
  answer s (match (s.ctx c).bank b with
    | .empty => ((s.clearBank c b).onCtx c (fun x => x.setBank b .loading)).ok
    | .loaded => (s.onCtx c (fun x => x.setBank b .loading)).ok
    | _ => s.bankRefused c b)

/-- BANK_DISCARD: LOADING or LOADED becomes EMPTY. -/
def execBankDiscard (c : CtxId) (b : BankId) (s : State) : Host.Outcome State Fault Refusal :=
  answer s (match (s.ctx c).bank b with
    | .loading => ((s.clearBank c b).onCtx c (fun x => x.setBank b .empty)).ok
    | .loaded => ((s.clearBank c b).onCtx c (fun x => x.setBank b .empty)).ok
    | _ => s.bankRefused c b)

/-! ### The checks of COMMIT (R307) -/

/-- Reason a route entry is refused with: reserved bits, a PNID that is none, SELF, or a path that is none (DESIGN CHOICE, log entry 28). -/
def State.routeBad (s : State) (c b l : Nat) : Option Nat :=
  let e := s.routeEntry c b l
  let earlier := (List.range l).any (fun j => routeSelf (s.routeEntry c b j))
  if fld e 16 2 ≠ 0 then some 1
  else if (routeV e || routeSelf e) && decide (17 ≤ routePnid e % 32) then some 2
  else if routeSelf e then
    if earlier || !routeV e || routePnid e != s.pnid || routeDports e != 0 || routeRv e || routeXports e != 0 || routePlanes e != 0
    then some 6 else none
  else if routeV e then
    let board := (maskPorts (routeDports e)).all (fun p => s.direct e p)
    let xs := [32, 33].all (fun p => !bitOf (routeXports e) (p - 32) || s.direct e p)
    if board && xs && (!routeRv e || s.relayPath c b e) && (routePlanes e == 0 || s.offBoard e) then none else some 6
  else none

/-- Whether fall-through links lead from a segment back round: after as many links as there are segments, one still falls through. -/
def State.fallsRound (s : State) (c b : Nat) : Nat → Nat → Bool
  | 0, _ => true
  | n + 1, i => if (s.seg c b i).fin = 0 then State.fallsRound s c b n (s.seg c b i).next else false

/-- Reason for the order of a segment's entries: TOFF ascending and below LEN. -/
def State.orderBad (s : State) (c b : Nat) (g : SegEntry) : Option Nat :=
  let t := fun j => (s.mr c b (g.first + j)).toff
  (List.range g.count).findSome? (fun j =>
    if j ≠ 0 ∧ t j < t (j - 1) then some 4 else if g.len ≤ t j then some 2 else none)

/-- Reason a segment entry is refused with (R300, R301). -/
def State.segBad (s : State) (c b i : Nat) : Option Nat :=
  let g := s.seg c b i
  let n := s.obj (Obj.segCount c)
  if g.pad then some 1
  else if g.len = 0 ∨ 2 ^ 24 < g.len ∨ g.rep = 0 ∨ g.srcInc % 256 ≠ 0 ∨ g.landInc % 16 ≠ 0 ∨ 2 < g.fin ∨ g.selsrc = 3 ∨
      s.obj (Obj.mrCount c) < g.first + g.count ∨ (g.fin = 0 ∧ n ≤ g.next) ∨ (g.fin = 1 ∧ g.conts.any (fun x => decide (n ≤ x))) then some 2
  else if g.fin = 1 ∧ (g.ncont = 1) ≠ (g.selsrc = 0) then some 6
  else s.orderBad c b g

/-- Whether every repetition of an address run lies in bounds, is aligned, and passes a test of its span. -/
def repsOk (base : Nat) (inc : Int) (rep len al limit : Nat) (ok : Nat → Bool) : Bool :=
  let last : Int := base + (rep - 1 : Nat) * inc
  decide (base % al = 0) && (decide (rep ≤ 1) || inc % al == 0) && decide (0 ≤ last) && decide (last + len ≤ limit) &&
    decide (base + len ≤ limit) && (List.range (if inc = 0 then 1 else rep)).all (fun k => ok ((base : Int) + k * inc).toNat)

/-- Whether every page of a pail range has one of some kinds in a context. -/
def State.pagesKind (s : State) (c : Nat) (kinds : List Nat) (a n : Nat) : Bool :=
  (pagesOf a n).all (fun p => kinds.contains (s.pageKind c p))

/-- The vat an address or a source names, if it is assigned to the context. -/
def State.ownedVat (s : State) (c id : Nat) : Option Nat :=
  match vatOfId id with
  | some v => if s.assigned c v then some v else none
  | none => none

/-- Reason a source address is refused with (R305). -/
def State.sourceBad (s : State) (c : Nat) (e : MrEntry) (g : Option SegEntry) : Option Nat :=
  let rep := match g with | some g => if e.inc then g.rep else 1 | none => 1
  let inc : Int := match g with | some g => if e.inc then g.srcInc else 0 | none => 0
  if e.slot then
    if fld e.src 4 4 ≠ 0 then some 1
    else match s.ownedVat c e.svat with
      | none => some 2
      | some v =>
        let regions := s.slotRegions c v
        if bitOf (s.domLe (Obj.slotTable c) (64 * v + 4 * (e.src % 16)) 4) 31 &&
            repsOk (s.slotBase c v (e.src % 16) + 256 * (e.src / 256)) inc rep (256 * e.len) 256 vatSize
              (fun a => (pagesOf a (256 * e.len)).all regions.contains) then none
        else some 2
  else if 2 ^ 27 ≤ e.src then some 1
  else if repsOk e.src inc rep (256 * e.len) 256 pailSize (fun a => s.pagesKind c [1] a (256 * e.len)) then none
  else some 2

/-- Reason a landing address is refused with (R305). -/
def State.landingBad (s : State) (c : Nat) (e : MrEntry) (g : Option SegEntry) : Option Nat :=
  let rep := match g with | some g => if e.inc then g.rep else 1 | none => 1
  let inc : Int := match g with | some g => if e.inc then g.landInc else 0 | none => 0
  let n := e.landStep * e.len
  if e.lkind = 1 then
    if 2 ^ 30 ≤ e.laddr then some 1
    else if (s.ownedVat c (fld e.laddr 21 9)).isSome && repsOk (fld e.laddr 0 21) inc rep n 256 vatSize (fun _ => true) then none
    else some 2
  else if 2 ^ 27 ≤ e.laddr then some 1
  else if e.lkind = 0 then
    if repsOk e.laddr inc rep n 256 pailSize (fun a => s.pagesKind c [2, 3] a n) then none else some 2
  else if repsOk e.laddr inc rep n 16 pailSize (fun a => s.pagesKind c [3] a n) then none else some 2

/-- Whether an entry sets a field its role does not use (R304). -/
def MrEntry.stray (e : MrEntry) : Bool :=
  let allowed := if e.role = 0 then 0x73D else if e.role = 1 then 0x6CF else 0x005
  let flagStray := (List.range 11).any (fun i => bitOf e.flags i && !bitOf allowed i)
  flagStray || (e.sync != 0 && e.syncop == 0) ||
    (if e.role = 0 then e.laddr != 0 || e.lat != 0 || e.slack != 0 || (e.svat != 0 && !e.slot) || (e.rowmask != 0 && e.mcast != 1) ||
        (e.peer != 0 && e.mcast != 0) || e.syncop == 1
      else if e.role = 1 then e.rowmask != 0 || e.src != 0 || e.gen != 0 || e.svat != 0 || e.syncop == 2
      else e.rowmask != 0 || e.laddr != 0 || e.sync != 0 || e.gen != 0 || e.slack != 0 || e.svat != 0)

/-- RELAY_CUT of an in port (R321). -/
def State.relayCut (s : State) (p : Nat) : Nat := if isUplink p then s.obj Obj.relayCutU else s.obj Obj.relayCutB

/-- Whether an entry breaks a rule of paths, relays or multicasts (R307). -/
def State.pathBad (s : State) (c b : Nat) (e : MrEntry) : Bool :=
  if e.role = 0 then
    if e.mcast = 1 then
      e.rowmask == 0 || (maskPorts e.rowmask).any (fun p => !(List.range (s.obj (Obj.routeCount c))).any (fun l =>
        let r := s.routeEntry c b l
        routeV r && !routeSelf r && s.direct r p))
    else if e.mcast = 2 then !isUplink e.port
    else !s.isPath c b e.port e.peer
  else if e.role = 2 then isUplink e.port || decide (e.delta < s.relayCut e.inPort) || !s.isPath c b e.port e.peer
  else false

/-- Whether a port is held by someone else than a context (R296, R432). -/
def State.portHeld (s : State) (c p : Nat) : Bool :=
  let o := s.obj (Obj.schedOwner p)
  (o != clNone && o != c) || (isXport p && s.obj (Obj.xOwner (p - 32)) != clNone && s.obj (Obj.xOwner (p - 32)) != c)

/-- Reason a milk-run entry is refused with. The segments that hold it give its repetitions; without one it is checked once. -/
def State.mrBad (s : State) (c b i : Nat) : Option Nat :=
  let e := s.mr c b i
  let segs := ((List.range (s.obj (Obj.segCount c))).map (s.seg c b)).filter (fun g => decide (g.first ≤ i) && decide (i < g.first + g.count))
  let gs := if segs.isEmpty then [none] else segs.map some
  let undefined := e.role == 3 || e.len == 0 || e.syncop == 3 || e.lkind == 3 || e.mcast == 3 ||
    (decide (34 ≤ e.port) && !(e.role == 0 && e.mcast == 1)) || (e.role == 2 && decide (34 ≤ e.inPort))
  if e.pad || (e.role == 2 && (fld e.src 6 2 != 0 || decide (2 ^ 24 ≤ e.src))) then some 1
  else if undefined then some 2
  else if e.stray || s.pathBad c b e then some 6
  else match gs.findSome? (fun g => if e.role = 0 then s.sourceBad c e g else if e.role = 1 then s.landingBad c e g else none) with
    | some r => some r
    | none => if e.named.any (s.portHeld c) then some 8 else none

/-- Whether the spans of two arrivals of one segment meet in some repetitions (R307). -/
def spansMeet (a b la lb len rep : Nat) (same : Bool) : Bool :=
  (List.range rep).any (fun k =>
    (decide (k ≠ 0) || !same) &&
      ((decide (a + k * len < b + lb) && decide (b < a + k * len + la)) || (decide (b + k * len < a + la) && decide (a < b + k * len + lb))))

/-- The index of an arrival of a segment that overlaps an earlier one on its port. Beyond the repetitions that a span can reach, nothing meets. -/
def State.overlapBad (s : State) (c b : Nat) (g : SegEntry) : Option Nat :=
  let arr := ((List.range g.count).map (fun j => (g.first + j, s.mr c b (g.first + j)))).filter (fun e => e.2.role == 1 || e.2.role == 2)
  let sp := fun (e : MrEntry) => unitStep e.arrPort * e.len
  (arr.find? (fun y => arr.any (fun x => decide (x.1 ≤ y.1) && x.2.arrPort == y.2.arrPort &&
    spansMeet x.2.toff y.2.toff (sp x.2) (sp y.2) g.len (min g.rep (262144 / max 1 g.len + 2)) (x.1 == y.1)))).map (fun y => y.1)

/-- The first failure of a bank: table, reason, index. Routes are checked first, then segments, then milk-run entries (DESIGN CHOICE, log entry 28). -/
def State.bankBad (s : State) (c b : Nat) : Option (Nat × Nat × Nat) :=
  let nr := s.obj (Obj.routeCount c)
  let ns := s.obj (Obj.segCount c)
  let nm := s.obj (Obj.mrCount c)
  let first := fun (t n : Nat) (f : Nat → Option Nat) => (List.range n).findSome? (fun i => (f i).map (fun r => (t, r, i)))
  match first 1 nr (s.routeBad c b) with
  | some x => some x
  | none =>
    if !(List.range nr).any (fun l => routeSelf (s.routeEntry c b l)) then some (1, 6, 0)
    else match first 2 ns (s.segBad c b) with
      | some x => some x
      | none => match first 2 ns (fun i => if s.fallsRound c b (ns + 1) i then some 6 else none) with
        | some x => some x
        | none => match first 3 nm (s.mrBad c b) with
          | some x => some x
          | none => (List.range ns).findSome? (fun i => (s.overlapBad c b (s.seg c b i)).map (fun j => (3, 5, j)))

/-! ### The table measurement (15 R552) -/

/-- The stream descriptors of a context in a bank: those of the dies no other context owns that are not all zero (DEDUCED, log entry 29). -/
def State.streamRecords (s : State) (c b die : Nat) : List (Nat × List Byte) :=
  let o := s.obj (Obj.streamOwner die)
  let key := if die = 0 then Obj.streamBankD0 b else Obj.streamBankD1 b
  if o = clNone ∨ o = c then
    ((List.range 2048).map (fun i => (i, s.dom key (64 * i) 64))).filter (fun r => r.2.any (fun x => x != 0))
  else []

/-- The measurement of a bank. VARIANT_TABLE counts with the records it holds. -/
def State.measure (s : State) (c b : Nat) : List Byte :=
  sha256 (s.dom (Obj.routeBank b) (8 * s.obj (Obj.routeBase c)) (8 * s.obj (Obj.routeCount c)) ++
    s.dom (Obj.segBank b) (64 * s.obj (Obj.segBase c)) (64 * s.obj (Obj.segCount c)) ++
    s.dom (Obj.mrBank b) (32 * s.obj (Obj.mrBase c)) (32 * s.obj (Obj.mrCount c)) ++
    ((s.streamRecords c b 0 ++ s.streamRecords c b 1).flatMap (fun r => r.2)) ++
    s.dom (Obj.syncMap c) 0 16384 ++ s.dom (Obj.variantTable c) 0 (s.obj (Obj.variantTable c)) ++ s.dom (Obj.vatAssign c) 0 40 ++ s.dom (Obj.vatEntry c) 0 1280)

/-! ### COMMIT -/

/-- The ports a bank names (R296). -/
def State.bankPorts (s : State) (c b : Nat) : List Nat :=
  (((List.range (s.obj (Obj.mrCount c))).flatMap (fun i => (s.mr c b i).named)).filter (fun p => decide (p < 34))).eraseDups

/-- Claims a port for a context; an X port's owner field goes with it (R296, R432). -/
def State.claimPort (s : State) (c p : Nat) : State :=
  let s := s.setObj (Obj.schedOwner p) c
  if isXport p then s.setObj (Obj.xOwner (p - 32)) c else s

/-- BANK_COMMIT. -/
def execBankCommit (c : CtxId) (b : BankId) (s : State) : Host.Outcome State Fault Refusal :=
  answer s (match (s.ctx c).bank b with
    | .loading =>
      match s.bankBad c b with
      | some (t, r, i) =>
        (s.setObj (Obj.commitError c) (t * 2 ^ 56 + r * 2 ^ 48 + b.val * 2 ^ 32 + i)).withStatus (if r = 8 then stHeld else stRefused)
      | none =>
        let t := (s.setObj (Obj.commitError c) 0).onCtx c (fun x =>
          let x := x.setBank b .loaded
          if b.val = 0 then { x with measure0 := s.measure c b } else { x with measure1 := s.measure c b })
        (if (s.ctx c).busy then
          (s.bankPorts c b).foldl (fun s p => if s.obj (Obj.schedOwner p) = clNone then s.claimPort c p else s) t
        else t).ok
    | _ => s.bankRefused c b)

/-! ### Writes into a bank (R306; 14 R531) -/

/-- Whether a range of bytes of a table of some entry size may be written: every entry lies in the range of a context whose bank is LOADING, and in no
context's range of a bank in another state. -/
def State.tableOpen (s : State) (b size off n : Nat) (base count : Nat → Nat) : Bool :=
  if n = 0 then true
  else (List.range ((off + n - 1) / size - off / size + 1)).all (fun i =>
    let e := off / size + i
    allCtxs.any (fun c => (s.ctx c).bank b == .loading && s.inRange base count c e) &&
      allCtxs.all (fun c => (s.ctx c).bank b == .loading || !s.inRange base count c e))

/-- Whether a stream bank of a die may be written. -/
def State.streamOpen (s : State) (b die : Nat) : Bool :=
  match allCtxs.filter (fun c => (s.ctx c).bank b == .loading) with
  | [c] => s.obj (Obj.streamOwner die) == clNone || s.obj (Obj.streamOwner die) == c
  | _ => false

/-! ### The epoch switch (R326, R330) -/

/-- A fault detail of R320. -/
def runDetail (kind port epoch active index planned lnid second rep : Nat) : List Byte :=
  leBytes 1 kind ++ leBytes 1 port ++ leBytes 1 (epoch + 2 * active) ++ [0] ++ leBytes 4 index ++ leBytes 6 planned ++ leBytes 2 lnid ++
    leBytes 4 second ++ leBytes 4 rep

/-- The last STIME at which a switch for σ may be armed or cancelled. -/
def State.switchBy (s : State) (c sigma : Nat) : Int := sigma - s.lead c - s.obj Obj.epochArmLead

/-- SWITCH_ARM_TIMED: the switch is armed; without a job the write is in the wrong state; a late arm completes and raises SCHED_MISS "switch late" instead (DEDUCED, log entry 30).
A segment outside the table does not exist and is refused (DESIGN CHOICE, log entry 40). -/
def execSwitchArmTimed (c : CtxId) (s : State) : Host.Outcome State Fault Refusal :=
  let x := s.ctx c
  let sigma := s.obj (Obj.switchAt c)
  answer s (if x.bank (1 - s.activeBank c) ≠ .loaded then s.withStatus stHeld
    else if !x.busy then s.withStatus stWrongState
    else if 4096 ≤ s.obj (Obj.segBase c) + s.obj (Obj.switchSeg c) then s.withStatus stRefused
    else if s.switchBy c sigma < x.stime then
      (s.fault c ⟨0x1001, srcSched c, 0, runDetail 0x12 0 0 (s.activeBank c) 0 sigma 0 0 0, false⟩).ok
    else (s.onCtx c (fun x => { x with switch := some (sigma, s.obj (Obj.switchSeg c)) })).ok)

/-- SWITCH_ARM_CANCEL: refused with WRONG_STATE after the last tick for it, of the armed switch or else of the one SWITCH_AT names (DEDUCED,
log entry 30). -/
def execSwitchArmCancel (c : CtxId) (s : State) : Host.Outcome State Fault Refusal :=
  let sigma := match (s.ctx c).switch with
    | some (sigma, _) => sigma
    | none => s.obj (Obj.switchAt c)
  answer s (if (s.ctx c).busy && decide (s.switchBy c sigma < (s.ctx c).stime) then s.withStatus stWrongState
    else (s.onCtx c (fun x => { x with switch := none })).ok)

/-! ### Fencing (R333) -/

/-- Whether an LNID of a context is fenced. -/
def State.fenced (s : State) (c l : Nat) : Bool := bitOf (s.domLe (Obj.fence c) (l / 8) 1) (l % 8)

/-- FENCE_WRITE: bits of FENCE are written; an LNID whose bit is newly set logs its next suppression at once (R335). Data beyond the object's
512 bytes is refused. -/
def execFenceWrite (c : CtxId) (off : Nat) (data : List Byte) (s : State) : Host.Outcome State Fault Refusal :=
  answer s (if 512 < off + data.length then s.withStatus stRefused
    else
      let t := s.setDom (Obj.fence c) off data
      (t.onCtx c (fun x => { x with fenceSeen := x.fenceSeen.filter (fun e => s.fenced c e.1 && t.fenced c e.1) })).ok)

end Sys2Proof.Machine
end

