-- ==== Sys2Proof/Machine/Numeric.lean ====
section
/-! DEFINITION. Number formats, exact values and rounding (03 R99-R131), the vector engine's arithmetic (03 R128; 06 R231-R235) and the
random generator. A finite value is an integer times a power of two, held exactly. -/
namespace Sys2Proof.Machine
open Sys2Proof

/-! ### Formats (R99, R214) -/

/-- A format of R99: width, exponent and mantissa bits, bias (all zero for integers), largest finite code, code of infinity. -/
structure Fmt where
  width : Nat
  eb    : Nat
  mb    : Nat
  bias  : Nat
  top   : Nat                            -- largest finite magnitude code
  inf   : Option Nat
  int   : Bool
  deriving DecidableEq, Repr

/-- The formats by their codes (R214); ternary weights and undefined codes have none. -/
def fmtOf : Nat → Option Fmt
  | 0x0 => some ⟨4, 2, 1, 1, 0x7, none, false⟩
  | 0x1 => some ⟨6, 2, 3, 1, 0x1F, none, false⟩
  | 0x2 => some ⟨6, 3, 2, 3, 0x1F, none, false⟩
  | 0x3 => some ⟨8, 4, 3, 7, 0x7E, none, false⟩
  | 0x4 => some ⟨8, 5, 2, 15, 0x7B, some 0x7C, false⟩
  | 0x5 => some ⟨4, 0, 0, 0, 7, none, true⟩
  | 0x6 => some ⟨8, 0, 0, 0, 127, none, true⟩
  | 0x7 => some ⟨16, 8, 7, 127, 0x7F7F, some 0x7F80, false⟩
  | 0x8 => some ⟨16, 5, 10, 15, 0x7BFF, some 0x7C00, false⟩
  | 0x9 => some ⟨32, 8, 23, 127, 0x7F7FFFFF, some 0x7F800000, false⟩
  | 0xA => some ⟨32, 0, 0, 0, 2147483647, none, true⟩
  | _ => none

/-- Codes 0x0-0x6 are block-scaled (R214). -/
def blockScaled (code : Nat) : Bool := decide (code ≤ 6)

/-- Element width in bits by format code; a ternary weight has none of its own. -/
def fmtWidth (code : Nat) : Nat :=
  match fmtOf code with
  | some f => f.width
  | none => 2

/-- An exact value m times 2^e. -/
structure Dyad where
  m : Int
  e : Int
  deriving DecidableEq, Repr

/-- The value of an element code (R100); none for a NaN or an infinity. -/
def elemVal (f : Fmt) (x : Nat) : Option Dyad :=
  if f.int then some ⟨sgn f.width x, 0⟩
  else
    let mag := x % 2 ^ (f.width - 1)
    let neg := bitOf x (f.width - 1)
    if f.top < mag then none
    else
      let ex := mag / 2 ^ f.mb
      let mant := mag % 2 ^ f.mb
      let m : Int := if ex = 0 then mant else mant + 2 ^ f.mb
      some ⟨if neg then -m else m, (max ex 1 : Nat) - (f.bias + f.mb : Nat)⟩

/-- Value of an E8M0 scale (R100); none for 0xFF. -/
def scaleVal (x : Nat) : Option Dyad := if x = 0xFF then none else some ⟨1, (x : Int) - 127⟩

/-- Exact product. -/
def Dyad.mul (a b : Dyad) : Dyad := ⟨a.m * b.m, a.e + b.e⟩

/-- The five trits of a byte, weight i of the byte (R104). -/
def trit (b i : Nat) : Int := (b / 3 ^ i % 3 : Nat) - 1

/-! ### The window (R111, R112) -/

/-- Largest magnitude of the range. -/
def windowMax : Int := 2 ^ 127 - 1

/-- floor(p times 2^-W), and whether bits were lost. -/
def truncWindow (p : Dyad) (w : Int) : Int × Bool :=
  let sh := p.e - w
  if 0 ≤ sh then (p.m * 2 ^ sh.toNat, false)
  else
    let d : Int := 2 ^ (-sh).toNat
    (p.m / d, p.m % d != 0)

/-- A value held to the range by saturation, and whether it lay outside. -/
def saturate (v : Int) : Int × Bool :=
  if windowMax < v then (windowMax, true) else if v < -windowMax then (-windowMax, true) else (v, false)

/-! ### Rounding (R124, R125) -/

/-- Rounding mode: to nearest even, or stochastic with the 24-bit value r (R126). -/
inductive Mode where
  | rne
  | sr (r : Nat)
  deriving DecidableEq, Repr

/-- Rounds magnitude n times 2^sh to an integer, sh negative for a fraction. -/
def roundMag (mode : Mode) (n : Nat) (sh : Int) : Nat :=
  if 0 ≤ sh then n * 2 ^ sh.toNat
  else
    let d := 2 ^ (-sh).toNat
    let q := n / d
    let rem := n % d
    match mode with
    | .rne => if d < 2 * rem ∨ (2 * rem = d ∧ q % 2 = 1) then q + 1 else q
    | .sr r => if 2 ^ 24 ≤ rem * 2 ^ 24 / d + r then q + 1 else q

/-- convert of R124: the code of the exact value m times 2^e in a format, with SATFMT. -/
def convert (f : Fmt) (mode : Mode) (satfmt : Bool) (x : Dyad) : Nat :=
  if x.m = 0 then 0
  else
    let a := x.m.natAbs
    let neg := decide (x.m < 0)
    if f.int then
      let y := min (roundMag mode a x.e) f.top
      if neg then wrap f.width (-(y : Int)) else y
    else
      let ue : Int := max ((Nat.log2 a : Int) + x.e) (1 - (f.bias : Int)) - f.mb
      let n := roundMag mode a (x.e - ue)
      -- the code grows with the value, subnormals and a carry into the next binade included
      let code := ((ue + f.mb + f.bias - 1) * 2 ^ f.mb + n).toNat
      let code := if f.top < code then
          (match f.inf with
           | some i => if satfmt then f.top else i
           | none => f.top)
        else code
      if neg then code + 2 ^ (f.width - 1) else code

/-- emax of R127 by format code. -/
def emaxOf : Nat → Int
  | 0x0 => 2
  | 0x1 => 2
  | 0x2 => 4
  | 0x3 => 8
  | 0x4 => 15
  | 0x6 => 6
  | _ => 2

/-- The E8M0 scale of an output block (R127). -/
def blockScale (code : Nat) (xs : List Dyad) : Nat :=
  let es := (xs.filter (fun x => x.m != 0)).map (fun x => (Nat.log2 x.m.natAbs : Int) + x.e - emaxOf code + 127)
  match es with
  | [] => 0
  | e :: t => (min (max (t.foldl max e) 0) 254).toNat

/-! ### The random generator (R129) -/

/-- mix32. -/
def mix32 (x : W32) : W32 :=
  let x := x ^^^ (x >>> 16)
  let x := x * 0x9E3779B1
  x ^^^ (x >>> 15)

/-- rng32. -/
def rng32 (seed step : W64) (tid idx : W32) : W32 :=
  let h := mix32 (seed.setWidth 32 ^^^ idx)
  let h := mix32 (h ^^^ (seed >>> 32).setWidth 32 ^^^ tid)
  let h := mix32 (h ^^^ step.setWidth 32)
  mix32 (h ^^^ (step >>> 32).setWidth 32)

/-! ### FP32 lanes (R128, R231-R235) -/

/-- What a floating-point lane holds. -/
inductive FP where
  | nan
  | inf (neg : Bool)
  | fin (neg : Bool) (m : Nat) (e : Int) -- magnitude m times 2^e
  deriving DecidableEq, Repr

/-- FP32. -/
def fp32 : Fmt := ⟨32, 8, 23, 127, 0x7F7FFFFF, some 0x7F800000, false⟩
/-- BF16. -/
def bf16 : Fmt := ⟨16, 8, 7, 127, 0x7F7F, some 0x7F80, false⟩
/-- FP16. -/
def fp16 : Fmt := ⟨16, 5, 10, 15, 0x7BFF, some 0x7C00, false⟩

/-- Reads a code of a format with infinities. -/
def FP.read (f : Fmt) (x : Nat) : FP :=
  let mag := x % 2 ^ (f.width - 1)
  let neg := bitOf x (f.width - 1)
  if f.inf = some mag then .inf neg
  else if f.top < mag then .nan
  else
    let ex := mag / 2 ^ f.mb
    .fin neg (if ex = 0 then mag % 2 ^ f.mb else mag % 2 ^ f.mb + 2 ^ f.mb) ((max ex 1 : Nat) - (f.bias + f.mb : Nat))

/-- The single NaN of R128. -/
def nan32 : Nat := 0x7FC00000

/-- The sign bit of a format. -/
def signBit (f : Fmt) (neg : Bool) : Nat := if neg then 2 ^ (f.width - 1) else 0

/-- Rounds to FP32 by RNE. -/
def FP.to32 : FP → Nat
  | .nan => nan32
  | .inf neg => 0x7F800000 + signBit fp32 neg
  | .fin neg m e => if m = 0 then signBit fp32 neg else convert fp32 .rne false ⟨if neg then -(m : Int) else m, e⟩

/-- Rounds to BF16 by RNE; a NaN is the single NaN's upper half (DESIGN CHOICE, log entry 14). -/
def FP.to16 : FP → Nat
  | .nan => 0x7FC0
  | .inf neg => 0x7F80 + signBit bf16 neg
  | .fin neg m e => if m = 0 then signBit bf16 neg else convert bf16 .rne false ⟨if neg then -(m : Int) else m, e⟩

/-- The FP16 code of a NaN operand: R233 states none, so it is one of the NaN codes, free (DESIGN CHOICE, log entry 14). -/
def nan16 (x : Nat) : Nat :=
  let f := (Config.freeFun 16 (BitVec.ofNat 32 x)).toNat
  f / 1024 % 2 * 0x8000 + 0x7C01 + f % 1023

/-- Exact signed value of a finite operand. -/
def signed (neg : Bool) (m : Nat) : Int := if neg then -(m : Int) else m

/-- Exact sum of two finite values; an exact zero is +0 unless both are -0 (IEEE 754). -/
def addFin (n1 : Bool) (m1 : Nat) (e1 : Int) (n2 : Bool) (m2 : Nat) (e2 : Int) : FP :=
  let e := min e1 e2
  let t := signed n1 m1 * 2 ^ (e1 - e).toNat + signed n2 m2 * 2 ^ (e2 - e).toNat
  if t = 0 then .fin (n1 && n2) 0 0 else .fin (decide (t < 0)) t.natAbs e

/-- Sum before rounding. -/
def FP.add : FP → FP → FP
  | .nan, _ => .nan
  | _, .nan => .nan
  | .inf a, .inf b => if a = b then .inf a else .nan
  | .inf a, _ => .inf a
  | _, .inf b => .inf b
  | .fin n1 m1 e1, .fin n2 m2 e2 => addFin n1 m1 e1 n2 m2 e2

/-- The value with its sign turned. -/
def FP.neg : FP → FP
  | .nan => .nan
  | .inf a => .inf (!a)
  | .fin n m e => .fin (!n) m e

/-- Product before rounding. -/
def FP.mul : FP → FP → FP
  | .nan, _ => .nan
  | _, .nan => .nan
  | .inf a, .inf b => .inf (a != b)
  | .inf a, .fin n m _ => if m = 0 then .nan else .inf (a != n)
  | .fin n m _, .inf b => if m = 0 then .nan else .inf (n != b)
  | .fin n1 m1 e1, .fin n2 m2 e2 => .fin (n1 != n2) (m1 * m2) (e1 + e2)

/-- Whether a is below b as IEEE values; false where either is a NaN. -/
def FP.lt : FP → FP → Bool
  | .nan, _ => false
  | _, .nan => false
  | .inf a, .inf b => a && !b
  | .inf a, .fin _ _ _ => a
  | .fin _ _ _, .inf b => !b
  | .fin n1 m1 e1, .fin n2 m2 e2 =>
    let e := min e1 e2
    decide (signed n1 m1 * 2 ^ (e1 - e).toNat < signed n2 m2 * 2 ^ (e2 - e).toNat)

/-- Whether either is a NaN. -/
def FP.unordered (a b : FP) : Bool := a == .nan || b == .nan

/-- The sign of a value. -/
def FP.isNeg : FP → Bool
  | .nan => false
  | .inf a => a
  | .fin n _ _ => n

/-! ### Elementary functions (R234) -/

/-- Fraction bits of the fixed-point evaluation: far beyond what tells a correctly rounded binary32 result (DEDUCED, log entry 24). -/
def fixBits : Nat := 256

/-- 2^(2^-1), 2^(2^-2), ... in fixed point, each the square root of the one before. -/
def rootTable : Nat → Nat → List Nat
  | 0, _ => []
  | n + 1, x => let r := Nat.sqrt (x * 2 ^ fixBits); r :: rootTable n r

/-- The factors of 2^f for the fraction bits of f. -/
def roots : List Nat := rootTable fixBits (2 * 2 ^ fixBits)

/-- 2^f in fixed point for a fraction f of fixBits bits. -/
def exp2Frac (f : Nat) : Nat :=
  ((roots.zip (List.range fixBits)).foldl (fun acc p =>
    if bitOf f (fixBits - 1 - p.2) then acc * p.1 / 2 ^ fixBits else acc) (2 ^ fixBits))

/-- log2 of y in fixed point, for y in [1, 2). -/
def log2Frac (y : Nat) : Nat :=
  ((roots.zip (List.range fixBits)).foldl (fun (acc : Nat × Nat) p =>
    let t := acc.1 * p.1 / 2 ^ fixBits
    if t ≤ y then (t, acc.2 + 2 ^ (fixBits - 1 - p.2)) else acc) (2 ^ fixBits, 0)).2

/-- 2^x. -/
def FP.exp2 : FP → FP
  | .nan => .nan
  | .inf neg => if neg then .fin false 0 0 else .inf false
  | .fin neg m e =>
    if m = 0 then .fin false 1 0
    else if 200 ≤ (Nat.log2 m : Int) + e then (if neg then .fin false 0 0 else .inf false)
    else
      let x : Int := signed neg m * 2 ^ (e + fixBits).toNat
      let n := x / (2 ^ fixBits : Nat)
      let f := (x % (2 ^ fixBits : Nat)).toNat
      if f = 0 then (if n < -1000 then .fin false 0 0 else if 1000 < n then .inf false else .fin false 1 n)
      else if n < -1000 then .fin false 0 0
      else if 1000 < n then .inf false
      else .fin false (2 * exp2Frac f + 1) (n - fixBits - 1)

/-- log2 x. -/
def FP.log2 : FP → FP
  | .nan => .nan
  | .inf neg => if neg then .nan else .inf false
  | .fin neg m e =>
    if m = 0 then .inf true
    else if neg then .nan
    else
      let k := Nat.log2 m
      let y := m * 2 ^ (fixBits - k)
      let f := log2Frac y
      let t : Int := ((k : Int) + e) * (2 ^ fixBits : Nat) + f
      if m = 2 ^ k then .fin (decide (t < 0)) t.natAbs (-(fixBits : Int))
      else
        let t2 := 2 * t + 1
        .fin (decide (t2 < 0)) t2.natAbs (-(fixBits : Int) - 1)

/-- 1 / x, with a last bit that stands for the remainder. -/
def FP.recip : FP → FP
  | .nan => .nan
  | .inf neg => .fin neg 0 0
  | .fin neg m e =>
    if m = 0 then .inf neg
    else
      let q := 2 ^ 128 / m
      let sticky := if 2 ^ 128 % m = 0 then 0 else 1
      .fin neg (2 * q + sticky) (-e - 129)

/-- √x. -/
def FP.sqrt : FP → FP
  | .nan => .nan
  | .inf neg => if neg then .nan else .inf false
  | .fin neg m e =>
    if m = 0 then .fin neg 0 0
    else if neg then .nan
    else
      let m2 := if e % 2 = 0 then m * 2 ^ 128 else m * 2 ^ 129
      let e2 := if e % 2 = 0 then e - 128 else e - 129
      let r := Nat.sqrt m2
      .fin false (2 * r + (if r * r = m2 then 0 else 1)) (e2 / 2 - 1)

/-- 1 / √x. -/
def FP.rsqrt : FP → FP
  | .nan => .nan
  | .inf neg => if neg then .nan else .fin false 0 0
  | .fin neg m e =>
    if m = 0 then .inf neg
    else if neg then .nan
    else
      let m2 := if e % 2 = 0 then m else 2 * m
      let e2 := if e % 2 = 0 then e else e - 1
      let r := Nat.sqrt (2 ^ 256 / m2)
      .fin false (2 * r + (if r * r * m2 = 2 ^ 256 then 0 else 1)) (-(e2 / 2) - 129)

end Sys2Proof.Machine
end

