-- ==== Sys2Proof/Machine/Flags.lean ====
section
/-! DEFINITION. Conditions: the predicate functions of CMP, CMPI and PLOG (05 R181, R182). The sequencer keeps no flags; a condition goes
into a predicate register. -/
namespace Sys2Proof.Machine
open Sys2Proof

/-- cond(FN, x, y) of R182; FN 7-31 are refused at decode. -/
def cond (fn : Nat) (x y : W32) : Bool :=
  match fn with
  | 0 => x == y
  | 1 => x != y
  | 2 => decide (x.toInt < y.toInt)
  | 3 => decide (y.toInt ≤ x.toInt)
  | 4 => decide (x.toNat < y.toNat)
  | 5 => decide (y.toNat ≤ x.toNat)
  | _ => x &&& y != 0

/-- PLOG: the truth table FN read at 2 P[a] + P[b] (R181). -/
def plogBit (fn : Nat) (a b : Bool) : Bool := bitOf fn (2 * b2n a + b2n b)

end Sys2Proof.Machine
end

