-- ==== Sys2Proof/Machine/Sync.lean ====
section
/-! DEFINITION. The sync unit: counters, watches, barriers, translation, owner loss and the state dump (10 R382-R407). -/
namespace Sys2Proof.Machine
open Sys2Proof

/-! ### Loaded tables (R385, R397) -/

/-- Key of the translation table a context loaded at arming: a copy of SYNC_MAP that no door reaches. -/
abbrev Obj.loadedMap (c : Nat) : Nat := 256 * (0x7010 + c) + 0x82
/-- Key of the barrier range's base as loaded at arming. -/
abbrev Obj.loadedBarrierBase (c : Nat) : Nat := 256 * (0x7010 + c) + 0x84
/-- Key of the barrier range's length as loaded at arming. -/
abbrev Obj.loadedBarrierCount (c : Nat) : Nat := 256 * (0x7010 + c) + 0x85

/-- What a vid names (R385, R386, R405; DESIGN CHOICE, log entry 114). -/
inductive VidRef where
  | unmapped
  | counter (n : Nat)                    -- local or live foreign: physical counter
  | barrier (n : Nat)
  | remote (lnid vid : Nat)
  | gone (n : Nat)                       -- foreign, and the owner is frozen or was armed again
  deriving DecidableEq, Repr

/-- The translation of a vid in a context. -/
def State.resolve (s : State) (c vid : Nat) : VidRef :=
  let e := s.domLe (Obj.loadedMap c) (4 * vid) 4
  if !bitOf e 31 then .unmapped
  else match fld e 29 2 with
    | 0 => .counter (4096 * c + fld e 0 12)
    | 1 => .barrier (s.obj (Obj.loadedBarrierBase c) + fld e 0 12)
    | 2 => .remote (fld e 12 12) (fld e 0 12)
    | _ =>
      let o := fld e 20 4
      let n := 4096 * o + fld e 0 12
      if (s.ctx o).sync = .live ∧ Tab.get (fun _ => 0) s.sync.mapEpoch (16 * c + o) = (s.ctx o).epochs then .counter n else .gone n

/-- A counter with no SYNC_INIT record (R382). -/
def Counter.start : Counter := ⟨0, 0xFFFFFFFF, false⟩

/-- A physical counter. -/
def State.counter (s : State) (n : Nat) : Counter := Tab.get (fun _ => Counter.start) s.sync.counters n

/-- Replaces a counter. -/
def State.setCounter (s : State) (n : Nat) (x : Counter) : State :=
  { s with sync := { s.sync with counters := Tab.set (fun _ => Counter.start) s.sync.counters n x } }

/-- A barrier entry nothing was loaded into. -/
def Barrier.blank : Barrier := ⟨0, 0, 0, 0, false, false, false, 0, 0, 0, []⟩

/-- A physical barrier. -/
def State.barrier (s : State) (n : Nat) : Barrier := Tab.get (fun _ => Barrier.blank) s.sync.barriers n

/-- Replaces a barrier. -/
def State.setBarrier (s : State) (n : Nat) (x : Barrier) : State :=
  { s with sync := { s.sync with barriers := Tab.set (fun _ => Barrier.blank) s.sync.barriers n x } }

/-! ### Watches (R392-R396) -/

/-- The value a watch compares: a counter's, or the low 32 bits of a barrier's episode (R386). -/
def State.watchedValue (s : State) : Watched → W32
  | .counter n => (s.counter n).value
  | .barrier n => (s.barrier n).episode

/-- The SENSE a watch compares. -/
def State.watchedSense (s : State) : Watched → Bool
  | .counter n => (s.counter n).sense
  | .barrier n => (s.barrier n).sense

/-- Whether a plain watch's condition holds (R392). -/
def Watch.holds (w : Watch) (value : W32) (sense : Bool) : Bool :=
  match w.cond with
  | .ge => decide (w.value.toNat ≤ value.toNat)
  | .eq => w.value == value
  | .flip => sense != w.sense

/-- Delivers one notification (R396): a vat's waits in its queue of notices, a host queue's is an event of the sync unit; MP firmware
discards its own (DEDUCED, log entry 110). -/
def State.notify (s : State) (w : Watch) (status reason : Nat) (value : W32) : State :=
  match w.target with
  | .vat v => s.onVat v (fun x => { x with notices := x.notices ++ [⟨value, BitVec.ofNat 16 status⟩] })
  | .mp => s
  | .queue q => s.logTo (srcSync w.ctx) 0x0040
      (leBytes 2 w.handle.toNat ++ leBytes 2 (w.vid + 4096 * w.ctx) ++ leBytes 4 value.toNat ++ leBytes 2 status ++ leBytes 1 reason)
      (some q)

/-- Removes every plain watch on a thing whose condition holds and notifies it, in registration order (R395). -/
def State.firePlain (s : State) (on : Watched) : State :=
  let value := s.watchedValue on
  let sense := s.watchedSense on
  let hit := fun (w : Watch) => w.on == on && !w.claim && !w.lost && w.holds value sense
  let due := s.sync.watches.filter hit
  let s := { s with sync := { s.sync with watches := s.sync.watches.filter (fun w => !hit w) } }
  due.foldl (fun s w => s.notify w stSuccess 0 value) s

/-- The claim at the head of a counter's claim queue. -/
def State.headClaim (s : State) (n : Nat) : Option Watch :=
  s.sync.watches.find? (fun w => w.on == .counter n && w.claim && !w.lost)

/-- Grants claims from the head of the queue while the counter covers them (R395). -/
def State.grantClaims : Nat → State → Nat → State
  | 0, s, _ => s
  | f + 1, s, n =>
    match s.headClaim n with
    | none => s
    | some w =>
      let x := s.counter n
      if w.value.toNat ≤ x.value.toNat then
        let s := { s with sync := { s.sync with watches := s.sync.watches.filter (fun y => y != w) } }
        let s := s.setCounter n { x with value := x.value - w.value, sense := !x.sense }
        let s := s.notify w stSuccess 0 (x.value - w.value)
        State.grantClaims f (s.firePlain (.counter n)) n
      else s

/-- Settles a counter or a barrier (R395, R398). -/
def State.settle (s : State) (on : Watched) : State :=
  let s := s.firePlain on
  match on with
  | .counter n => s.grantClaims s.sync.watches.length n
  | .barrier _ => s

/-- Key of a thing's registration count. -/
def watchedKey : Watched → Nat
  | .counter n => n
  | .barrier n => 65536 + n

/-- Whether a watch stands in an entry of the pool: a vat's wait stands in the vat's reserved entry (R393). -/
def Watch.pooled (w : Watch) : Bool :=
  !w.lost && match w.target with
    | .vat _ => false
    | _ => true

/-- Entries of the pool a context holds (R393): WATCHES_HELD. -/
def State.watchesHeld (s : State) (c : Nat) : Nat := (s.sync.watches.filter (fun w => w.ctx == c && w.pooled)).length

/-- The lowest pool entry that is free (R393; DESIGN CHOICE, log entry 11). -/
def State.freeEntry (s : State) : Option Nat :=
  let used := s.sync.watches.filter Watch.pooled
  (List.range (used.length + 1)).find? (fun e => decide (e < 4096) && used.all (fun w => w.handle.toNat % 4096 != e))

/-- Appends a registration and settles (R395). -/
def State.register (s : State) (w : Watch) : State :=
  let k := watchedKey w.on
  let n := Tab.get (fun _ => 0) s.sync.regs k + 1
  let w := { w with number := n, sense := s.watchedSense w.on }
  let s := { s with sync := { s.sync with watches := s.sync.watches ++ [w], regs := Tab.set (fun _ => 0) s.sync.regs k n } }
  s.settle w.on

/-- Takes a pool entry for a watch and registers it; the handle, or the status of a refusal (R393, R394, R403). -/
def State.registerPool (s : State) (on : Watched) (c vid : Nat) (cond : Cond) (value : W32) (target : Target) :
    Except Nat (BitVec 16) × State :=
  if s.obj (Obj.watchQuota c) ≤ s.watchesHeld c then (.error stHeld, s)
  else match s.freeEntry with
    | none => (.error stHeld, s)
    | some e =>
      let g := Tab.get (fun _ => (0 : BitVec 4)) s.sync.gens e
      let h := BitVec.ofNat 16 (g.toNat * 4096 + e)
      let s := { s with sync := { s.sync with gens := Tab.set (fun _ => 0) s.sync.gens e (g + 1) } }
      (.ok h, s.register ⟨on, c, vid, cond, value, false, false, target, h, 0, false⟩)

/-- Removes the watch of a context with a handle; a stale handle does nothing (R394). -/
def State.unwatch (s : State) (c : Nat) (h : BitVec 16) : State :=
  let keep := s.sync.watches.filter (fun w => !(w.ctx == c && w.handle == h && w.pooled))
  { s with sync := { s.sync with watches := keep } }

/-! ### Operations on counters (R383, R386, R389, R391) -/

/-- Who operates: the fault's unit and entry, the kind of R391, the origin's LNID, and the vat to tell. -/
structure SyncSrc where
  unit  : Nat
  entry : Nat
  kind  : Nat
  lnid  : Nat
  vat   : Option Nat
  deriving DecidableEq, Repr

/-- Records a sync fault in a context and sends its notice on the way to the vat (R196, R391). -/
def State.syncFault (s : State) (c : Nat) (src : SyncSrc) (code kind vid before : Nat) (amount : Int) (limit phys : Nat)
    (echo : FaultEcho) : State :=
  let detail := leBytes 2 vid ++ leBytes 1 kind ++ [0] ++ leBytes 4 before ++ leBytes 4 (wrap 32 amount) ++ leBytes 4 limit ++
    leBytes 2 phys ++ leBytes 2 src.lnid
  let s := s.fault c ⟨code, src.unit, src.entry, detail, false⟩
  match src.vat with
  | some v => s.onVat v (fun x => { x with echoes := x.echoes ++ [echo] })
  | none => s

/-- SYNC_UNMAPPED: kind 11 for an unmapped vid, 12 for a KIND that does not admit the operation, 13 where that is a foreign one whose owner is
gone. The detail holds what the vid names, zeros where nothing stands there (R386, R391; DEDUCED, log entry 136). -/
def State.syncUnmapped (s : State) (c : Nat) (src : SyncSrc) (vid : Nat) (amount : Int) (echo : FaultEcho) : State :=
  let named := fun (kind n : Nat) => s.syncFault c src 0x3003 kind vid (s.counter n).value.toNat amount (s.counter n).limit.toNat n echo
  match s.resolve c vid with
  | .unmapped => s.syncFault c src 0x3003 11 vid 0 amount 0 0 echo
  | .remote _ _ => s.syncFault c src 0x3003 12 vid 0 amount 0 0 echo
  | .counter n => named 12 n
  | .gone n => if (s.ctx (n / 4096)).sync = .frozen then named 13 n else s.syncFault c src 0x3003 13 vid 0 amount 0 0 echo
  | .barrier n =>
    let b := s.barrier n
    s.syncFault c src 0x3003 12 vid b.episode.toNat amount (if src.kind = 10 then b.modN else b.locN) n echo

/-- Gives a counter the result of an operation; the Bool says whether it was applied (R383, R384, R395). -/
def State.applyCounter (s : State) (c : Nat) (src : SyncSrc) (vid n : Nat) (new amount : Int) (echo : FaultEcho) : Bool × State :=
  let x := s.counter n
  if new < 0 then (false, s.syncFault c src 0x3001 src.kind vid x.value.toNat amount x.limit.toNat n echo)
  else if (x.limit.toNat : Int) < new then (false, s.syncFault c src 0x3002 src.kind vid x.value.toNat amount x.limit.toNat n echo)
  else
    let v := BitVec.ofNat 32 new.toNat
    let s := s.setCounter n { x with value := v, sense := if v = x.value then x.sense else !x.sense }
    (true, (s.settle (.counter n)).bump64 (Obj.syncOps c) 1)

/-- An add or a set through a mapping whose owner is gone is counted, and logged once per vid (R404). -/
def State.goneOperation (s : State) (c vid : Nat) (src : SyncSrc) : State :=
  let s := s.bump32 (Obj.remoteRefused c) 1
  if s.sync.loggedRefusals.contains (c, vid) then s
  else
    let s := { s with sync := { s.sync with loggedRefusals := (c, vid) :: s.sync.loggedRefusals } }
    s.log src.unit 0x0041 (leBytes 2 stOwnerLost ++ leBytes 2 (s.ctx c).lnid.toNat ++ leBytes 2 vid)

/-- A remote SADD on its way (R388): a request to the PNID of the LNID by the context's routes. -/
def State.sendRemoteAdd (s : State) (c vid : Nat) (src : SyncSrc) (lnid rvid : Nat) (amount : Int) : State :=
  let dst := routePnid (s.routeEntry c (s.activeBank c) lnid)
  let m := mkMsg 0x01 false (s.jobn c) 0 0 s.pnid dst (padTo 16 (leBytes 2 rvid ++ leBytes 1 1 ++ [0] ++ leBytes 4 (wrap 32 amount)))
  match src.vat with
  | some v =>
    let s := if s.freeTag.isNone then s.onVat v (fun x => { x with remote := x.remote + 1 }) else s
    s.issueRequest (.vat v c lnid vid) m
  | none => s.issueRequest (.host c lnid vid) m

/-- An add to a vid, translated in the context that issues it (R386). Only a vat and the host reach a remote counter; a signal that does
not admit the mapping is SYNC_UNMAPPED, whether its owner is there or gone. The Bool says whether it was applied or sent. -/
def State.syncAdd (s : State) (c vid : Nat) (src : SyncSrc) (amount : Int) : Bool × State :=
  if (s.ctx c).sync != .live then (false, s)
  else match s.resolve c vid with
    | .counter n =>
      if n / 4096 ≠ c ∧ ¬ (src.kind = 1 ∨ src.kind = 3) then (false, s.syncUnmapped c src vid amount .none)
      else s.applyCounter c src vid n ((s.counter n).value.toNat + amount) amount .none
    | .remote l rv =>
      if src.kind = 1 ∨ src.kind = 3 then (true, s.sendRemoteAdd c vid src l rv amount) else (false, s.syncUnmapped c src vid amount .none)
    | .gone _ => (false, if src.kind = 1 ∨ src.kind = 3 then s.goneOperation c vid src else s.syncUnmapped c src vid amount .none)
    | _ => (false, s.syncUnmapped c src vid amount .none)

/-- A set of a vid (R386). -/
def State.syncSet (s : State) (c vid : Nat) (src : SyncSrc) (value : W32) : Bool × State :=
  if (s.ctx c).sync != .live then (false, s)
  else match s.resolve c vid with
    | .counter n => s.applyCounter c src vid n value.toNat value.toNat .none
    | .gone _ => (false, s.goneOperation c vid src)
    | _ => (false, s.syncUnmapped c src vid value.toInt .none)

/-- The subtraction of a pail landing from PAIL_CREDIT_VID; the Bool says whether the credit sufficed (09 R366). -/
def State.pailCredit (s : State) (c vid : Nat) (src : SyncSrc) : Bool × State :=
  match s.resolve c vid with
  | .counter n =>
    if n / 4096 ≠ c then (true, s.syncUnmapped c src vid (-1) .none)
    else if (s.counter n).value = 0 then (false, s)
    else (true, (s.applyCounter c src vid n ((s.counter n).value.toNat - 1) (-1) .none).2)
  | _ => (true, s.syncUnmapped c src vid (-1) .none)

/-! ### Barriers (R397, R398) -/

/-- Sets a context's launch compare to an instant; one that has passed is launch late (01 R55-R57). -/
def State.setLaunch (s : State) (c instant : Nat) : State :=
  if instant < s.times.ftime.toNat then s.fault c (schedMiss (srcSched c) 0x15)
  else
    let s := s.onCtx c (fun x => { x with launchAt := some (BitVec.ofNat 64 instant) })
    s.onCmp (s.ctx c).unit (fun x => { x with target := BitVec.ofNat 64 instant, ctrl := x.ctrl ||| 0x80000000, armed := true, missed := 0 })

/-- A release at a module, which SYNC_OPS counts (R408; DEDUCED, log entry 137): the next episode begins, waiters and watches are notified; any other episode is discarded and logged (R398). -/
def State.releaseBarrier (s : State) (c n : Nat) (sense : Bool) (episode : W32) (origin instant : Nat) : State :=
  let b := s.barrier n
  if episode ≠ b.episode + 1 then
    s.log (srcSync c) 0x0043 (leBytes 2 b.vid ++ leBytes 2 origin ++ leBytes 4 episode.toNat ++ leBytes 4 b.episode.toNat ++
      leBytes 1 (b2n sense))
  else
    let s := (s.setBarrier n { b with sense := sense, episode := episode, loc := 0, sent := false, waiters := [] }).bump64 (Obj.syncOps c) 1
    let s := b.waiters.foldl (fun s v => s.onVat v (fun x => { x with notices := x.notices ++ [⟨episode, 0⟩] })) s
    let s := s.settle (.barrier n)
    if b.launch ∧ (s.ctx c).job = .armed ∧ (s.ctx c).barrier then s.setLaunch c instant else s

/-- Body of an arrival or a release (R398). -/
def barrierBody (vid : Nat) (sense : Bool) (episode : W32) (instant : Nat) : List Byte :=
  leBytes 2 vid ++ leBytes 1 (b2n sense) ++ [0] ++ leBytes 4 episode.toNat ++ leBytes 8 instant

/-- The launch instant of R55: the root's FTIME plus LAUNCH_LEAD ticks, rounded up to a grid tick. -/
def State.launchInstant (s : State) (c : Nat) : Nat := gridUp (s.times.ftime.toNat + s.obj (Obj.launchLead c) * 16)

/-- The root's release: applied locally first, then broadcast (R398). -/
def State.rootRelease (s : State) (c n : Nat) : State :=
  let b := s.barrier n
  let instant := if b.launch then s.launchInstant c else 0
  let s := s.setBarrier n { b with count := 0 }
  let s := s.releaseBarrier c n (!b.sense) (b.episode + 1) s.pnid instant
  s.broadcast c 0x11 (barrierBody b.vid (!b.sense) (b.episode + 1) instant)

/-- A module arrival at the root (R398). -/
def State.rootArrive (s : State) (c n : Nat) (sense : Bool) (episode : W32) (unit origin : Nat) : State :=
  let b := s.barrier n
  if sense ≠ b.sense ∨ episode ≠ b.episode then
    s.syncFault c ⟨unit, 0, 10, origin, none⟩ 0x3002 10 b.vid b.episode.toNat 0 b.modN n .none
  else
    let s := s.setBarrier n { b with count := b.count + 1 }
    if b.count + 1 = b.modN then s.rootRelease c n else s

/-- An arrival of a participant of this module, counted in SYNC_OPS (R398, R408; DEDUCED, log entry 137): a vat waits, the host and a launch barrier's arming do not. -/
def State.localArrive (s : State) (c n : Nat) (src : SyncSrc) : State :=
  let b := s.barrier n
  if b.sent || b.loc == b.locN then s.syncFault c src 0x3002 9 b.vid b.episode.toNat 0 b.locN n .wait
  else
    let s := (s.setBarrier n { b with
      waiters := match src.vat with | some v => b.waiters ++ [v] | none => b.waiters,
      loc := b.loc + 1, sent := b.loc + 1 == b.locN }).bump64 (Obj.syncOps c) 1
    if b.loc + 1 = b.locN then
      if b.root = (s.ctx c).lnid then s.rootArrive c n b.sense b.episode src.unit (s.ctx c).lnid.toNat
      else
        let dst := routePnid (s.routeEntry c (s.activeBank c) b.root.toNat)
        s.sendPlain (mkMsg 0x02 false (s.jobn c) 0 0 s.pnid dst (barrierBody b.vid b.sense b.episode 0)) true
    else s

/-! ### Arming and owner loss (R382, R385, R397, R404, R405) -/

/-- The bytes of a DOMAIN that are not zero, copied to another key. -/
def State.copyDom (s : State) (src dst : Nat) : State :=
  (s.doms.filter (fun e => e.1 / 2 ^ 32 == src)).foldl
    (fun s e => { s with doms := Tab.set domDefault s.doms (domKey dst (e.1 % 2 ^ 32)) e.2 }) (s.clearDom dst)

/-- Written length of a DOMAIN that holds as many records as were written (R382; DESIGN CHOICE, log entry 12). -/
def State.domLen (s : State) (k : Nat) : Nat := s.obj k

/-- Loads counters, barriers and the translation table of a context from its image objects (R382, R385, R397). -/
def State.loadSync (s : State) (c : Nat) : State :=
  let s := s.copyDom (Obj.syncMap c) (Obj.loadedMap c)
  let base := s.obj (Obj.barrierBase c)
  let s := (s.setObj (Obj.loadedBarrierBase c) base).setObj (Obj.loadedBarrierCount c) (s.obj (Obj.barrierCount c))
  let own := fun (k : Nat) => k / 4096 == c
  let inRange := fun (k : Nat) => decide (base ≤ k) && decide (k < base + s.obj (Obj.barrierCount c))
  let mine := fun (w : Watch) => match w.on with
    | .counter n => own n
    | .barrier n => inRange n
  let s := { s with sync := { s.sync with
    counters := Tab.erase own s.sync.counters, barriers := Tab.erase inRange s.sync.barriers,
    watches := s.sync.watches.filter (fun w => !mine w),
    regs := Tab.erase (fun k => if k < 65536 then own k else inRange (k - 65536)) s.sync.regs,
    loggedRefusals := s.sync.loggedRefusals.filter (fun x => x.1 != c) } }
  let s := (List.range (s.domLen (Obj.syncInit c) / 16)).foldl (fun s i =>
    let r := s.dom (Obj.syncInit c) (16 * i) 16
    let e := s.domLe (Obj.loadedMap c) (4 * (leAt r 8 2 % 4096)) 4
    s.setCounter (4096 * c + fld e 0 12) ⟨BitVec.ofNat 32 (leAt r 0 4), BitVec.ofNat 32 (leAt r 4 4), false⟩) s
  let s := (List.range (s.domLen (Obj.barrierInit c) / 16)).foldl (fun s i =>
    let r := s.dom (Obj.barrierInit c) (16 * i) 16
    let w := leAt r 0 2
    let e := s.domLe (Obj.loadedMap c) (4 * (w % 4096)) 4
    s.setBarrier (base + fld e 0 12) ⟨w % 4096, BitVec.ofNat 12 (leAt r 2 2), leAt r 4 2, leAt r 6 2, bitOf w 12, bitOf w 14,
      bitOf w 15, 0, 0, BitVec.ofNat 32 (leAt r 12 4), []⟩) s
  let s := s.onCtx c (fun x => { x with sync := .live, epochs := x.epochs + 1, lossReason := 0 })
  let marks := allCtxs.foldl (fun t o => Tab.set (fun _ => 0) t (16 * c + o) (s.ctx o).epochs) s.sync.mapEpoch
  { s with sync := { s.sync with mapEpoch := marks } }

/-- Whether a watch is on something a context owns. -/
def State.ownsWatched (s : State) (c : Nat) : Watched → Bool
  | .counter n => n / 4096 == c
  | .barrier n => decide (s.obj (Obj.loadedBarrierBase c) ≤ n) &&
      decide (n < s.obj (Obj.loadedBarrierBase c) + s.obj (Obj.loadedBarrierCount c))

/-- Owner loss (R404, R201): waits of the context's own vats are abandoned, its counters and barriers freeze, and every watch on them
gets one notification with OWNER_LOST and the frozen value. The dump shows the watches as at the freeze, the own vats' among them (R407). A
waiter of another context at a barrier does not exist (R386). -/
def State.freezeSync (s : State) (c reason : Nat) : State :=
  let ownVat := fun (w : Watch) => w.ctx == c && (match w.target with | .vat _ => true | _ => false)
  let s := { s with sync := { s.sync with watches := s.sync.watches.filter (fun w => !ownVat w || s.ownsWatched c w.on) } }
  let s := s.onCtx c (fun x => { x with sync := .frozen, lossReason := reason, freezeF := s.times.ftime, freezeS := s.stime48 c })
  let due := s.sync.watches.filter (fun w => s.ownsWatched c w.on && !w.lost && !ownVat w)
  let s := { s with sync := { s.sync with
    watches := s.sync.watches.map (fun w => if s.ownsWatched c w.on then { w with lost := true } else w),
    barriers := s.sync.barriers.map (fun e => if s.ownsWatched c (.barrier e.1) then (e.1, { e.2 with waiters := [] }) else e) } }
  due.foldl (fun s w => s.notify w stOwnerLost reason (s.watchedValue w.on)) s

/-! ### The state dump (R407) -/

/-- A record of a counter. -/
def State.dumpCounter (s : State) (c vid n : Nat) : List Byte :=
  let x := s.counter n
  let on := s.sync.watches.filter (fun w => w.on == .counter n)
  leBytes 4 x.value.toNat ++ leBytes 4 x.limit.toNat ++ leBytes 2 vid ++
    leBytes 1 (b2n ((s.ctx c).sync == .frozen) + 2 * b2n x.sense) ++ [0] ++
    leBytes 2 (on.filter (fun w => !w.claim)).length ++ leBytes 2 (on.filter (fun w => w.claim)).length

/-- Target of a watch in a record. -/
def Target.code : Target → Nat
  | .vat v => vatId v
  | .mp => 0x8000
  | .queue q => 0x8008 + q

/-- Condition of a watch in a record. -/
def Cond.code : Cond → Nat
  | .ge => 0
  | .eq => 1
  | .flip => 2

/-- A record of a watch. -/
def Watch.dump (w : Watch) : List Byte :=
  leBytes 2 w.handle.toNat ++ leBytes 2 (w.vid + 4096 * w.ctx) ++ leBytes 4 w.value.toNat ++ leBytes 1 w.cond.code ++
    leBytes 1 (b2n w.claim + 2 * b2n w.sense + 4 * b2n w.lost) ++ leBytes 2 w.target.code ++ leBytes 4 w.number

/-- A record of a barrier. -/
def Barrier.dump (b : Barrier) (frozen : Bool) : List Byte :=
  leBytes 2 (b.vid + b2n b.launch * 4096 + b2n frozen * 8192 + b2n b.sent * 16384 + b2n b.sense * 32768) ++
    leBytes 2 b.root.toNat ++ leBytes 2 b.modN ++ leBytes 2 b.locN ++ leBytes 2 b.loc ++ leBytes 2 b.count ++ leBytes 4 b.episode.toNat

/-- SYNC_DUMP of a context; empty while SYNC_STATE is NONE (R407, R408). -/
def State.syncDump (s : State) (c : Nat) : List Byte :=
  let x := s.ctx c
  if x.sync = .none then []
  else
    let frozen := x.sync == .frozen
    let vids := (List.range 4096).filter (fun v => let e := s.domLe (Obj.loadedMap c) (4 * v) 4; bitOf e 31 && fld e 29 2 == 0)
    let phys := vids.map (fun v => 4096 * c + fld (s.domLe (Obj.loadedMap c) (4 * v) 4) 0 12)
    let counters := (vids.zip phys).map (fun p => s.dumpCounter c p.1 p.2)
    let on := s.sync.watches.filter (fun w => phys.any (fun n => w.on == .counter n))
    let watches := ((List.range 4096).flatMap (fun i => on.filter (fun w => w.on == .counter (4096 * c + i)))).map Watch.dump
    let base := s.obj (Obj.loadedBarrierBase c)
    let barriers := (List.range (s.obj (Obj.loadedBarrierCount c))).map (fun i => (s.barrier (base + i)).dump frozen)
    leBytes 1 1 ++ leBytes 1 (c + b2n frozen * 16 + x.lossReason * 32) ++ leBytes 2 counters.length ++ leBytes 2 watches.length ++
      leBytes 2 barriers.length ++ leBytes 8 (if frozen then x.freezeF.toNat else s.times.ftime.toNat) ++
      leBytes 6 (if frozen then x.freezeS.toNat else (s.stime48 c).toNat) ++ zeros 10 ++
      counters.flatten ++ watches.flatten ++ barriers.flatten

end Sys2Proof.Machine
end

