-- ==== Sys2Proof/Machine/Operands.lean ====
section
/-! DEFINITION. Operand forms of the vat instructions: the fields of every format (05 R166-R169; 06 R218, R230, R237, R242), the registers
(05 R171), decode checks, the predicate, the interlocks (R174, R205) and the retirement of an instruction with its loops (R186). -/
namespace Sys2Proof.Machine
open Sys2Proof

/-- Bits [55:0] of an instruction word; the opcode byte is the command's. -/
abbrev Word56 := BitVec 56

/-! ### Fields -/

/-- PN (R166). -/
def fPn (w : Word56) : Bool := bitOf w.toNat 55
/-- PSEL (R166). -/
def fPsel (w : Word56) : Nat := fld w.toNat 52 3
/-- DST of formats S, I and C (R168); VD of format V (R230). -/
def fDst (w : Word56) : Nat := fld w.toNat 47 5
/-- SA of formats S, I and C; VA of format V. -/
def fSa (w : Word56) : Nat := fld w.toNat 42 5
/-- SB of formats S, I and C; VB of format V. -/
def fSb (w : Word56) : Nat := fld w.toNat 37 5
/-- FN of formats S, I and C; VC of format V. -/
def fFn (w : Word56) : Nat := fld w.toNat 32 5
/-- IMM of formats S, I and C. -/
def fImm (w : Word56) : Nat := fld w.toNat 0 32
/-- TCLS of format M (R218). -/
def mTcls (w : Word56) : Nat := fld w.toNat 50 2
/-- POL of format M. -/
def mPol (w : Word56) : Bool := bitOf w.toNat 49
/-- HALF of format M. -/
def mHalf (w : Word56) : Bool := bitOf w.toNat 48
/-- WB of format M. -/
def mWb (w : Word56) : Nat := fld w.toNat 46 2
/-- TA of format M. -/
def mTa (w : Word56) : Nat := fld w.toNat 43 3
/-- TB of format M. -/
def mTb (w : Word56) : Nat := fld w.toNat 40 3
/-- SA of formats M, P and X: an A register in M, an S register in P and X. -/
def mSa (w : Word56) : Nat := fld w.toNat 35 5
/-- SB of formats M, P and X. -/
def mSb (w : Word56) : Nat := fld w.toNat 30 5
/-- SD of formats M, P and X; SR of format V. -/
def mSd (w : Word56) : Nat := fld w.toNat 25 5
/-- FA of format M. -/
def mFa (w : Word56) : Nat := fld w.toNat 21 4
/-- FB of format M. -/
def mFb (w : Word56) : Nat := fld w.toNat 17 4
/-- SPK of format M. -/
def mSpk (w : Word56) : Nat := fld w.toNat 15 2
/-- K of format M: 32 (KQ + 1). -/
def mK (w : Word56) : Nat := 32 * (fld w.toNat 12 3 + 1)
/-- IMM12 of format M. -/
def mImm (w : Word56) : Nat := fld w.toNat 0 12
/-- TY of format V (R230). -/
def vTy (w : Word56) : Nat := fld w.toNat 30 2
/-- AR of format V. -/
def vAr (w : Word56) : Nat := fld w.toNat 21 4
/-- FN of format V. -/
def vFn (w : Word56) : Nat := fld w.toNat 16 5
/-- IMM16 of format V. -/
def vImm (w : Word56) : Nat := fld w.toNat 0 16
/-- AD of formats P and X (R237, R242). -/
def pAd (w : Word56) : Nat := fld w.toNat 48 4
/-- AA of formats P and X. -/
def pAa (w : Word56) : Nat := fld w.toNat 44 4
/-- AB of formats P and X. -/
def pAb (w : Word56) : Nat := fld w.toNat 40 4
/-- FN of format P. -/
def pFn (w : Word56) : Nat := fld w.toNat 20 5
/-- IMM20 of formats P and X. -/
def pImm (w : Word56) : Nat := fld w.toNat 0 20
/-- POL of format X. -/
def xPol (w : Word56) : Bool := bitOf w.toNat 24
/-- Source space of format X. -/
def xSrc (w : Word56) : Nat := fld w.toNat 20 2
/-- Destination space of format X. -/
def xDst (w : Word56) : Nat := fld w.toNat 22 2

/-! ### Registers (R171) -/

/-- S register; S0 reads zero. -/
def VatState.s (x : VatState) (n : Nat) : W32 := if n = 0 then 0 else Tab.get (fun _ => 0) x.sreg n

/-- Writes an S register; a write to S0 is discarded. -/
def VatState.setS (x : VatState) (n : Nat) (v : W32) : VatState :=
  if n = 0 then x else { x with sreg := Tab.set (fun _ => 0) x.sreg n v }

/-- A register. -/
def VatState.a (x : VatState) (n : Nat) : W48 := Tab.get (fun _ => 0) x.areg n

/-- Writes an A register. -/
def VatState.setA (x : VatState) (n : Nat) (v : W48) : VatState := { x with areg := Tab.set (fun _ => 0) x.areg n v }

/-- P register; P0 reads one. -/
def VatState.p (x : VatState) (n : Nat) : Bool := if n = 0 then true else Tab.get (fun _ => false) x.preg n

/-- Writes a P register; a write to P0 is discarded. -/
def VatState.setP (x : VatState) (n : Nat) (v : Bool) : VatState :=
  if n = 0 then x else { x with preg := Tab.set (fun _ => false) x.preg n v }

/-- Lane of a V register. -/
def VatState.lane (x : VatState) (r i : Nat) : W32 := Tab.get (fun _ => 0) x.vreg (64 * r + i)

/-- Writes the lanes of a V register. -/
def VatState.setV (x : VatState) (r : Nat) (l : List W32) : VatState :=
  { x with vreg := Tab.write (fun _ => 0) x.vreg (64 * r) (l.take 64) }

/-- sext(x, 32) as a 48-bit value. -/
def sext48 (x : W32) : W48 := x.signExtend 48

/-- A[n] + sext(IMM, 32) modulo 2^48 (R181, R183, R184, R190). -/
def VatState.base (x : VatState) (n : Nat) (w : Word56) : W48 := x.a n + sext48 (BitVec.ofNat 32 (fImm w))

/-! ### Decode (R169) -/

/-- The reason of the first check that fails: reasons are tried in the order of R169's list (DESIGN CHOICE, log entry 13). -/
def illegal (l : List (Bool × Nat)) : Option Nat := (l.find? (fun e => e.1)).map (fun e => e.2)

/-- A part of the word that must be zero. -/
def unused (b : Nat) : Bool × Nat := (b != 0, 2)

/-- A register number of an A file. -/
def aReg (n : Nat) : Bool × Nat := (decide (16 ≤ n), 3)

/-- A register number of the P file. -/
def pReg (n : Nat) : Bool × Nat := (decide (8 ≤ n), 3)

/-- A field value that must be among the defined ones. -/
def undef (b : Bool) : Bool × Nat := (b, 6)

/-- The whole 64-bit instruction word. -/
def fullWord (op : Nat) (w : Word56) : Nat := op * 2 ^ 56 + w.toNat

/-- The record of ILLEGAL_INSTRUCTION at issue (R176). -/
def illegalInfo (v pc op : Nat) (w : Word56) (reason : Nat) : FaultInfo :=
  ⟨0x2003, srcVat v, pc, leBytes 8 (fullWord op w) ++ leBytes 1 reason, true⟩

/-- The record of SRAM_BOUNDS (R177, R211). -/
def boundsInfo (v pc addr size kind : Nat) (precise : Bool) : FaultInfo :=
  ⟨0x2004, srcVat v, pc, leBytes 6 addr ++ leBytes 1 size ++ leBytes 1 kind, precise⟩

/-! ### Issue (R170, R174, R175) -/

/-- The predicate of R170. -/
def VatState.pred (x : VatState) (w : Word56) : Bool := x.p (fPsel w) != fPn w

/-- Whether a vat can issue: it is running its program, no fault has stopped it and its island is not gated. -/
def VatState.canIssue (x : VatState) : Bool := x.run == .issuing && !x.stopped && !x.gated

/-- The end of the innermost body, after the instruction at its last address has retired (R186). -/
def loopEnd : List LoopFrame → W48 → List LoopFrame × W48
  | [], pc => ([], pc)
  | f :: t, pc =>
    if pc = f.last then
      if 1 < f.remaining.toNat then ({ f with remaining := f.remaining - 1, index := f.index + 1 } :: t, f.first)
      else match t with
        | [] => ([], pc + 8)
        | g :: u => if pc = g.last then loopEnd (g :: u) pc else (g :: u, pc + 8)
    else (f :: t, pc + 8)

/-- Retires an instruction that takes no branch: the next address, with the loops that end here (R186). -/
def VatState.retire (x : VatState) : VatState :=
  match loopEnd x.loops x.pc with
  | ([], p) => if x.loops.isEmpty then { x with pc := x.pc + 8 } else { x with loops := [], pc := p }
  | (l, p) => { x with loops := l, pc := p }

/-- Loops a taken branch keeps: every loop whose body does not hold the target is popped from the innermost out (R186). -/
def loopsAfterBranch (target : W48) : List LoopFrame → List LoopFrame
  | [] => []
  | f :: t => if f.first.toNat ≤ target.toNat ∧ target.toNat ≤ f.last.toNat then f :: t else loopsAfterBranch target t

/-- A taken branch. -/
def VatState.branch (x : VatState) (target : W48) : VatState := { x with pc := target, loops := loopsAfterBranch target x.loops }

/-- Records a precise fault of a sequencer instruction: it does not retire and the vat stops issuing (R175). -/
def State.vatFault (s : State) (v : Nat) (i : FaultInfo) : State :=
  let s := s.onVat v (fun x => { x with stopped := true })
  match s.vatCtx v with
  | some c => s.fault c i
  | none => s.moduleFault i

/-! ### Interlocks (R174, R205) -/

/-- The S register a queued engine instruction will write, if it writes one. -/
def QEntry.destS (q : QEntry) : Option Nat :=
  match q.eng with
  | .sparse => if q.op.op = 0xA0 ∨ q.op.op = 0xA1 ∨ q.op.op = 0xA5 then some (mSd q.op.w) else none
  | .transfer => if q.op.op = 0xC2 then some (mSd q.op.w) else none
  | .array => if q.op.op = 0x67 then some (mSd q.op.w) else none
  | .loader => none

/-- The S register a sync instruction will write. -/
def SyncReq.destS : SyncReq → Option Nat
  | .read _ d => some d
  | .watch _ _ _ _ d => some d
  | _ => .none

/-- The S register a fault echo owes. -/
def FaultEcho.destS : FaultEcho → Option Nat
  | .read d => some d
  | .watch d => some d
  | _ => .none

/-- Whether an S register waits for its producer. -/
def VatState.pendS (x : VatState) (n : Nat) : Bool :=
  n != 0 && (x.queue.any (fun q => !q.begun && q.destS == some n) || x.syncq.any (fun e => e.req.destS == some n) ||
    x.results.any (fun r => r.d == n) || x.echoes.any (fun e => e.destS == some n))

/-- Whether an A register waits for its producer. -/
def VatState.pendA (x : VatState) (n : Nat) : Bool := x.stimes.any (fun e => e.1 == n)

/-- Whether a V register waits for a WTOV. -/
def VatState.pendV (x : VatState) (n : Nat) : Bool :=
  x.queue.any (fun q => !q.begun && q.eng == .array && q.op.op == 0x66 && mSd q.op.w == n)

/-- The registers an instruction reads or writes. -/
structure Uses where
  s : List Nat
  a : List Nat
  v : List Nat
  deriving DecidableEq, Repr

/-- Whether every register an instruction uses is at hand. -/
def VatState.free (x : VatState) (u : Uses) : Bool :=
  u.s.all (fun n => !x.pendS n) && u.a.all (fun n => !x.pendA n) && u.v.all (fun n => !x.pendV n)

/-- Issue of one instruction. A vat that cannot issue keeps its state. A fetch beyond vat SRAM faults (R180); the decode checks come before
the predicate (R169); a false predicate retires without effect (R170); an instruction that must wait has no effect yet (R174; DEDUCED, log entry 68; DEDUCED, log entry 111). -/
def issue (s : State) (v op : Nat) (w : Word56) (check : Option Nat) (uses : Uses) (eff : State → State) : State :=
  let x := s.vat v
  if !x.canIssue then s
  else if vatSize ≤ x.pc.toNat then s.vatFault v (boundsInfo v x.pc.toNat x.pc.toNat 8 3 true)
  else match check with
    | some r => s.vatFault v (illegalInfo v x.pc.toNat op w r)
    | none => if !x.pred w then s.setVat v x.retire else if !x.free uses then s else eff s

/-- Issue of an instruction that only changes its vat's registers, and retires. -/
def issueRegs (s : State) (v op : Nat) (w : Word56) (check : Option Nat) (uses : Uses) (f : VatState → VatState) : State :=
  issue s v op w check uses (fun s => s.setVat v (f (s.vat v)).retire)

end Sys2Proof.Machine
end

