-- ==== Sys2Proof/Machine/Descriptor.lean ====
section
/-! DEFINITION. What the engines share: execution faults (06 R206, R210-R212), a vat's own SRAM, tensor descriptors and their storage
(06 R213-R217). -/
namespace Sys2Proof.Machine
open Sys2Proof

/-! ### Faults of an engine -/

/-- Code and detail of a fault an engine finds when it executes (R206). -/
structure EngFault where
  code   : Nat
  detail : List Byte
  deriving DecidableEq, Repr

/-- DESCRIPTOR_INVALID (R212). -/
def descFault (addr struct reason index : Nat) (found : List Byte) : EngFault :=
  ⟨0x2005, leBytes 6 addr ++ leBytes 1 struct ++ leBytes 1 reason ++ leBytes 4 index ++ padTo 8 found⟩

/-- The record of an engine's check: precise at issue, not precise at execution (R206). -/
def EngFault.info (f : EngFault) (v pc : Nat) (precise : Bool) : FaultInfo := ⟨f.code, srcVat v, pc, f.detail, precise⟩

/-- SRAM_BOUNDS of an engine (R211). -/
def boundsFault (addr size kind : Nat) : EngFault := ⟨0x2004, leBytes 6 addr ++ leBytes 1 size ++ leBytes 1 kind⟩

/-- A region that runs beyond vat SRAM (R211): its first address beyond, and an access of 64 bytes (DESIGN CHOICE, log entry 15). -/
def beyond (addr : Nat) : EngFault := boundsFault (max addr vatSize) 64 0x80

/-- WACC_OVERFLOW and PACK_LOSS (03 R133). -/
def windowFault (code kind bank index : Nat) (w : Nat) (mid : List Byte) (value : Nat) : EngFault :=
  ⟨code, leBytes 1 kind ++ leBytes 1 bank ++ leBytes 2 index ++ leBytes 2 w ++ padTo 2 mid ++ leBytes 16 value⟩

/-! ### Own SRAM -/

/-- Bytes of a vat's own SRAM. -/
def State.own (s : State) (v a n : Nat) : List Byte := s.sramRead (vatBase v + a) n

/-- Writes bytes of a vat's own SRAM. -/
def State.setOwn (s : State) (v a : Nat) (b : List Byte) : State := s.sramWrite (vatBase v + a) b

/-- A region: address and length. -/
abbrev Region := Nat × Nat

/-- Whether two regions meet in a 64-byte granule (R207). -/
def Region.meets (a b : Region) : Bool :=
  decide (0 < a.2) && decide (0 < b.2) && decide (a.1 / 64 ≤ (b.1 + b.2 - 1) / 64) && decide (b.1 / 64 ≤ (a.1 + a.2 - 1) / 64)

/-- Whether any regions of two lists meet. -/
def meetAny (a b : List Region) : Bool := a.any (fun x => b.any (fun y => Region.meets x y))

/-! ### Tensor descriptors -/

/-- A tensor descriptor (R213). -/
structure Desc where
  addr    : Nat
  fmt     : Nat
  spk     : Nat
  dim0    : Nat
  dim1    : Nat
  base    : Nat
  stride1 : Nat
  sbase   : Nat
  sstride : Nat
  mbase   : Nat
  mstride : Nat
  raw     : List Byte
  deriving DecidableEq, Repr

/-- Reads the 64 bytes of a descriptor. -/
def State.readDesc (s : State) (v addr : Nat) : Desc :=
  let r := s.own v addr 64
  ⟨addr, leAt r 7 1, leAt r 8 1, leAt r 12 4, leAt r 16 4, leAt r 0 6, leAt r 20 4, leAt r 24 6, leAt r 32 4, leAt r 36 6,
   leAt r 44 4, r⟩

/-- The ternary weight format. -/
def ternary : Nat := 0xB

/-- 1 / kappa of a structured kind (R215). -/
def spkDen (spk : Nat) : Nat := 2 ^ (spk % 3)

/-- 32-position blocks in a row. -/
def Desc.blocks (d : Desc) : Nat := ceilDiv d.dim0 32

/-- Metadata bytes for 32 dense positions (R135). -/
def metaBytes (spk : Nat) : Nat := if spk % 3 = 0 then 0 else 8 / spkDen spk

/-- Bytes of the kept elements of 32 dense positions. -/
def blockBytes (fmt spk : Nat) : Nat := 4 * fmtWidth fmt / spkDen spk

/-- Bytes of one row of elements for kinds 0-2: a structured row is stored to whole blocks, by zero groups (R103, R104, R137, R216). -/
def Desc.rowBytes (d : Desc) : Nat :=
  if d.fmt = ternary then 16 * ceilDiv d.dim0 64
  else if d.spk = 0 then ceilDiv (d.dim0 * fmtWidth d.fmt) 8
  else d.blocks * blockBytes d.fmt d.spk

/-- Size of a stored tile (R216). -/
def Desc.tileSize (d : Desc) : Nat := 32 * blockBytes d.fmt d.spk + 32 * metaBytes d.spk

/-- Number of 32-row tile rows. -/
def Desc.tileRows (d : Desc) : Nat := ceilDiv d.dim1 32

/-- Bytes of the tile bitmap, padded to a multiple of 8 (R139). -/
def Desc.bitmapBytes (d : Desc) : Nat := 8 * ceilDiv (d.tileRows * d.blocks) 64

/-- Bit t of a bitmap in vat SRAM. -/
def State.tileBit (s : State) (v : Nat) (d : Desc) (t : Nat) : Bool := bitOf (leNat (s.own v (d.mbase + t / 8) 1)) (t % 8)

/-- Number of set bits below t. -/
def State.tilesBelow (s : State) (v : Nat) (d : Desc) (t : Nat) : Nat :=
  let m := leNat (s.own v d.mbase (ceilDiv t 8))
  popCount t m

/-- Whether any byte of a list is not zero. -/
def anySet (l : List Byte) : Bool := l.any (fun b => b != 0)

/-- The first failing check of R217, in its order; then the regions of R216. A row start is that of a row of the operand, R216's first column, not of
its metadata (DEDUCED, log entry 73). `refuses` gives the place and the length of
the bytes an instruction does not accept. -/
def State.checkDesc (s : State) (v : Nat) (d : Desc) (refuses : Desc → Option (Nat × Nat)) : Option EngFault :=
  let r := d.raw
  let bad := fun (reason lo n : Nat) => some (descFault d.addr 1 reason 0 (slice r lo n))
  let reserved := [(6, 1), (9, 3), (30, 2), (42, 2), (48, 8), (56, 8)]
  match reserved.find? (fun p => anySet (slice r p.1 p.2)) with
  | some p => bad 1 p.1 p.2
  | none =>
    if 0xB < d.fmt then bad 2 7 1
    else if 5 < d.spk then bad 2 8 1
    else if d.dim0 = 0 then bad 2 12 4
    else if d.dim1 = 0 then bad 2 16 4
    else if (blockScaled d.fmt ∧ d.dim0 % 32 ≠ 0) ∨ (d.fmt = ternary ∧ d.dim0 % 64 ≠ 0) then bad 2 12 4
    else if d.spk ≤ 2 ∧ (d.stride1 % 8 ≠ 0 ∨ d.stride1 < d.rowBytes) then bad 2 20 4
    else if 3 ≤ d.spk ∧ (d.stride1 ≠ 0 ∨ d.mstride ≠ 0) then (if d.stride1 ≠ 0 then bad 2 20 4 else bad 2 44 4)
    else if (d.fmt = 7 ∨ d.fmt = 9 ∨ d.fmt = 0xA ∨ d.fmt = ternary) ∧ (d.sbase ≠ 0 ∨ d.sstride ≠ 0) then
      (if d.sbase ≠ 0 then bad 6 24 6 else bad 6 32 4)
    else if d.fmt = ternary ∧ d.spk ≠ 0 then bad 6 7 2
    else match refuses d with
    | some p => bad 7 p.1 p.2
    | none =>
      if d.base % 8 ≠ 0 then some (boundsFault d.base 64 0x82)
      else if d.mbase % 8 ≠ 0 then some (boundsFault d.mbase 64 0x82)
      else
        let scaleEnd := if blockScaled d.fmt then d.sbase + (d.dim1 - 1) * d.sstride + d.blocks else 0
        if d.spk ≤ 2 then
          let dataEnd := d.base + (d.dim1 - 1) * d.stride1 + d.rowBytes
          let metaEnd := if d.spk = 0 then 0 else d.mbase + (d.dim1 - 1) * d.mstride + d.blocks * metaBytes d.spk
          if vatSize < dataEnd then some (beyond d.base)
          else if vatSize < scaleEnd then some (beyond d.sbase)
          else if vatSize < metaEnd then some (beyond d.mbase)
          else none
        else if vatSize < d.mbase + d.bitmapBytes then some (beyond d.mbase)
        else
          let tiles := d.tileRows * d.blocks
          let map := leNat (s.own v d.mbase d.bitmapBytes)
          if map / 2 ^ tiles ≠ 0 then
            let t := ((List.range (8 * d.bitmapBytes)).find? (fun i => decide (tiles ≤ i) && bitOf map i)).getD tiles
            some (descFault d.mbase 4 1 t (slice (s.own v d.mbase d.bitmapBytes) (t / 8) 8))
          else if vatSize < d.base + popCount tiles map * d.tileSize then some (beyond d.base)
          else if vatSize < scaleEnd then some (beyond d.sbase)
          else none

end Sys2Proof.Machine
end

