-- ==== Sys2Proof/Machine/Matrix.lean ====
section
/-! DEFINITION. The tile loader and the matrix engine: what TLD, MMA, WCLR, WPADD, WPACK, WCVT, WTOV and WSTAT do when they begin
(06 R219-R229; 03 R104-R118, R124-R127, R133; 04 R134-R140, R145). Each answers the state and the fault the engine found. -/
namespace Sys2Proof.Machine
open Sys2Proof

/-! ### Tile loads (R221) -/

/-- Data, metadata and scale bytes of one block in a tile buffer. -/
structure TileBlock where
  data  : List Byte
  meta_ : List Byte
  scale : List Byte
  deriving DecidableEq, Repr

/-- A block with zero elements, metadata 0,1 or 0 and scale 127. -/
def zeroBlock (d : Desc) : TileBlock :=
  ⟨zeros (blockBytes d.fmt d.spk), List.replicate (metaBytes d.spk) (if spkDen d.spk = 2 then 0x44 else 0), [127]⟩

/-- Address of the elements, address of the metadata and, for a fault, the metadata structure and the first group's index in it. -/
def State.blockAt (s : State) (v : Nat) (d : Desc) (r b : Nat) : Nat × Nat × Nat × Nat :=
  if d.spk ≤ 2 then
    (d.base + r * d.stride1 + b * blockBytes d.fmt d.spk, d.mbase + r * d.mstride + b * metaBytes d.spk, d.mbase + r * d.mstride, 8 * b)
  else
    let tile := d.base + s.tilesBelow v d (r / 32 * d.blocks + b) * d.tileSize
    let m := tile + 32 * blockBytes d.fmt d.spk + r % 32 * metaBytes d.spk
    (tile + r % 32 * blockBytes d.fmt d.spk, m, m, 0)

/-- The first group of 2:4 metadata whose indices do not ascend (R136). -/
def badGroup (m : List Byte) : Option Nat :=
  (List.range (2 * m.length)).find? (fun g => let x := fld (leAt m (g / 2) 1) (4 * (g % 2)) 4; decide (x / 4 ≤ x % 4))

/-- Block b of row r, validated; the elements past the end of a dense row are zero. The fault of bad 2:4 metadata names the start of the metadata
row, or of the tile's, and the group within it (R136, R212; DEDUCED, log entry 73). -/
def State.loadBlock (s : State) (v : Nat) (d : Desc) (r b : Nat) : Except EngFault TileBlock :=
  let (a, m, mrow, g0) := s.blockAt v d r b
  let size := blockBytes d.fmt d.spk
  let n := if d.spk = 0 then min size (d.rowBytes - b * size) else size
  if vatSize < a + n then .error (beyond a)
  else
    let md := s.own v m (metaBytes d.spk)
    let scale := if blockScaled d.fmt then s.own v (d.sbase + r * d.sstride + b) 1 else [127]
    match (if spkDen d.spk = 2 then badGroup md else none) with
    | some g => .error (descFault mrow 3 4 (g0 + g) (slice md (g / 2) 1))
    | none => .ok ⟨padTo size (s.own v a n), md, scale⟩

/-- The reason and position of the first bad byte of a ternary group (R105). -/
def badTernary (g : List Byte) : Option (Nat × Nat) :=
  ((List.range 14).find? (fun i =>
    let b := leAt g i 1
    if i < 12 then decide (242 < b) else if i = 12 then decide (b < 81) || decide (161 < b) else b != 0)).map
    (fun i => (if i = 13 then 1 else 2, i))

/-- A ternary group of a row, validated; outside the tensor, zero weights. -/
def State.loadGroup (s : State) (v : Nat) (d : Desc) (r g : Nat) : Except EngFault (List Byte) :=
  if r < d.dim1 ∧ 64 * g < d.dim0 then
    let a := d.base + r * d.stride1 + 16 * g
    let b := s.own v a 16
    match badTernary b with
    | some (reason, i) => .error (descFault a 2 reason g (leBytes 1 i ++ slice b i 1))
    | none => .ok b
  else .ok (List.replicate 13 121 ++ [0, 127, 0])

/-- Whether a block of the tensor is present (R139, R221). -/
def State.blockPresent (s : State) (v : Nat) (d : Desc) (r0 p : Nat) : Bool :=
  if d.spk ≤ 2 then true
  else decide (r0 < d.dim1) && decide (p < d.dim0) && s.tileBit v d (r0 / 32 * d.blocks + p / 32)

/-- Row i of a tile: data, metadata and scales. -/
def State.tileRow (s : State) (v : Nat) (d : Desc) (r k0 k : Nat) (present : List Bool) : Except EngFault TileBlock := do
  if d.fmt = ternary then
    let gs ← (List.range (ceilDiv k 64)).mapM (fun g => s.loadGroup v d r (k0 / 64 + g))
    return ⟨gs.flatten, [], List.replicate (k / 32) 127⟩
  let bs ← (List.range (k / 32)).mapM (fun c =>
    let p := k0 + 32 * c
    if r < d.dim1 ∧ p < d.dim0 ∧ present.getD c false then s.loadBlock v d r (p / 32) else .ok (zeroBlock d))
  return ⟨(bs.map TileBlock.data).flatten, (bs.map TileBlock.meta_).flatten, (bs.map TileBlock.scale).flatten⟩

/-- Writes rows of bytes at a fixed pitch, in ascending order, into a buffer of n bytes. -/
def layRows (n pitch : Nat) (rows : List (List Byte)) : List Byte :=
  ((rows.zip (List.range rows.length)).foldl (fun buf p => overlay buf (pitch * p.2) p.1) (zeros n))

/-- TLD (R221). -/
def runTld (s : State) (v : Nat) (o : EngineOp) : State × Option EngFault :=
  let d := s.readDesc v o.a0.toNat
  match s.checkDesc v d (fun d => if 8 ≤ d.fmt ∧ d.fmt ≤ 0xA then some (7, 1) else none) with
  | some f => (s, some f)
  | none =>
    let k := mK o.w
    let r0 := 32 * (o.s0.toNat % 65536)
    let k0 := k * (o.s0.toNat / 65536)
    let present := (List.range (k / 32)).map (fun c => s.blockPresent v d r0 (k0 + 32 * c))
    match (List.range 32).mapM (fun i => s.tileRow v d (r0 + i) k0 k present) with
    | .error f => (s, some f)
    | .ok rows =>
      let t := mTa o.w
      let data := layRows 4096 128 (rows.map TileBlock.data)
      let side := layRows 256 (k / 32) (rows.map TileBlock.scale) ++
        layRows 1024 (k / spkDen d.spk / 4) (rows.map TileBlock.meta_)
      let mask := (present.zip (List.range 8)).foldl (fun m p => m + b2n p.1 * 2 ^ p.2) 0
      (s.onVat v (fun x => { x with
        tiles := Tab.write (fun _ => 0) x.tiles (4096 * t) data,
        sides := Tab.write (fun _ => 0) x.sides (1280 * t) side,
        tags := Tab.set (fun _ => ⟨0, 0, 0, 0⟩) x.tags t ⟨d.fmt, k, d.spk % 3, BitVec.ofNat 8 mask⟩ }), none)

/-! ### Banks (R109) -/

/-- A bank's status. -/
def VatState.bank (x : VatState) (b : Nat) : BankStat := Tab.get (fun _ => ⟨0, false, false, 0⟩) x.banks b

/-- Replaces a bank's status. -/
def VatState.setBank (x : VatState) (b : Nat) (y : BankStat) : VatState :=
  { x with banks := Tab.set (fun _ => ⟨0, false, false, 0⟩) x.banks b y }

/-- The 1,024 elements of a bank. -/
def VatState.accs (x : VatState) (b : Nat) : List (BitVec 144) := Tab.read (fun _ => 0) x.acc (1024 * b) 1024

/-- Writes elements of a bank from element 0. -/
def VatState.setAccs (x : VatState) (b : Nat) (l : List (BitVec 144)) : VatState :=
  { x with acc := Tab.write (fun _ => 0) x.acc (1024 * b) l }

/-- W of a bank as a two-byte field. -/
def BankStat.w16 (b : BankStat) : Nat := wrap 16 b.w.toInt

/-- Counts saturated products or check points in a bank and its context (R111, R112, R251). -/
def State.countSat (s : State) (v bank n : Nat) : State :=
  if n = 0 then s
  else
    let s := s.onVat v (fun x => x.setBank bank { x.bank bank with ovf := true, sat := true })
    match s.vatCtx v with
    | some c => s.bump64 (Obj.waccSaturated c) n
    | none => s

/-- WCLR (R110, R224). -/
def runWclr (s : State) (v : Nat) (o : EngineOp) : State × Option EngFault :=
  let b := mWb o.w
  (s.onVat v (fun x => (x.setAccs b (List.replicate 1024 0)).setBank b ⟨BitVec.ofNat 10 (mImm o.w), false, false, 0⟩), none)

/-! ### MMA (R223) -/

/-- An operand element: its contraction position, its code, its value with scale, none where it is not finite. -/
structure OpElem where
  k    : Nat
  code : Nat
  val  : Option Dyad
  deriving DecidableEq, Repr

/-- The kept elements of one row of a tile, in present blocks. Of a scale and an element that are both not finite, the scale's code is the one
reported (R108, R133; DESIGN CHOICE, log entry 16). -/
def VatState.opRow (x : VatState) (t fmt k spk row : Nat) : List OpElem :=
  let tag := Tab.get (fun _ => ⟨0, 0, 0, 0⟩) x.tags t
  let num := leNat (Tab.read (fun _ => 0) x.tiles (4096 * t + 128 * row) 128)
  let side := fun (i : Nat) => leNat [Tab.get (fun _ => 0) x.sides (1280 * t + i)]
  let all :=
    if fmt = ternary then
      (List.range k).map (fun p =>
        let g := num / 2 ^ (128 * (p / 64))
        let sc := fld g 112 16
        let tr := trit (fld g (8 * (p % 64 / 5)) 8) (p % 64 % 5)
        match elemVal bf16 sc with
        | some d => (⟨p, sc, some (Dyad.mul ⟨tr, 0⟩ d)⟩ : OpElem)
        | none => ⟨p, sc, none⟩)
    else
      let den := spkDen spk
      let width := fmtWidth fmt
      (List.range (k / den)).map (fun p =>
        let idx := if den = 1 then p
          else if den = 2 then 4 * (p / 2) + fld (side (256 + row * (k / den / 4) + p / 4)) (2 * (p % 4)) 2
          else 4 * p + fld (side (256 + row * (k / den / 4) + p / 4)) (2 * (p % 4)) 2
        let code := fld num (p * width) width
        let sc := side (row * (k / 32) + idx / 32)
        let f := (fmtOf fmt).getD fp32
        if blockScaled fmt then
          match scaleVal sc, elemVal f code with
          | none, _ => ⟨idx, sc, none⟩
          | some _, none => ⟨idx, code, none⟩
          | some y, some e => ⟨idx, code, some (Dyad.mul e y)⟩
        else ⟨idx, code, elemVal f code⟩)
  all.filter (fun e => bitOf tag.present.toNat (e.k / 32))

/-- What adding one element's products gives: the element, products that lost bits, and the products out of range. -/
structure SumRes where
  acc  : Int
  lost : Nat
  outs : List Int
  deriving DecidableEq, Repr

/-- The products of one bank element (R111), saturated; those out of range are kept for the record. -/
def sumProducts (a : Array (Option Dyad)) (b : List OpElem) (w : Int) (acc : Int) : SumRes :=
  b.foldl (fun r e =>
    match e.val, (a.getD e.k none) with
    | some y, some z =>
      if y.m = 0 ∨ z.m = 0 then r
      else
        let (q, lost) := truncWindow (Dyad.mul z y) w
        let (q2, sat) := saturate q
        ⟨r.acc + q2, r.lost + b2n lost, if sat then q :: r.outs else r.outs⟩
    | _, _ => r) ⟨acc, 0, []⟩

/-- n free elements. -/
def State.freeAccs : Nat → State → List (BitVec 144) × State
  | 0, s => ([], s)
  | n + 1, s =>
    let (b, s) := s.takeFree 144
    let (t, s) := State.freeAccs n s
    (b :: t, s)

/-- Zero blocks of the A operand: 32 elements of one row whose values are all zero (04 R145). -/
def zeroBlocks (rows : List (List OpElem)) (k : Nat) : Nat :=
  (rows.map (fun r => ((List.range (k / 32)).filter (fun c =>
    r.all (fun e => e.k / 32 != c || (match e.val with | some y => y.m == 0 | none => false)))).length)).sum

/-- MMA (R223). Under FAULT which products were added is not defined: the elements it writes are free, and so is the inexact count; and the order
of products being open (R223), so is which product out of range the first PE cycle to detect any holds, and its element is the one named (R114).
Of several operands not finite the lowest bank element they reach is named, and A before B (R108, R133; DESIGN CHOICE, log entry 16). -/
def runMma (s : State) (v : Nat) (o : EngineOp) : State × Option EngFault :=
  let x := s.vat v
  let (ta, tb, fa, fb, spk, k, wb) := (mTa o.w, mTb o.w, mFa o.w, mFb o.w, mSpk o.w, mK o.w, mWb o.w)
  let tag := fun t => Tab.get (fun _ => (⟨0, 0, 0, 0⟩ : TileTag)) x.tags t
  let okTag := fun (t f sp : Nat) => (tag t).fmt == f && (tag t).k == k && (tag t).spk == sp
  let bank := x.bank wb
  if !okTag ta fa 0 then (s, some (descFault 0 9 7 ta []))
  else if !okTag tb fb spk then (s, some (descFault 0 9 7 tb []))
  else
    let cols := if mHalf o.w then 16 else 32
    let ra := (List.range 32).map (fun i => x.opRow ta fa k 0 i)
    let rb := (List.range cols).map (fun j => x.opRow tb fb k spk j)
    let badA := (ra.zip (List.range 32)).findSome? (fun p => (p.1.find? (fun e => e.val.isNone)).map (fun e => (32 * p.2, 0, fa, e.code)))
    let badB := (rb.zip (List.range cols)).findSome? (fun p => (p.1.find? (fun e => e.val.isNone)).map (fun e => (p.2, 1, fb, e.code)))
    let bad := match badA, badB with
      | some a, some b => if a.1 ≤ b.1 then some a else some b
      | some a, none => some a
      | none, b => b
    match bad with
    | some (i, side, fmt, code) =>
      (s.onVat v (fun x => x.setBank wb { bank with ovf := true }),
        some (windowFault 0x2001 4 wb i bank.w16 (leBytes 1 side ++ leBytes 1 fmt) code))
    | none =>
      let s := if s.obj Obj.zeroSkip = 1 then s.bump64 Obj.skippedBlocks (zeroBlocks ra k) else s
      let old := x.accs wb
      let arrs := ra.map (fun r => (r.foldl (fun (a : Array (Option Dyad)) e => a.setIfInBounds e.k e.val) (Array.replicate k none)))
      let sums := ((arrs.zip (List.range 32)).map (fun p =>
        (List.range 32).map (fun j =>
          let acc := (old.getD (32 * p.2 + j) 0).toInt
          if j < cols then sumProducts p.1 (rb.getD j []) bank.w.toInt acc else ⟨acc, 0, []⟩))).flatten
      match (if mPol o.w then [] else (sums.zip (List.range 1024)).flatMap (fun p => p.1.outs.map (fun q => (q, p.2)))) with
      | o1 :: os =>
        let (q, i) := (o1 :: os).getD (Config.freeChoice s.fresh % (os.length + 1)) o1
        let s : State := { s with fresh := s.fresh + 1 }
        let (fr, s) := State.freeAccs 1024 s
        let (inx, s) := s.takeFree 32
        let new := ((List.range 1024).map (fun e => if e % 32 < cols then fr.getD e 0 else old.getD e 0))
        (s.onVat v (fun x => (x.setAccs wb new).setBank wb { bank with ovf := true, inexact := inx }),
          some (windowFault 0x2001 1 wb i bank.w16 [] (wrap 128 q)))
      | [] =>
        let lost := (sums.map SumRes.lost).sum
        let inexact := BitVec.ofNat 32 (min (bank.inexact.toNat + lost) (2 ^ 32 - 1))
        let s := s.onVat v (fun x => (x.setAccs wb (sums.map (fun r => BitVec.ofInt 144 r.acc))).setBank wb { bank with inexact := inexact })
        (s.countSat v wb (sums.map (fun r => r.outs.length)).sum, none)

/-! ### Partials (R116-R118, R225, R226) -/

/-- Offset of an element's partial (R225). -/
def partialOff (e : Nat) (compact unit : Bool) : Nat :=
  let sz := if compact then 8 else 16
  let per := if compact then 30 else 15
  if unit then 256 * (e / per) + sz * (e % per) else sz * e

/-- Bytes of the partial region. -/
def partialSize (compact unit : Bool) : Nat := if unit then 256 * (if compact then 35 else 69) else if compact then 8192 else 16384

/-- WPADD (R118, R225). -/
def runWpadd (s : State) (v : Nat) (o : EngineOp) : State × Option EngFault :=
  let compact := bitOf (mImm o.w) 0
  let unit := bitOf (mImm o.w) 1
  let sz := if compact then 8 else 16
  let raw := (s.own v o.a0.toNat (partialSize compact unit)).toArray
  let part := fun (e : Nat) => sgn (8 * sz) (leNat ((List.range sz).map (fun i => raw.getD (partialOff e compact unit + i) 0)))
  let b := mWb o.w
  (s.onVat v (fun x => x.setAccs b (((x.accs b).zip (List.range 1024)).map (fun p => p.1 + BitVec.ofInt 144 (part p.2)))), none)

/-- Whether a value fits its kind of partial (R116). -/
def packs (compact : Bool) (v : Int) : Bool :=
  if compact then decide (-(2 ^ 63) ≤ v) && decide (v < 2 ^ 63) else decide (-windowMax ≤ v) && decide (v ≤ windowMax)

/-- WPACK (R117, R226). -/
def runWpack (s : State) (v : Nat) (o : EngineOp) : State × Option EngFault :=
  let compact := bitOf (mImm o.w) 0
  let unit := bitOf (mImm o.w) 1
  let sz := if compact then 8 else 16
  let b := mWb o.w
  let x := s.vat v
  let vals := (x.accs b).map BitVec.toInt
  match (vals.zip (List.range 1024)).find? (fun p => !packs compact p.1) with
  | some (y, i) => (s, some (windowFault 0x2006 (if compact then 2 else 1) b i (x.bank b).w16 [] (wrap 128 y)))
  | none =>
    let per := if compact then 30 else 15
    let enc := vals.map (fun y => leBytes sz (wrap (8 * sz) y))
    let bytes := if unit then
        ((List.range (if compact then 35 else 69)).map (fun n => padTo 256 ((enc.drop (per * n)).take per).flatten)).flatten
      else enc.flatten
    (s.setOwn v o.a0.toNat bytes, none)

/-! ### Conversions (R112, R124-R127, R227, R228) -/

/-- Checks elements under a policy: the saturated values and how many were, or the first that fails under FAULT. -/
def checkAll (sat : Bool) (l : List (Nat × Int)) : Except (Nat × Int) (List Int × Nat) :=
  match (if sat then none else l.find? (fun p => (saturate p.2).2)) with
  | some p => .error p
  | none => .ok (l.map (fun p => (saturate p.2).1), (l.filter (fun p => (saturate p.2).2)).length)

/-- Element codes packed from the least significant bit (R103). -/
def packCodes (width : Nat) (codes : List Nat) : List Byte :=
  let n := codes.foldr (fun c acc => c + acc * 2 ^ width) 0
  leBytes (ceilDiv (codes.length * width) 8) n

/-- A failed check: OVF is set and the element named. -/
def checkFault (s : State) (v bank : Nat) (p : Nat × Int) : State × Option EngFault :=
  let b := (s.vat v).bank bank
  (s.onVat v (fun x => x.setBank bank { b with ovf := true }), some (windowFault 0x2001 2 bank p.1 b.w16 [] (wrap 128 p.2)))

/-- What WCVT refuses of a descriptor: the place and length of its bytes (R212, R227). -/
def wcvtRefuses (d : Desc) : Option (Nat × Nat) :=
  if d.fmt = 8 ∨ d.fmt = ternary then some (7, 1)
  else if d.spk ≠ 0 then some (8, 1)
  else if 32 < d.dim0 ∨ (blockScaled d.fmt ∧ d.dim0 ≠ 32) then some (12, 4)
  else if 32 < d.dim1 then some (16, 4)
  else none

/-- WCVT (R227). -/
def runWcvt (s : State) (v : Nat) (o : EngineOp) : State × Option EngFault :=
  let d := s.readDesc v o.a0.toNat
  match s.checkDesc v d wcvtRefuses with
  | some f => (s, some f)
  | none =>
    let x := s.vat v
    let b := mWb o.w
    let bank := x.bank b
    let accs := (x.accs b).toArray
    let elems := ((List.range d.dim1).map (fun i => (List.range d.dim0).map (fun j => (32 * i + j, (accs.getD (32 * i + j) 0).toInt)))).flatten
    match checkAll (mPol o.w) elems with
    | .error p => checkFault s v b p
    | .ok (vals, sats) =>
      let s := s.countSat v b sats
      let arr := vals.toArray
      let seed := match s.vatCtx v with
        | some c => BitVec.ofNat 64 (s.obj (Obj.jobSeed c))
        | none => 0
      let f := (fmtOf d.fmt).getD fp32
      let mode := fun (i j : Nat) =>
        if bitOf (mImm o.w) 0 then
          Mode.sr ((rng32 seed o.step o.s2 (o.s0 + BitVec.ofNat 32 i * o.s1 + BitVec.ofNat 32 j)).toNat / 256)
        else Mode.rne
      let s := (List.range d.dim1).foldl (fun s i =>
        let xs := (List.range d.dim0).map (fun j => (⟨arr.getD (d.dim0 * i + j) 0, bank.w.toInt⟩ : Dyad))
        let row := d.base + i * d.stride1
        if blockScaled d.fmt then
          let sc := blockScale d.fmt xs
          let codes := (xs.zip (List.range d.dim0)).map (fun p => convert f (mode i p.2) true ⟨p.1.m, p.1.e + 127 - sc⟩)
          (s.setOwn v row (packCodes f.width codes)).setOwn v (d.sbase + i * d.sstride) [BitVec.ofNat 8 sc]
        else
          let codes := (xs.zip (List.range d.dim0)).map (fun p => convert f (mode i p.2) (bitOf (mImm o.w) 1) p.1)
          s.setOwn v row (packCodes f.width codes)) s
      (s, none)

/-- WTOV (R228). -/
def runWtov (s : State) (v : Nat) (o : EngineOp) : State × Option EngFault :=
  let x := s.vat v
  let b := mWb o.w
  let bank := x.bank b
  let q := mImm o.w % 16
  let elems := ((x.accs b).zip (List.range 1024)).filterMap (fun p => if p.2 / 64 = q then some (p.2, p.1.toInt) else none)
  match checkAll (mPol o.w) elems with
  | .error p => checkFault s v b p
  | .ok (vals, sats) =>
    let f := if bitOf (mImm o.w) 4 then (fmtOf 0xA).getD fp32 else fp32
    let lanes := vals.map (fun y => BitVec.ofNat 32 (convert f .rne (bitOf (mImm o.w) 5) ⟨y, bank.w.toInt⟩))
    ((s.countSat v b sats).onVat v (fun x => x.setV (mSd o.w) lanes), none)

/-- The status word of a bank, as WSTAT reads it. The debug dump that R115 also names has no object and no layout in the spec, and the model none
(DESIGN CHOICE, log entry 127). -/
def BankStat.word (b : BankStat) : Nat := b.inexact.toNat * 2 ^ 32 + b2n b.ovf * 2 ^ 31 + b2n b.sat * 2 ^ 30 + b.w.toNat

/-- WSTAT (R229). -/
def runWstat (s : State) (v : Nat) (o : EngineOp) : State × Option EngFault :=
  (s.onVat v (fun x => x.setS (mSd o.w) (BitVec.ofNat 32 ((x.bank (mWb o.w)).word / (if bitOf (mImm o.w) 0 then 2 ^ 32 else 1)))), none)

end Sys2Proof.Machine
end

