-- ==== Sys2Proof/Machine/Sparse.lean ====
section
/-! DEFINITION. The sparse engine: what SPCMP, SPEXP, SPGATH, SPSCAT, TOPK and DISP do when they begin (06 R237-R241; 04 R146, R155-R164).
Each answers the state and the fault the engine found. -/
namespace Sys2Proof.Machine
open Sys2Proof

/-! ### Compressed activation vectors (04 R146) -/

/-- Bytes of the bitmap of G granules. -/
def actBitmap (g : Nat) : Nat := 8 * ceilDiv g 64

/-- SPCMP (R238); its G was checked at issue. -/
def runSpcmp (s : State) (v : Nat) (o : EngineOp) : State × Option EngFault :=
  let g := o.s0.toNat
  let src := s.own v o.a1.toNat (8 * g)
  let grans := (List.range g).map (fun i => slice src (8 * i) 8)
  let live := grans.filter anySet
  let map := (grans.zip (List.range g)).foldl (fun m p => if anySet p.1 then m + 2 ^ p.2 else m) 0
  let out := leBytes 2 g ++ leBytes 2 live.length ++ zeros 4 ++ leBytes (actBitmap g) map ++ live.flatten
  if vatSize < o.a0.toNat + out.length then (s, some (beyond o.a0.toNat))
  else ((s.setOwn v o.a0.toNat out).onVat v (fun x => x.setS (mSd o.w) (BitVec.ofNat 32 out.length)), none)

/-- SPEXP (R238). -/
def runSpexp (s : State) (v : Nat) (o : EngineOp) : State × Option EngFault :=
  let a := o.a1.toNat
  let hdr := s.own v a 8
  let g := leAt hdr 0 2
  let m := leAt hdr 2 2
  if anySet (hdr.drop 4) then (s, some (descFault a 6 1 0 (hdr.drop 4)))
  else if g = 0 ∨ 4096 < g then (s, some (descFault a 6 2 0 (hdr.take 2)))
  else if vatSize < a + 8 + actBitmap g then (s, some (beyond a))
  else
    let map := leNat (s.own v (a + 8) (actBitmap g))
    if popCount (8 * actBitmap g) map ≠ m ∨ g < m then (s, some (descFault a 6 3 0 (slice hdr 2 2)))
    else if vatSize < a + 8 + actBitmap g + 8 * m then (s, some (beyond a))
    else if vatSize < o.a0.toNat + 8 * g then (s, some (beyond o.a0.toNat))
    else
      let data := s.own v (a + 8 + actBitmap g) (8 * m)
      let out := ((List.range g).foldl (fun (acc : List (List Byte) × List Byte) i =>
        if bitOf map i then (acc.2.take 8 :: acc.1, acc.2.drop 8) else (zeros 8 :: acc.1, acc.2)) ([], data)).1.reverse.flatten
      ((s.setOwn v o.a0.toNat out).onVat v (fun x => x.setS (mSd o.w) (BitVec.ofNat 32 (8 * g))), none)

/-! ### Gather and scatter (R239) -/

/-- Copies rows of r bytes in turn, each place by the index that the table holds when the row's turn comes: `ends j t` gives source and
destination. A row outside vat SRAM is an error. -/
def moveRows (v r table : Nat) (ends : Nat → Nat → Nat × Nat) : List Nat → State → Except EngFault State
  | [], s => .ok s
  | j :: rest, s =>
    let (src, dst) := ends j (leNat (s.own v (table + 4 * j) 4))
    if vatSize < max src dst + r then .error (beyond (max src dst))
    else moveRows v r table ends rest (s.setOwn v dst (s.own v src r))

/-- A row's fault is raised before any row is written (R239). -/
def allRows (s : State) (r : Except EngFault State) : State × Option EngFault :=
  match r with
  | .ok t => (t, none)
  | .error f => (s, some f)

/-- SPGATH. -/
def runSpgath (s : State) (v : Nat) (o : EngineOp) : State × Option EngFault :=
  let r := o.s1.toNat
  allRows s (moveRows v r o.a2.toNat (fun j t => (o.a1.toNat + t * r, o.a0.toNat + j * r)) (List.range o.s0.toNat) s)

/-- SPSCAT: rows in ascending order, so the row with the higher number stays. -/
def runSpscat (s : State) (v : Nat) (o : EngineOp) : State × Option EngFault :=
  let r := o.s1.toNat
  allRows s (moveRows v r o.a2.toNat (fun j t => (o.a1.toNat + j * r, o.a0.toNat + t * r)) (List.range o.s0.toNat) s)

/-! ### Top-k (04 R155, R156) -/

/-- A score as 32 bits: BF16 is widened. TF is 0 FP32, 1 BF16, 2 INT32 (R240). -/
def scoreBits (tf raw : Nat) : Nat := if tf = 1 then raw * 65536 else raw

/-- Whether a 32-bit score is a NaN. -/
def scoreNan (tf x : Nat) : Bool := tf != 2 && decide (0x7F800000 < x % 2 ^ 31)

/-- order_key. -/
def orderKey (tf x : Nat) : Int :=
  if tf = 2 then (x ^^^ 0x80000000 : Nat)
  else if scoreNan tf x then -1
  else
    let x := if x = 0x80000000 then 0 else x
    if bitOf x 31 then (2 ^ 32 - 1 - x : Nat) else (x + 0x80000000 : Nat)

/-- The best of a list of scores with their indices: the greatest key, the lowest index among equals. -/
def bestScore (tf : Nat) : List (Nat × Nat) → Option (Nat × Nat)
  | [] => none
  | e :: t =>
    match bestScore tf t with
    | none => some e
    | some b => if orderKey tf b.1 ≤ orderKey tf e.1 then some e else some b

/-- The k best in rank order. -/
def topList (tf : Nat) : Nat → List (Nat × Nat) → List (Nat × Nat)
  | 0, _ => []
  | k + 1, l =>
    match bestScore tf l with
    | none => []
    | some b => b :: topList tf k (l.filter (fun e => e.2 != b.2))

/-- The records of one row (R156). -/
def topkRow (tf k : Nat) (thr : Option Nat) (scores : List Nat) : List Byte :=
  ((topList tf k (scores.zip (List.range scores.length))).map (fun e =>
    let low := match thr with
      | some t => decide (orderKey tf e.1 < orderKey tf t)
      | none => false
    leBytes 4 e.1 ++ leBytes 2 (if low then 0xFFFF else e.2) ++ zeros 2)).flatten

/-- K of TOPK (R240). -/
def topkK (w : Word56) : Nat := fld (pImm w) 0 6
/-- TF of TOPK. -/
def topkTf (w : Word56) : Nat := fld (pImm w) 6 2
/-- Bytes of one score. -/
def topkSize (w : Word56) : Nat := if topkTf w = 1 then 2 else 4

/-- TOPK (R240); its k and n were checked at issue. -/
def runTopk (s : State) (v : Nat) (o : EngineOp) : State × Option EngFault :=
  let k := topkK o.w
  let n := o.s0.toNat
  let tf := topkTf o.w
  let size := topkSize o.w
  let thr := if bitOf (pImm o.w) 8 then some (scoreBits tf (if tf = 1 then o.s2.toNat % 65536 else o.s2.toNat)) else none
  ((List.range o.s1.toNat).foldl (fun s r =>
    let raw := s.own v (o.a1.toNat + r * n * size) (n * size)
    let scores := (List.range n).map (fun i => scoreBits tf (leAt raw (size * i) size))
    let s := s.setOwn v (o.a0.toNat + 8 * k * r) (topkRow tf k thr scores)
    if scores.any (scoreNan tf) then
      let s := s.onVat v (fun x => { x with nanSeen := true })
      match s.vatCtx v with
      | some c => s.bump32 (Obj.topkNanSeen c) 1
      | none => s
    else s) s, none)

/-! ### Dispatch (04 R157-R164; 06 R241) -/

/-- A dispatch in progress: tokens served per expert, the code of each choice, the lists of each expert, newest first. -/
structure Disp where
  served  : List Nat
  codes   : List Nat
  primary : List (Nat × Nat × Nat)       -- expert, token, rank
  spill   : List (Nat × Nat × Nat)
  deriving DecidableEq, Repr

/-- One choice (R158). -/
def Disp.choose (d : Disp) (caps : List (Nat × Nat)) (t r e : Nat) : Disp :=
  if e = 0xFFFF then { d with codes := 3 :: d.codes }
  else
    let n := d.served.getD e 0
    let (c, sp) := caps.getD e (0, 0)
    let d := { d with served := d.served.set e (n + 1) }
    if n < c then { d with codes := 0 :: d.codes, primary := (e, t, r) :: d.primary }
    else if n < c + sp then { d with codes := 1 :: d.codes, spill := (e, t, r) :: d.spill }
    else { d with codes := 2 :: d.codes }

/-- One manifest image (R160, R161): `toks` are token and rank of its slots. -/
def manifest (u src round : Nat) (toks : List (Nat × Nat)) : List Byte :=
  let fill := (1 + toks.length * u) + toks.length * 2 ^ 16 + round * 2 ^ 32 + src * 2 ^ 36
  padTo 256 (leBytes 8 fill ++ (toks.map (fun p => leBytes 4 (p.1 + p.2 * 2 ^ 24))).flatten)

/-- The images of one expert and round: ceil(capacity / 58) of them. -/
def manifests (u src round cap : Nat) (toks : List (Nat × Nat)) : List (List Byte) :=
  (List.range (ceilDiv cap 58)).map (fun q => manifest u src round ((toks.drop (58 * q)).take 58))

/-- The first choice R158 rejects: its index and the reason. -/
def badChoice (e k : Nat) (choices : List Nat) : Option (Nat × Nat) :=
  (List.range choices.length).findSome? (fun i =>
    let x := choices.getD i 0
    if x = 0xFFFF then none
    else if e ≤ x then some (i, 2)
    else if ((choices.drop (i / k * k)).take (i % k)).contains x then some (i, 5)
    else none)

/-- DISP (R241; DEDUCED, log entry 18). -/
def runDisp (s : State) (v : Nat) (o : EngineOp) : State × Option EngFault :=
  let a := o.a2.toNat
  let p := s.own v a 64
  let t := leAt p 0 2
  let kb := leAt p 2 1
  let k := kb % 32
  let e := leAt p 3 1 + 1
  let u := leAt p 8 2
  let bmp := leAt p 10 6
  if kb / 32 ≠ 0 then (s, some (descFault a 7 1 0 (slice p 2 1)))
  else if anySet (slice p 16 48) then
    let i := 16 + 8 * (((List.range 6).find? (fun i => anySet (slice p (16 + 8 * i) 8))).getD 0)
    (s, some (descFault a 7 1 0 (slice p i 8)))
  else if t = 0 ∨ 4096 < t then (s, some (descFault a 7 2 0 (slice p 0 2)))
  else if k = 0 then (s, some (descFault a 7 2 0 (slice p 2 1)))
  else if u = 0 ∨ 255 < u then (s, some (descFault a 7 2 0 (slice p 8 2)))
  else if bmp % 64 ≠ 0 then (s, some (boundsFault bmp 64 0x82))
  else if vatSize < a + 64 + 4 * e then (s, some (beyond a))
  else
    let tab := s.own v (a + 64) (4 * e)
    let caps := (List.range e).map (fun i => (leAt tab (4 * i) 2, leAt tab (4 * i + 2) 2))
    match (List.range e).find? (fun i => decide (4096 < (caps.getD i (0, 0)).1 + (caps.getD i (0, 0)).2)) with
    | some i => (s, some (descFault a 7 2 i (slice tab (4 * i) 4)))
    | none =>
      let list := o.a1.toNat
      if vatSize < list + 8 * t * k then (s, some (beyond list))
      else
        let choices := (List.range (t * k)).map (fun i => leNat (s.own v (list + 8 * i + 4) 2))
        match badChoice e k choices with
        | some (i, reason) => (s, some (descFault list 7 reason i (leBytes 2 (choices.getD i 0))))
        | none =>
          let d := (choices.zip (List.range choices.length)).foldl (fun d c => d.choose caps (c.2 / k) (c.2 % k) c.1)
            (⟨List.replicate e 0, [], [], []⟩ : Disp)
          let codes := d.codes.reverse
          let src := match s.vatCtx v with
            | some c => (s.ctx c).lnid.toNat
            | none => 0
          let pick := fun (l : List (Nat × Nat × Nat)) (x : Nat) => (l.reverse.filter (fun c => c.1 == x)).map (fun c => c.2)
          let images := (List.range e).flatMap (fun x =>
            manifests u src 0 (caps.getD x (0, 0)).1 (pick d.primary x) ++ manifests u src 1 (caps.getD x (0, 0)).2 (pick d.spill x))
          let bits := codes.foldr (fun c acc => c + 4 * acc) 0
          let body := leBytes 2 t ++ leBytes 1 k ++ [0] ++ slice p 4 4 ++ leBytes (ceilDiv (2 * t * k) 8) bits
          let bitmap := padTo (64 * ceilDiv body.length 64) body
          if vatSize < bmp + bitmap.length then (s, some (beyond bmp))
          else if vatSize < o.a0.toNat + 256 * images.length then (s, some (beyond o.a0.toNat))
          else
            let s := (s.setOwn v bmp bitmap).setOwn v o.a0.toNat images.flatten
            let s := s.onVat v (fun x => x.setS (mSd o.w) (BitVec.ofNat 32 images.length))
            let count := fun (n : Nat) => (codes.filter (fun c => c == n)).length
            match s.vatCtx v with
            | some c => (((s.bump64 (Obj.dispatchPrimary c) (count 0)).bump64 (Obj.dispatchDelayed c) (count 1)).bump64
                (Obj.dispatchRefused c) (count 2), none)
            | none => (s, none)

end Sys2Proof.Machine
end

