-- ==== Sys2Proof/Machine/Transfer.lean ====
section
/-! DEFINITION. The transfer engine: what XCOPY, XFILL, XEXP, XCHURN and XGATH do when they begin (06 R242-R248; 03 R119-R122; 04 R141-R144).
Each answers the state and the fault the engine found. -/
namespace Sys2Proof.Machine
open Sys2Proof

/-! ### Spaces (R242, R243) -/

/-- The vat S[SB][8:0] names, if it exists and works for the same context. -/
def State.peerVat (s : State) (v id : Nat) : Option Nat :=
  (vatOfId (id % 512)).bind (fun t => if (s.vatCtx t).isSome ∧ s.vatCtx t = s.vatCtx v then some t else none)

/-- The memory address a range of a space begins at: pail pages are assigned to the context and another vat shares it, or the engine's
fault (R243). -/
def State.spaceAddr (s : State) (v space a n id : Nat) : Except EngFault Nat :=
  match space with
  | 0 => .ok (vatBase v + a)
  | 1 =>
    match s.vatCtx v with
    | none => .error (boundsFault a 0 0x81)
    | some c =>
      match s.unassigned c a n with
      | some x => .error (boundsFault x 0 0x81)
      | none => .ok a
  | _ =>
    match s.peerVat v id with
    | some t => .ok (vatBase t + a)
    | none => .error (boundsFault (id % 512) 0 0x83)

/-- Writes into a space: a plain write where it is pail SRAM. -/
def State.spaceWrite (s : State) (space addr : Nat) (b : List Byte) : State :=
  if space = 1 then s.pailWrite addr b else s.sramWrite addr b

/-- XCOPY (R244). -/
def runXcopy (s : State) (v : Nat) (o : EngineOp) : State × Option EngFault :=
  let n := o.s0.toNat
  match s.spaceAddr v (xSrc o.w) o.a1.toNat n o.s1.toNat, s.spaceAddr v (xDst o.w) o.a0.toNat n o.s1.toNat with
  | .error f, _ => (s, some f)
  | .ok _, .error f => (s, some f)
  | .ok src, .ok dst =>
    if src < dst + n ∧ dst < src + n then (s, some (descFault o.a1.toNat 10 6 0 []))
    else (s.spaceWrite (xDst o.w) dst (s.sramRead src n), none)

/-- XFILL (R245). -/
def runXfill (s : State) (v : Nat) (o : EngineOp) : State × Option EngFault :=
  let n := o.s0.toNat
  match s.spaceAddr v (xDst o.w) o.a0.toNat n 0 with
  | .error f => (s, some f)
  | .ok dst => (s.spaceWrite (xDst o.w) dst (List.replicate (n / 4) (leBytes 4 o.s1.toNat)).flatten, none)

/-! ### Compressed weight blocks (04 R141-R143) -/

/-- Checks a block by R142 and expands it by R143: the dense bytes and the block's length, or the fault. -/
def State.expandBlock (s : State) (v a i : Nat) : Except EngFault (List Byte × Nat) :=
  if vatSize < a + 32 then .error (beyond a)
  else
    let h := s.own v a 32
    let nz := leAt h 0 2
    let raw := bitOf (leAt h 2 1) 0
    let len := leAt h 4 2
    if leAt h 2 1 / 2 ≠ 0 ∨ leAt h 3 1 ≠ 0 then .error (descFault a 5 1 i (slice h 2 2))
    else if anySet (h.drop 6) then .error (descFault a 5 1 i (slice h 6 8))
    else if 256 < nz ∨ (raw ∧ nz ≠ 256) then .error (descFault a 5 2 i (h.take 2))
    else if len ≠ (if raw then 17 else 2 + ceilDiv (2 * nz) 32) then .error (descFault a 5 3 i (slice h 4 2))
    else if vatSize < a + 32 * len then .error (beyond a)
    else if raw then .ok (s.own v (a + 32) 512, 32 * len)
    else
      let map := leNat (s.own v (a + 32) 32)
      let pad := s.own v (a + 64 + 2 * nz) (32 * len - 64 - 2 * nz)
      if popCount 256 map ≠ nz then .error (descFault a 5 3 i (h.take 2))
      else if anySet pad then .error (descFault a 5 1 i (pad.take 8))
      else
        let data := s.own v (a + 64) (2 * nz)
        let out := ((List.range 256).foldl (fun (acc : List (List Byte) × List Byte) g =>
          if bitOf map g then (acc.2.take 2 :: acc.1, acc.2.drop 2) else (zeros 2 :: acc.1, acc.2)) ([], data)).1.reverse.flatten
        .ok (out, 32 * len)

/-- Expands n blocks back to back; the blocks before a bad one stay written (R246). -/
def State.expandBlocks (s : State) (v : Nat) : Nat → Nat → Nat → Nat → State × Nat × Option EngFault
  | 0, _, src, _ => (s, src, none)
  | n + 1, i, src, dst =>
    match s.expandBlock v src i with
    | .error f => (s, src, some f)
    | .ok (b, len) => State.expandBlocks (s.setOwn v dst b) v n (i + 1) (src + len) (dst + 512)

/-- XEXP (R246). -/
def runXexp (s : State) (v : Nat) (o : EngineOp) : State × Option EngFault :=
  match s.expandBlocks v o.s0.toNat 0 o.a1.toNat o.a0.toNat with
  | (s, _, some f) => (s, some f)
  | (s, src, none) => (s.onVat v (fun x => x.setS (mSd o.w) (BitVec.ofNat 32 (src - o.a1.toNat))), none)

/-! ### Churn cells (03 R122; 06 R247) -/

/-- Counts a churn cell saturated. -/
def State.countChurn (s : State) (v c : Nat) : State :=
  (s.onVat v (fun x => { x with satCnt := if x.satCnt = 0xFFFF then x.satCnt else x.satCnt + 1 })).bump64 (Obj.churnSaturated c) 1

/-- Reads n cells in order; under FAULT a failing cell stops the instruction and the cells before it stay written. A churn cell has no W, and the
record's W field is zero (03 R133; DESIGN CHOICE, log entry 127). -/
def State.churnCopy (s : State) (v c : Nat) (sat : Bool) : Nat → Nat → Nat → State × Option EngFault
  | 0, _, _ => (s, none)
  | n + 1, cell, dst =>
    let x := s.cellValue cell
    let (y, out) := saturate x
    if out && !sat then (s, some (windowFault 0x2001 3 0xFF (cell % 256) 0 [] (wrap 128 x)))
    else
      let s := if out then s.countChurn v c else s
      State.churnCopy (s.setOwn v dst (leBytes 16 (wrap 128 y))) v c sat n (cell + 1) (dst + 16)

/-- XCHURN (R247). -/
def runXchurn (s : State) (v : Nat) (o : EngineOp) : State × Option EngFault :=
  let n := o.s0.toNat
  match s.spaceAddr v 1 o.a1.toNat (16 * n) 0, s.vatCtx v with
  | .error f, _ => (s, some f)
  | .ok _, none => (s, none)
  | .ok src, some c => s.churnCopy v c (xPol o.w) n (src / 16) o.a0.toNat

/-! ### Gather of a dispatch entry (R248) -/

/-- The u units of one token's row of r bytes, from an address of own vat SRAM, one after another: 240 bytes each, zero beyond the row. -/
def State.rowUnits (s : State) (v space dst src r u : Nat) : State :=
  (List.range u).foldl (fun s q => s.spaceWrite space (dst + 256 * q) (padTo 256 (s.own v (src + 240 * q) (min 240 (r - 240 * q))))) s

/-- The units of the tokens in turn, each token read from the image when its turn comes. -/
def State.tokenUnits (s : State) (v space dst image table r u : Nat) : List Nat → State × Option EngFault
  | [] => (s, none)
  | j :: rest =>
    let src := table + leNat (s.own v (image + 8 + 4 * j) 4) % 2 ^ 24 * r
    if vatSize < src + r then (s, some (beyond src))
    else State.tokenUnits (s.rowUnits v space (dst + 256 * (1 + j * u)) src r u) v space dst image table r u rest

/-- XGATH: its checks, then unit 0 from the image, then the tokens' units. -/
def runXgath (s : State) (v : Nat) (o : EngineOp) : State × Option EngFault :=
  let a := o.a1.toNat
  let img := s.own v a 256
  let m := leAt img 2 2
  let r := o.s1.toNat
  let u := ceilDiv r 240
  if 58 < m then (s, some (descFault a 8 2 0 (slice img 2 2)))
  else
    let recs := (List.range m).map (fun j => leAt img (8 + 4 * j) 4)
    match (List.range m).find? (fun j => decide (2 ^ 29 ≤ recs.getD j 0)) with
    | some j => (s, some (descFault a 8 1 j (slice img (8 + 4 * j) 4)))
    | none =>
      match recs.find? (fun t => decide (vatSize < o.a2.toNat + t % 2 ^ 24 * r + r)) with
      | some t => (s, some (beyond (o.a2.toNat + t % 2 ^ 24 * r)))
      | none =>
        let size := 256 * (1 + m * u)
        let dst := o.a0.toNat
        if xDst o.w = 1 ∧ pailSize < dst + size then (s, some (boundsFault (max dst pailSize) 0 0x81))
        else if xDst o.w = 0 ∧ vatSize < dst + size then (s, some (beyond dst))
        else
          match s.spaceAddr v (xDst o.w) dst size 0 with
          | .error f => (s, some f)
          | .ok addr =>
            (s.spaceWrite (xDst o.w) addr (padTo 256 (img.take 240))).tokenUnits v (xDst o.w) addr a o.a2.toNat r u (List.range m)

end Sys2Proof.Machine
end

