-- ==== Sys2Proof/Machine/VatOrder.lean ====
section
/-! DEFINITION. Sync instructions of a vat on their way to the sync unit, and the orders they keep (05 R179, R196-R200; 06 R207; 10 R386,
R404, R405). -/
namespace Sys2Proof.Machine
open Sys2Proof

/-- A queued transfer instruction older than an age. -/
def VatState.olderTransfer (x : VatState) (age : Nat) : Bool := x.queue.any (fun q => q.eng == .transfer && decide (q.age < age))

/-- A queued transfer instruction older than an age that writes pail SRAM or another vat's SRAM. -/
def VatState.olderPailWrite (x : VatState) (age : Nat) : Bool :=
  x.queue.any (fun q => q.eng == .transfer && decide (q.age < age) && xDst q.op.w != 0)

/-- A queued engine instruction older than an age that writes the vat's own SRAM. -/
def VatState.olderOwnWrite (x : VatState) (age : Nat) : Bool :=
  x.queue.any (fun q => q.eng != .loader && decide (q.age < age) && (q.eng != .transfer || xDst q.op.w == 0))

/-- Whether a gated write stream of a context's banks in use names a slot of a vat (07 R270). -/
def State.usedAsGate (s : State) (c vat num : Nat) : Bool :=
  [0, 1].any (fun die => s.obj (Obj.streamOwner die) == c && [0, 1].any (fun b => (List.range 2048).any (fun i =>
    let at_ := (if die = 0 then Obj.streamBankD0 b else Obj.streamBankD1 b)
    let g := s.domLe at_ (64 * i + 14) 2
    g % 4 == 3 && g / 256 % 16 == num && s.domLe at_ (64 * i + 18) 2 % 512 == vat)))

/-- Whether an operation changes a counter and so waits for earlier writes and marks (R179). -/
def SyncReq.posts : SyncReq → Bool
  | .add _ _ => true
  | .set _ _ => true
  | _ => false

/-- Whether the sync operation at the head may be applied: an add or a set only after the vat's earlier marks and transfer writes. -/
def VatState.syncReady (x : VatState) (e : SyncEntry) : Bool :=
  !e.req.posts || (!x.marks.any (fun m => decide (m.age < e.age)) && !x.olderTransfer e.age)

/-- The value of a counter whose owner is gone: frozen, or free where the owner has been armed again (R405). -/
def State.goneValue (s : State) (n : Nat) : W32 × State :=
  if (s.ctx (n / 4096)).sync = .frozen then ((s.counter n).value, s) else s.takeFree 32

/-- What a wait or a watch is put on, if the vid admits it (R386): claims only on counters. -/
def watchOn (r : VidRef) (claim : Bool) : Option Watched :=
  match r with
  | .counter n => some (.counter n)
  | .barrier n => if claim then none else some (.barrier n)
  | _ => none

/-- Registers a wait of a vat; its condition may hold at once (R198). -/
def State.syncWait (s : State) (v c vid : Nat) (src : SyncSrc) (cond : Cond) (value : W32) (claim : Bool) : State :=
  match watchOn (s.resolve c vid) claim with
  | some on => s.register ⟨on, c, vid, cond, value, false, claim, .vat v, 0xFFFF, 0, false⟩
  | none =>
    match s.resolve c vid with
    | .gone n =>
      let (y, s) := s.goneValue n
      s.onVat v (fun x => { x with notices := x.notices ++ [⟨y, BitVec.ofNat 16 stOwnerLost⟩] })
    | _ => s.syncUnmapped c src vid (if claim then value.toInt else 0) .wait

/-- The condition codes of WATCH (R200). -/
def condOf (fn : Nat) : Cond := if fn = 0 then .ge else if fn = 1 then .eq else .flip

/-- The target codes of WATCH (R200). -/
def targetOf (t : Nat) : Target := if 8 ≤ t then .queue (t - 8) else .mp

/-- The kind of R391 of a vat's operation. -/
def SyncReq.kind : SyncReq → Nat
  | .set _ _ => 2
  | _ => 1

/-- Applies one sync operation of a vat (R197-R200). -/
def State.applySync (s : State) (v c : Nat) (e : SyncEntry) : State :=
  let src : SyncSrc := ⟨srcVat v, e.pc.toNat, e.req.kind, (s.ctx c).lnid.toNat, some v⟩
  match e.req with
  | .add vid amount => (s.syncAdd c vid src amount).2
  | .set vid value => (s.syncSet c vid src value).2
  | .read vid d =>
    match s.resolve c vid with
    | .counter n => s.onVat v (fun x => { x with results := x.results ++ [⟨d, (s.counter n).value, none⟩] })
    | .barrier n => s.onVat v (fun x => { x with results := x.results ++ [⟨d, (s.barrier n).episode, none⟩] })
    | .gone n =>
      let (y, s) := s.goneValue n
      s.onVat v (fun x => { x with results := x.results ++ [⟨d, y, none⟩] })
    | _ => s.syncUnmapped c src vid 0 (.read d)
  | .wait vid eq value => s.syncWait v c vid src (if eq then .eq else .ge) value false
  | .claim vid amount => s.syncWait v c vid src .ge amount true
  | .arrive vid =>
    match s.resolve c vid with
    | .barrier n => s.localArrive c n src
    | _ => s.syncUnmapped c src vid 0 .wait
  | .watch vid cond value target d =>
    match watchOn (s.resolve c vid) false with
    | some on =>
      match s.registerPool on c vid (condOf cond) value (targetOf target) with
      | (.ok h, s) => s.onVat v (fun x => { x with results := x.results ++ [⟨d, h.setWidth 32, some 0⟩] })
      | (.error st, s) => s.onVat v (fun x => { x with results := x.results ++ [⟨d, 0xFFFFFFFF, some (BitVec.ofNat 16 st)⟩] })
    | none =>
      match s.resolve c vid with
      | .gone _ => s.onVat v (fun x => { x with results := x.results ++ [⟨d, 0xFFFFFFFF, some (BitVec.ofNat 16 stOwnerLost)⟩] })
      | _ => s.syncUnmapped c src vid 0 (.watch d)
  | .unwatch h => s.unwatch c h

/-- Applies the vat's sync operations in program order as far as their orders allow. -/
def State.drainSync : Nat → State → Nat → State
  | 0, s, _ => s
  | n + 1, s, v =>
    match (s.vat v).syncq, s.vatCtx v with
    | e :: rest, some c =>
      if (s.vat v).syncReady e then
        State.drainSync n ((s.onVat v (fun x => { x with syncq := rest })).applySync v c e) v
      else s
    | _, _ => s

/-- Applies what is ready of a vat's sync operations. -/
def State.runSync (s : State) (v : Nat) : State := s.drainSync (s.vat v).syncq.length v

end Sys2Proof.Machine
end

