-- ==== Sys2Proof/Machine/Engine.lean ====
section
/-! DEFINITION. Engine queues: the memory each instruction touches, when it begins, execution faults, tokens, completion (02 R90-R94; 06 R204-R209,
R220). An engine instruction has its effect when it begins; its entry leaves when it completes. -/
namespace Sys2Proof.Machine
open Sys2Proof

/-! ### Footprints (R207) -/

/-- The regions an instruction reads and writes, by memory address; `struct` are reads that decide the others. -/
structure Foot where
  struct : List Region
  reads  : List Region
  writes : List Region
  deriving DecidableEq, Repr

/-- All of memory. -/
def everywhere : List Region := [(0, 2 ^ 40)]

/-- A region of a vat's own SRAM by memory address. -/
def ownRegion (v a n : Nat) : Region := (vatBase v + a, n)

/-- From an address of a vat's own SRAM to its end. -/
def ownFrom (v a : Nat) : Region := ownRegion v a (vatSize - a)

/-- A region of a space by memory address; nothing for a vat that does not exist. -/
def spaceRegion (s : State) (v space a n id : Nat) : List Region :=
  match space with
  | 0 => [ownRegion v a n]
  | 1 => [(a, n)]
  | _ => match s.peerVat v id with
    | some t => [(vatBase t + a, n)]
    | none => []

/-- What a tile load reads. -/
def tldFoot (s : State) (v : Nat) (o : EngineOp) : Foot :=
  let a := o.a0.toNat
  let d := s.readDesc v a
  let desc := ownRegion v a 64
  if (s.checkDesc v d (fun _ => none)).isSome then ⟨[desc], [desc], []⟩
  else
    let k := mK o.w
    let r0 := 32 * (o.s0.toNat % 65536)
    let b := k * (o.s0.toNat / 65536) / 32
    let nb := k / 32
    let rows := ((List.range 32).map (fun i => r0 + i)).filter (fun r => decide (r < d.dim1))
    let scales := if blockScaled d.fmt then rows.map (fun r => ownRegion v (d.sbase + r * d.sstride + b) nb) else []
    if d.spk ≤ 2 then
      let data := rows.map (fun r =>
        if d.fmt = ternary then ownRegion v (d.base + r * d.stride1 + 16 * (b / 2)) (16 * ceilDiv nb 2)
        else ownRegion v (d.base + r * d.stride1 + b * blockBytes d.fmt d.spk) (nb * blockBytes d.fmt d.spk))
      let metas := rows.map (fun r => ownRegion v (d.mbase + r * d.mstride + b * metaBytes d.spk) (nb * metaBytes d.spk))
      ⟨[desc], desc :: data ++ metas ++ scales, []⟩
    else
      let map := ownRegion v d.mbase d.bitmapBytes
      ⟨[desc, map], desc :: map :: ownRegion v d.base (s.tilesBelow v d (d.tileRows * d.blocks) * d.tileSize) :: scales, []⟩

/-- What a conversion writes. -/
def wcvtFoot (s : State) (v : Nat) (o : EngineOp) : Foot :=
  let a := o.a0.toNat
  let d := s.readDesc v a
  let desc := ownRegion v a 64
  if (s.checkDesc v d wcvtRefuses).isSome then ⟨[desc], [desc], []⟩
  else
    let rows := List.range d.dim1
    ⟨[desc], [desc], rows.map (fun r => ownRegion v (d.base + r * d.stride1) d.rowBytes) ++
      (if blockScaled d.fmt then rows.map (fun r => ownRegion v (d.sbase + r * d.sstride) 1) else [])⟩

/-- The footprint of an instruction by the memory as it is. Where content decides an extent, the whole range it may take. -/
def State.opFoot (s : State) (v : Nat) (o : EngineOp) : Foot :=
  let a0 := o.a0.toNat
  let a1 := o.a1.toNat
  let a2 := o.a2.toNat
  let n := o.s0.toNat
  match o.op.toNat with
  | 0x62 => tldFoot s v o
  | 0x63 => ⟨[], [ownRegion v a0 (partialSize (bitOf (mImm o.w) 0) (bitOf (mImm o.w) 1))], []⟩
  | 0x64 => ⟨[], [], [ownRegion v a0 (partialSize (bitOf (mImm o.w) 0) (bitOf (mImm o.w) 1))]⟩
  | 0x65 => wcvtFoot s v o
  | 0xA0 => ⟨[], [ownRegion v a1 (8 * n)], [ownRegion v a0 (8 + actBitmap n + 8 * n)]⟩
  | 0xA1 => ⟨[], [ownRegion v a1 (8 + 512 + 32768)], [ownRegion v a0 32768]⟩
  | 0xA2 => ⟨[], [ownRegion v a2 (4 * n), ownFrom v a1], [ownRegion v a0 (n * o.s1.toNat)]⟩
  | 0xA3 => ⟨[], [ownRegion v a2 (4 * n), ownRegion v a1 (n * o.s1.toNat)], [ownFrom v a0]⟩
  | 0xA4 => ⟨[], [ownRegion v a1 (o.s1.toNat * n * topkSize o.w)], [ownRegion v a0 (8 * topkK o.w * o.s1.toNat)]⟩
  | 0xA5 =>
    let p := s.own v a2 64
    let t := leAt p 0 2
    let k := leAt p 2 1 % 32
    ⟨[ownRegion v a2 1088], [ownRegion v a2 1088, ownRegion v a1 (8 * t * k)],
      [ownRegion v (leAt p 10 6) (64 * ceilDiv (8 + ceilDiv (2 * t * k) 8) 64), ownFrom v a0]⟩
  | 0xC0 => ⟨[], spaceRegion s v (xSrc o.w) a1 n o.s1.toNat, spaceRegion s v (xDst o.w) a0 n o.s1.toNat⟩
  | 0xC2 => ⟨[], [ownRegion v a1 (544 * n)], [ownRegion v a0 (512 * n)]⟩
  | 0xC3 => ⟨[], [], spaceRegion s v (xDst o.w) a0 n 0⟩
  | 0xC4 => ⟨[], [(a1, 16 * n)], [ownRegion v a0 (16 * n)]⟩
  | 0xC5 => ⟨[], [ownRegion v a1 256, ownFrom v a2], spaceRegion s v (xDst o.w) a0 (256 * (1 + 58 * ceilDiv o.s1.toNat 240)) 0⟩
  | _ => ⟨[], [], []⟩

/-- Footprints of instructions that have not begun, in program order. Where an earlier one may still write what decides a footprint, it
is everything. -/
def State.feet (s : State) (v : Nat) (l : List QEntry) : List (QEntry × Foot) :=
  (l.foldl (fun (acc : List (QEntry × Foot) × List Region) q =>
    let f := s.opFoot v q.op
    let f := if meetAny f.struct acc.2 then ⟨everywhere, everywhere, everywhere⟩ else f
    (acc.1 ++ [(q, f)], acc.2 ++ f.writes)) ([], [])).1

/-- Footprints of the instructions of a vat that have not begun. -/
def State.waitingFeet (s : State) (v : Nat) : List (QEntry × Foot) := s.feet v ((s.vat v).queue.filter (fun q => !q.begun))

/-- Whether a load or store of the sequencer or the vector engine must wait for a queued instruction (R207). -/
def State.memWaits (s : State) (v : Nat) (reads writes : List Region) : Bool :=
  (s.waitingFeet v).any (fun f => meetAny reads f.2.writes || meetAny writes f.2.writes || meetAny writes f.2.reads)

/-- Whether two instructions meet in a tile buffer: a load into a tile another one reads (R207). -/
def tileMeets (a b : QEntry) : Bool :=
  let one := fun (l m : QEntry) => l.op.op == 0x62 && m.op.op == 0x61 && (mTa l.op.w == mTa m.op.w || mTa l.op.w == mTb m.op.w)
  one a b || one b a

/-- Whether an instruction that has not begun is free of every earlier one that has not begun either. -/
def State.clear (s : State) (v : Nat) (q : QEntry) : Bool :=
  let all := s.waitingFeet v
  match all.find? (fun f => f.1.age == q.age) with
  | none => true
  | some (_, f) =>
    all.all (fun g => decide (q.age ≤ g.1.age) ||
      !(meetAny f.reads g.2.writes || meetAny f.writes g.2.writes || meetAny f.writes g.2.reads || tileMeets q g.1))

/-! ### Tokens (02 R90-R92; 06 R220) -/

/-- Token class of an array-queue instruction. -/
def QEntry.tcls (q : QEntry) : Nat := if q.eng = .array then mTcls q.op.w else 0

/-- TOKEN_WEIGHT of a class. -/
def tokenWeight (c : Nat) : Nat := if c = 3 then 4 else c

/-- Tokens held by a context's vats on a die (R91). -/
def State.tokensHeld (s : State) (c die : Nat) : Nat :=
  (((List.range 160).map (fun i => 160 * die + i)).map (fun v => if s.vatCtx v = some c then (s.vat v).tokens else 0)).sum

/-- The ceiling the governor checks against: within a grace window the higher of the old and the new one (R91, R95). -/
def State.tokenCeiling (s : State) (c die : Nat) : Nat :=
  let x := s.ctx c
  let pick := fun (a b : Nat) => if die = 0 then a else b
  x.grace.foldl (fun m g => max m (pick g.ceil0 g.ceil1)) (pick x.ceil0 x.ceil1)

/-! ### Execution faults (R206) -/

/-- The ages of entries an execution fault discards: the faulting engine's queue and what the other engines have not begun. -/
def discarded (e : Engine) (q : List QEntry) : List QEntry := q.filter (fun x => x.eng == e || !x.begun)

/-- Marks kept: those no discarded transfer into pail SRAM or another vat's SRAM precedes. -/
def keptMarks (gone : List QEntry) (m : List Mark) : List Mark :=
  m.filter (fun x => !gone.any (fun q => q.eng == .transfer && decide (q.age < x.age) && xDst q.op.w != 0))

/-- Sync operations kept: up to the first add or set that a discarded transfer or a discarded mark precedes (DEDUCED, log entry 21). -/
def keptSync (gone : List QEntry) (lost : List Mark) (l : List SyncEntry) : List SyncEntry :=
  l.takeWhile (fun e => !(e.req.posts &&
    (gone.any (fun q => q.eng == .transfer && decide (q.age < e.age)) || lost.any (fun m => decide (m.age < e.age)))))

/-- An engine found a fault: queues and dependent marks and sync operations are discarded, tokens go back unless an array instruction
still executes, the vat stops issuing, and the record names the instruction (R206, R220). -/
def State.engineFault (s : State) (v : Nat) (q : QEntry) (f : EngFault) : State :=
  let x := s.vat v
  let gone := discarded q.eng x.queue
  let marks := keptMarks gone x.marks
  let lost := x.marks.filter (fun m => !marks.contains m)
  let keep := x.queue.filter (fun y => y.eng != q.eng && y.begun)
  let s := s.setVat v { x with
    queue := keep
    marks := marks
    syncq := keptSync gone lost x.syncq
    tokens := if keep.any (fun y => y.eng == .array) then x.tokens else 0
    stopped := true }
  let i := f.info v q.pc.toNat false
  let s := match s.vatCtx v with
    | some c => s.fault c i
    | none => s.moduleFault i
  s.runSync v

/-! ### Beginning and completing (R204) -/

/-- What an instruction does when it begins. -/
def runOp (s : State) (v : Nat) (o : EngineOp) : State × Option EngFault :=
  match o.op.toNat with
  | 0x60 => runWclr s v o
  | 0x61 => runMma s v o
  | 0x62 => runTld s v o
  | 0x63 => runWpadd s v o
  | 0x64 => runWpack s v o
  | 0x65 => runWcvt s v o
  | 0x66 => runWtov s v o
  | 0x67 => runWstat s v o
  | 0xA0 => runSpcmp s v o
  | 0xA1 => runSpexp s v o
  | 0xA2 => runSpgath s v o
  | 0xA3 => runSpscat s v o
  | 0xA4 => runTopk s v o
  | 0xA5 => runDisp s v o
  | 0xC0 => runXcopy s v o
  | 0xC2 => runXexp s v o
  | 0xC3 => runXfill s v o
  | 0xC4 => runXchurn s v o
  | 0xC5 => runXgath s v o
  | _ => (s, none)

/-- Whether a soft resume stands in the power-hold portion of a window that gates islands: 16 grid ticks or more, and more than a lead of ticks
from its end (01 R51; 02 R79). -/
def SoftResume.gates (r : SoftResume) (lead : Nat) : Bool :=
  let run := 5 * (r.at_ / 125 + 1)
  let off := r.at_ % 125
  decide (run ≤ off) && decide (run + 16 ≤ 125) && decide (off + lead < 125)

/-- Whether a power hold that gates islands is in force and more than UNGATE_LEAD ticks from its release (02 R79). -/
def State.gatePending (s : State) (c : Nat) : Bool :=
  let x := s.ctx c
  match x.hold, x.soft with
  | some n, _ => n.power && (n.indef || (decide (16 ≤ n.total) && decide (n.elapsed + s.obj Obj.ungateLead < n.total)))
  | none, some r => r.gates (s.obj Obj.ungateLead)
  | none, none => false

/-- Whether a vat's engines begin nothing: its island is gated, or gates at its next instruction boundary (R79, R208). -/
def State.gateHeld (s : State) (v : Nat) : Bool := (s.vat v).gated || (s.vatCtx v).any s.gatePending

/-- The entry at the head of an engine's queue. -/
def VatState.headOf (x : VatState) (e : Engine) : Option QEntry := x.queue.find? (fun q => q.eng == e)

/-- The head entry of an engine if nothing but tokens can keep it from beginning: the island runs and earlier instructions are clear. -/
def State.readyHead (s : State) (v : Nat) (e : Engine) : Option QEntry :=
  match (s.vat v).headOf e with
  | some q => if q.begun || s.gateHeld v || !s.clear v q then none else some q
  | none => none

/-- The head entry of an engine if it begins now: it holds its tokens. -/
def State.beginner (s : State) (v : Nat) (e : Engine) : Option QEntry :=
  (s.readyHead v e).bind (fun q => if tokenWeight q.tcls ≤ (s.vat v).tokens then some q else none)

/-- An instruction begins: excess tokens go back (R92), and it has its effect. -/
def State.beginOp (s : State) (v : Nat) (q : QEntry) : State :=
  let s := s.onVat v (fun x => { x with
    queue := x.queue.map (fun y => if y.age = q.age then { y with begun := true } else y)
    tokens := if q.eng = .array then tokenWeight q.tcls else x.tokens })
  match runOp s v q.op with
  | (s, none) => s
  | (s, some f) => s.engineFault v q f

/-- Begins whatever can begin, engine by engine. -/
def State.kick : Nat → State → Nat → State
  | 0, s, _ => s
  | n + 1, s, v =>
    match [Engine.loader, .array, .sparse, .transfer].findSome? (fun e => s.beginner v e) with
    | some q => State.kick n (s.beginOp v q) v
    | none => s

/-- Begins whatever can begin; a vat's queues hold at most 14 entries (DEDUCED, log entry 70). -/
def State.startEngines (s : State) (v : Nat) : State := s.kick 14 v

/-- ENGINE_COMPLETE: the instruction an engine executes completes; the array queue then changes its tokens for the next one's weight, or
returns them all (R204, R220). Without an instruction executing, or with the
island's clock stopped, nothing happens. -/
def execEngineComplete (v : Vat) (e : Engine) (s : State) : Host.Outcome State Fault Refusal :=
  answer s (match (s.vat v).headOf e with
    | none => s
    | some q =>
      if !q.begun || (s.vat v).gated then s
      else
        let s := s.onVat v (fun x =>
          let rest := x.queue.filter (fun y => y.age != q.age)
          let next := rest.find? (fun y => y.eng == .array)
          { x with
            queue := rest
            tokens := if e = .array then (match next with
              | some y => min x.tokens (tokenWeight y.tcls)
              | none => 0) else x.tokens })
        (s.startEngines v).runSync v)

/-- TOKEN_REQUEST: the governor grants the difference to the held tokens if the context's sum stays within its ceiling; a refusal is
TOKEN_OVERSUB and the instruction does not begin (02 R92-R94). -/
def execTokenRequest (v : Vat) (s : State) : Host.Outcome State Fault Refusal :=
  answer s (match s.readyHead v .array, s.vatCtx v with
    | some q, some c =>
      let w := tokenWeight q.tcls
      let held := s.tokensHeld c (dieOf v)
      let top := s.tokenCeiling c (dieOf v)
      if w ≤ (s.vat v).tokens then s
      else if held + (w - (s.vat v).tokens) ≤ top then
        let sum := held + (w - (s.vat v).tokens)
        let key := if dieOf v = 0 then Obj.tokenHighWaterD0 c else Obj.tokenHighWaterD1 c
        let s := s.setObj key (max (s.obj key) sum)
        (s.onVat v (fun x => { x with tokens := w })).startEngines v
      else s.engineFault v q ⟨0x2002, leBytes 1 q.tcls ++ [0] ++ leBytes 2 held ++ leBytes 2 top⟩
    | _, _ => s)

end Sys2Proof.Machine
end

