-- ==== Sys2Proof/Machine/Islands.lean ====
section
/-! DEFINITION. Clock islands: frequency, stretches, derating, gating (02 R73-R79, R97; 12 R443) and the end of a token grace (02 R95). -/
namespace Sys2Proof.Machine
open Sys2Proof

/-! ### Frequency -/

/-- Whether the islands are in adaptive mode (R74). -/
def State.adaptive (s : State) : Bool := s.obj Obj.clockMode == 1

/-- The highest FREQ in force for a context: a lower one waits out its grace; 0 leaves the islands under R74 (12 R442, R443). -/
def State.variantFreq (s : State) (c : Nat) : Nat :=
  let base := if s.adaptive then s.obj Obj.adaptFmax else s.obj Obj.fixedFreq
  let eff := fun (f : Nat) => if f = 0 then base else f
  (s.ctx c).grace.foldl (fun m g => max m (eff g.freq)) (eff (s.ctx c).freq)

/-- The frequency a vat's island is held to before its temperature counts: by its context's variant while the job runs, else by R74. -/
def State.islandTop (s : State) (v : Nat) : Nat :=
  match s.vatCtx v with
  | some c => if (s.ctx c).job = .running then s.variantFreq c else if s.adaptive then s.obj Obj.adaptFmax else s.obj Obj.fixedFreq
  | none => if s.adaptive then s.obj Obj.adaptFmax else s.obj Obj.fixedFreq

/-- The thermal ceiling f_th, with a variant's FREQ in place of ADAPT_FMAX (R77; 12 R443; DEDUCED, log entry 27). -/
def State.thermalCeiling (s : State) (v : Nat) : Nat :=
  let hot := ((s.vat v).temp - s.obj Obj.tjDerate).toNat
  max ((s.islandTop v - s.obj Obj.derateSlope * hot) / 50 * 50) (s.obj Obj.adaptFmin)

/-- An island takes the frequency it is held to: in fixed-clock mode exactly, in adaptive mode as its ceiling, dropped to at once. -/
def State.settleIsland (s : State) (v : Nat) : State :=
  let f := if s.adaptive then max (min (s.vat v).freq (s.thermalCeiling v)) (s.obj Obj.adaptFmin) else s.islandTop v
  s.onVat v (fun x => { x with freq := f })

/-- The same for every island. -/
def State.settleIslands (s : State) : State := (List.range 320).foldl State.settleIsland s

/-- Adds one to a saturating 32-bit count. -/
def satInc (x : W32) : W32 := if x = 0xFFFFFFFF then x else x + 1

/-- A grid tick count of one millisecond (00 R5). -/
def ticksPerMs : Nat := 390625

/-- A run of STRETCH_RUN stretched periods: a step down in adaptive mode, an event at most once a millisecond in fixed-clock mode (R76). A
step down is counted where the frequency falls (DEDUCED, log entry 27). The count of the run then starts at 0, and a STRETCH_RUN of 0 acts as 1
(DESIGN CHOICE, log entry 127). -/
def State.stretchRunDone (s : State) (v n : Nat) : State :=
  let x := s.vat v
  if s.adaptive then
    let f := max (x.freq - 50) (s.obj Obj.adaptFmin)
    s.setVat v { x with freq := min x.freq f, stepdowns := if f < x.freq then satInc x.stepdowns else x.stepdowns,
                        stretchRun := 0, runSinceRecover := true }
  else if x.stretchLog = 0 ∨ x.stretchLog - 1 + ticksPerMs ≤ s.times.grid then
    (s.setVat v { x with stretchRun := 0, stretchLog := s.times.grid + 1 }).log (srcVat v) 0x0031 (leBytes 4 n)
  else s.setVat v { x with stretchRun := 0 }

/-- One stretched period; `consecutive` says that the period before it was stretched too (R75, R76). -/
def State.stretch (s : State) (v : Nat) (consecutive : Bool) : State :=
  let x := s.vat v
  let n := if consecutive then x.stretchRun + 1 else 1
  let s := s.setVat v { x with stretches := satInc x.stretches, stretchRun := n }
  if max 1 (s.obj Obj.stretchRun) ≤ n then s.stretchRunDone v n else s

/-- DROOP_STRETCH. -/
def execDroopStretch (v : Vat) (consecutive : Bool) (s : State) : Host.Outcome State Fault Refusal :=
  answer s (s.stretch v consecutive)

/-- ADAPT_RECOVER: an interval without a stretch run raises the frequency by 50 MHz, up to the thermal ceiling (R76). -/
def execAdaptRecover (v : Vat) (s : State) : Host.Outcome State Fault Refusal :=
  answer s (if s.adaptive then
      let top := s.thermalCeiling v
      s.onVat v (fun x => { x with
        freq := if x.runSinceRecover || decide (top ≤ x.freq) then x.freq else min (x.freq + 50) top, runSinceRecover := false })
    else s)

/-- TEMPERATURE_READ: the island keeps its reading; above its thermal ceiling it drops at once (R77). -/
def execTemperatureRead (v : Vat) (degrees : Int) (s : State) : Host.Outcome State Fault Refusal :=
  answer s ((s.onVat v (fun x => { x with temp := degrees })).settleIsland v)

/-! ### Gating (R41, R79) -/

/-- ISLAND_GATE: in a power hold, an island at an instruction boundary gates, after its array instruction has completed and returned its
tokens (R79, R178, R208). -/
def execIslandGate (v : Vat) (s : State) : Host.Outcome State Fault Refusal :=
  answer s (match s.vatCtx v with
    | none => s
    | some c =>
      if s.gatePending c && !(s.vat v).queue.any (fun q => q.begun) && !(s.vat v).gated then
        s.onVat v (fun x => { x with gated := true, tokens := 0 })
      else s)

/-- Ungates the islands of a context, UNGATE_LEAD ticks before the release; queued instructions run again (R79, R208). -/
def State.ungate (s : State) (c : Nat) : State :=
  ((List.range 320).filter (fun v => s.vatCtx v == some c)).foldl
    (fun s v => (s.onVat v (fun x => { x with gated := false })).startEngines v) s

/-- ISLAND_UNGATE: nothing happens while a gating hold has more than UNGATE_LEAD ticks to run. -/
def execIslandUngate (c : CtxId) (s : State) : Host.Outcome State Fault Refusal :=
  answer s (if s.gatePending c then s else s.ungate c)

/-! ### Token grace (R95; 12 R443) -/

/-- TOKEN_GRACE_EXPIRY: settings whose grace has passed no longer count, and islands drop to the lower frequency. -/
def execTokenGraceExpiry (c : CtxId) (s : State) : Host.Outcome State Fault Refusal :=
  answer s ((s.onCtx c (fun x => { x with grace := x.grace.filter (fun g => decide (x.stime < g.until_)) })).settleIslands)

/-! ### ISLAND_STATUS (R97) -/

/-- The low byte of a signed whole number. -/
def int8 (i : Int) : Byte := BitVec.ofNat 8 (wrap 8 (max (-128) (min 127 i)))

/-- Whether an island counts as gated: its clock is gated, or its vat has halted in a hold that gates (R79, R97; 05 R187). -/
def State.islandGated (s : State) (v : Nat) : Bool :=
  (s.vat v).gated || ((s.vat v).run == .halted && (match s.vatCtx v with | some c => s.gatePending c | none => false))

/-- The record of one island. Bits 2 and 3 of byte 4 read zero in fixed-clock mode (DESIGN CHOICE, log entry 127). -/
def State.islandRecord (s : State) (v : Nat) : List Byte :=
  let x := s.vat v
  let f := b2n s.adaptive + 2 * b2n (s.islandGated v) + 4 * b2n (s.adaptive && decide (x.freq < s.obj Obj.adaptFmax)) +
    8 * b2n (s.adaptive && x.freq == s.obj Obj.adaptFmin)
  leBytes 2 (vatId v) ++ leBytes 2 x.freq ++ leBytes 1 f ++ [int8 x.temp] ++
    leBytes 2 (match s.vatCtx v with | some c => c | none => 0x8000) ++ leBytes 4 x.stretches.toNat ++ leBytes 4 x.stepdowns.toNat

/-- ISLAND_STATUS. -/
def State.islandStatus (s : State) : List Byte := (List.range 320).flatMap s.islandRecord

end Sys2Proof.Machine
end

