-- ==== Sys2Proof/Machine/VatScalar.lean ====
section
/-! DEFINITION. Scalar, predicate and address instructions (05 R181-R183): registers only. -/
namespace Sys2Proof.Machine
open Sys2Proof

/-- Parts of the word an instruction of format S, I or C does not use, and which must be zero (R169): the flags name the used fields. -/
def spare (w : Word56) (dst sa sb fn imm : Bool) : Bool × Nat :=
  unused ((if dst then 0 else fDst w) + (if sa then 0 else fSa w) + (if sb then 0 else fSb w) + (if fn then 0 else fFn w) +
    (if imm then 0 else fImm w))

/-- S[d] from S[a] and S[b]. -/
def aluRR (s : State) (v op : Nat) (w : Word56) (f : W32 → W32 → W32) : State :=
  issueRegs s v op w (illegal [spare w true true true false false]) ⟨[fDst w, fSa w, fSb w], [], []⟩
    (fun x => x.setS (fDst w) (f (x.s (fSa w)) (x.s (fSb w))))

/-- S[d] from S[a] and the immediate; a shift takes five bits and the others must be zero. -/
def aluRI (s : State) (v op : Nat) (w : Word56) (shift : Bool) (f : W32 → W32 → W32) : State :=
  issueRegs s v op w (illegal [spare w true true false false true, unused (if shift then fImm w / 32 else 0)])
    ⟨[fDst w, fSa w], [], []⟩ (fun x => x.setS (fDst w) (f (x.s (fSa w)) (BitVec.ofNat 32 (fImm w))))

/-- NOP (R181). -/
def execNop (v : Vat) (w : Word56) (s : State) : Host.Outcome State Fault Refusal :=
  answer s (issueRegs s v 0x00 w (illegal [spare w false false false false false]) ⟨[], [], []⟩ id)

/-- ADD (R181). -/
def execAdd (v : Vat) (w : Word56) (s : State) : Host.Outcome State Fault Refusal :=
  answer s (aluRR s v 0x01 w (fun a b => a + b))

/-- SUB (R181). -/
def execSub (v : Vat) (w : Word56) (s : State) : Host.Outcome State Fault Refusal :=
  answer s (aluRR s v 0x02 w (fun a b => a - b))

/-- MUL (R181). -/
def execMul (v : Vat) (w : Word56) (s : State) : Host.Outcome State Fault Refusal :=
  answer s (aluRR s v 0x03 w (fun a b => a * b))

/-- MULHU (R181). -/
def execMulhu (v : Vat) (w : Word56) (s : State) : Host.Outcome State Fault Refusal :=
  answer s (aluRR s v 0x04 w (fun a b => BitVec.ofNat 32 (a.toNat * b.toNat / 2 ^ 32)))

/-- MULHS (R181). -/
def execMulhs (v : Vat) (w : Word56) (s : State) : Host.Outcome State Fault Refusal :=
  answer s (aluRR s v 0x05 w (fun a b => BitVec.ofInt 32 (a.toInt * b.toInt / 2 ^ 32)))

/-- AND (R181). -/
def execAnd (v : Vat) (w : Word56) (s : State) : Host.Outcome State Fault Refusal :=
  answer s (aluRR s v 0x06 w (fun a b => a &&& b))

/-- OR (R181). -/
def execOr (v : Vat) (w : Word56) (s : State) : Host.Outcome State Fault Refusal :=
  answer s (aluRR s v 0x07 w (fun a b => a ||| b))

/-- XOR (R181). -/
def execXor (v : Vat) (w : Word56) (s : State) : Host.Outcome State Fault Refusal :=
  answer s (aluRR s v 0x08 w (fun a b => a ^^^ b))

/-- SHL (R181). -/
def execShl (v : Vat) (w : Word56) (s : State) : Host.Outcome State Fault Refusal :=
  answer s (aluRR s v 0x09 w (fun a b => a <<< (b.toNat % 32)))

/-- SHR (R181). -/
def execShr (v : Vat) (w : Word56) (s : State) : Host.Outcome State Fault Refusal :=
  answer s (aluRR s v 0x0A w (fun a b => a >>> (b.toNat % 32)))

/-- SRA (R181). -/
def execSra (v : Vat) (w : Word56) (s : State) : Host.Outcome State Fault Refusal :=
  answer s (aluRR s v 0x0B w (fun a b => a.sshiftRight (b.toNat % 32)))

/-- MIN (R181). -/
def execMin (v : Vat) (w : Word56) (s : State) : Host.Outcome State Fault Refusal :=
  answer s (aluRR s v 0x0C w (fun a b => if a.toInt ≤ b.toInt then a else b))

/-- MAX (R181). -/
def execMax (v : Vat) (w : Word56) (s : State) : Host.Outcome State Fault Refusal :=
  answer s (aluRR s v 0x0D w (fun a b => if b.toInt ≤ a.toInt then a else b))

/-- MINU (R181). -/
def execMinu (v : Vat) (w : Word56) (s : State) : Host.Outcome State Fault Refusal :=
  answer s (aluRR s v 0x0E w (fun a b => if a.toNat ≤ b.toNat then a else b))

/-- MAXU (R181). -/
def execMaxu (v : Vat) (w : Word56) (s : State) : Host.Outcome State Fault Refusal :=
  answer s (aluRR s v 0x0F w (fun a b => if b.toNat ≤ a.toNat then a else b))

/-- CMP (R181, R182). -/
def execCmp (v : Vat) (w : Word56) (s : State) : Host.Outcome State Fault Refusal :=
  answer s (issueRegs s v 0x10 w (illegal [spare w true true true true false, pReg (fDst w), undef (decide (6 < fFn w))])
    ⟨[fSa w, fSb w], [], []⟩ (fun x => x.setP (fDst w) (cond (fFn w) (x.s (fSa w)) (x.s (fSb w)))))

/-- PLOG (R181, R182): FN[4] must be 0. -/
def execPlog (v : Vat) (w : Word56) (s : State) : Host.Outcome State Fault Refusal :=
  answer s (issueRegs s v 0x11 w
    (illegal [spare w true true true true false, unused (fFn w / 16), pReg (fDst w), pReg (fSa w), pReg (fSb w)])
    ⟨[], [], []⟩ (fun x => x.setP (fDst w) (plogBit (fFn w) (x.p (fSa w)) (x.p (fSb w)))))

/-- AADD (R181). -/
def execAadd (v : Vat) (w : Word56) (s : State) : Host.Outcome State Fault Refusal :=
  answer s (issueRegs s v 0x12 w (illegal [spare w true true true false false, aReg (fDst w), aReg (fSa w)])
    ⟨[fSb w], [fDst w, fSa w], []⟩ (fun x => x.setA (fDst w) (x.a (fSa w) + sext48 (x.s (fSb w)))))

/-- AMOV (R181). -/
def execAmov (v : Vat) (w : Word56) (s : State) : Host.Outcome State Fault Refusal :=
  answer s (issueRegs s v 0x13 w (illegal [spare w true true false false false, aReg (fDst w), aReg (fSa w)])
    ⟨[], [fDst w, fSa w], []⟩ (fun x => x.setA (fDst w) (x.a (fSa w))))

/-- AGETL (R181). -/
def execAgetl (v : Vat) (w : Word56) (s : State) : Host.Outcome State Fault Refusal :=
  answer s (issueRegs s v 0x14 w (illegal [spare w true true false false false, aReg (fSa w)])
    ⟨[fDst w], [fSa w], []⟩ (fun x => x.setS (fDst w) ((x.a (fSa w)).setWidth 32)))

/-- AGETH (R181). -/
def execAgeth (v : Vat) (w : Word56) (s : State) : Host.Outcome State Fault Refusal :=
  answer s (issueRegs s v 0x15 w (illegal [spare w true true false false false, aReg (fSa w)])
    ⟨[fDst w], [fSa w], []⟩ (fun x => x.setS (fDst w) ((x.a (fSa w) >>> 32).setWidth 32)))

/-- MOVI (R183). -/
def execMovi (v : Vat) (w : Word56) (s : State) : Host.Outcome State Fault Refusal :=
  answer s (issueRegs s v 0x20 w (illegal [spare w true false false false true]) ⟨[fDst w], [], []⟩
    (fun x => x.setS (fDst w) (BitVec.ofNat 32 (fImm w))))

/-- ADDI (R183). -/
def execAddi (v : Vat) (w : Word56) (s : State) : Host.Outcome State Fault Refusal :=
  answer s (aluRI s v 0x21 w false (fun a i => a + i))

/-- ANDI (R183). -/
def execAndi (v : Vat) (w : Word56) (s : State) : Host.Outcome State Fault Refusal :=
  answer s (aluRI s v 0x22 w false (fun a i => a &&& i))

/-- ORI (R183). -/
def execOri (v : Vat) (w : Word56) (s : State) : Host.Outcome State Fault Refusal :=
  answer s (aluRI s v 0x23 w false (fun a i => a ||| i))

/-- XORI (R183). -/
def execXori (v : Vat) (w : Word56) (s : State) : Host.Outcome State Fault Refusal :=
  answer s (aluRI s v 0x24 w false (fun a i => a ^^^ i))

/-- SHLI (R183). -/
def execShli (v : Vat) (w : Word56) (s : State) : Host.Outcome State Fault Refusal :=
  answer s (aluRI s v 0x25 w true (fun a i => a <<< i.toNat))

/-- SHRI (R183). -/
def execShri (v : Vat) (w : Word56) (s : State) : Host.Outcome State Fault Refusal :=
  answer s (aluRI s v 0x26 w true (fun a i => a >>> i.toNat))

/-- SRAI (R183). -/
def execSrai (v : Vat) (w : Word56) (s : State) : Host.Outcome State Fault Refusal :=
  answer s (aluRI s v 0x27 w true (fun a i => a.sshiftRight i.toNat))

/-- CMPI (R182, R183). -/
def execCmpi (v : Vat) (w : Word56) (s : State) : Host.Outcome State Fault Refusal :=
  answer s (issueRegs s v 0x28 w (illegal [spare w true true false true true, pReg (fDst w), undef (decide (6 < fFn w))])
    ⟨[fSa w], [], []⟩ (fun x => x.setP (fDst w) (cond (fFn w) (x.s (fSa w)) (BitVec.ofNat 32 (fImm w)))))

/-- AMOVI (R183). -/
def execAmovi (v : Vat) (w : Word56) (s : State) : Host.Outcome State Fault Refusal :=
  answer s (issueRegs s v 0x29 w (illegal [spare w true false false false true, aReg (fDst w)]) ⟨[], [fDst w], []⟩
    (fun x => x.setA (fDst w) (BitVec.ofNat 48 (fImm w))))

/-- AMOVH (R183): IMM[31:16] must be zero. -/
def execAmovh (v : Vat) (w : Word56) (s : State) : Host.Outcome State Fault Refusal :=
  answer s (issueRegs s v 0x2A w
    (illegal [spare w true true false false true, unused (fImm w / 2 ^ 16), aReg (fDst w), aReg (fSa w)])
    ⟨[], [fDst w, fSa w], []⟩ (fun x => x.setA (fDst w) (BitVec.ofNat 48 (fImm w * 2 ^ 32 + (x.a (fSa w)).toNat % 2 ^ 32))))

/-- AADDI (R183). -/
def execAaddi (v : Vat) (w : Word56) (s : State) : Host.Outcome State Fault Refusal :=
  answer s (issueRegs s v 0x2B w (illegal [spare w true true false false true, aReg (fDst w), aReg (fSa w)])
    ⟨[], [fDst w, fSa w], []⟩ (fun x => x.setA (fDst w) (x.base (fSa w) w)))

end Sys2Proof.Machine
end

