-- ==== Sys2Proof/WellFormed.lean ====
section
/-! DEFINITION. What makes a command one that can arrive: the sizes and alignments the spec gives the things it carries. -/
namespace Sys2Proof

/-- A unit that has passed its CRC carries 240 bytes of payload (09 R350). -/
def RxUnit.wellFormed (u : RxUnit) : Bool := u.pay.length == 240

/-- The body length of a skim message's header, in bytes: BLOCKS blocks of 16 (09 R369). -/
def SkimMsg.bodyLen (m : SkimMsg) : Nat := 16 * ((m.hdr.toNat / 2 ^ 53) % 8)

/-- A skim message has at most four blocks and carries as many as its header says (R369). -/
def SkimMsg.wellFormed (m : SkimMsg) : Bool := decide (m.bodyLen ≤ 64) && m.body.length == m.bodyLen

/-- The data lengths of a CAN FD frame (14 R520, R523). -/
def canLengths : List Nat := [1, 2, 3, 4, 5, 6, 7, 8, 12, 16, 20, 24, 32, 48, 64]

/-- Opcodes to which no row of the instruction chapters gives a meaning (05 R169). -/
def undefinedOp (op : Nat) : Bool :=
  (decide (0x16 ≤ op) && decide (op ≤ 0x1F)) || (decide (0x30 ≤ op) && decide (op ≤ 0x3F)) || op == 0x46 ||
  (decide (0x48 ≤ op) && decide (op ≤ 0x4F)) || (decide (0x54 ≤ op) && decide (op ≤ 0x57)) ||
  (decide (0x68 ≤ op) && decide (op ≤ 0x7F)) || (decide (0x91 ≤ op) && decide (op ≤ 0x9F)) ||
  (decide (0xA6 ≤ op) && decide (op ≤ 0xBF)) || op == 0xC1 || op == 0xC6 || (decide (0xC8 ≤ op) && decide (op ≤ 0xFF))

/-- Whether a command is well formed. Commands not named carry nothing whose form the spec limits beyond their operand types. -/
def Instr.wellFormed (i : Instr) : Bool :=
  match i with
  | .time _ u => u.wellFormed
  | .data _ u => u.wellFormed
  | .param _ u => u.wellFormed
  | .delayReq _ u => u.wellFormed
  | .delayResp _ u => u.wellFormed
  | .retrainReq _ u => u.wellFormed
  | .resetReq _ u => u.wellFormed
  | .idle _ u => u.wellFormed
  | .sleep _ u => u.wellFormed
  | .lockstepSignature u => u.wellFormed
  | .selector _ m => m.wellFormed
  | .counterOperation _ m => m.wellFormed
  | .barrierArrival _ m => m.wellFormed
  | .barrierRelease _ m => m.wellFormed
  | .proxiedHostRequest _ m => m.wellFormed
  | .dictionaryRequest _ m => m.wellFormed
  | .watchNotification _ m => m.wellFormed
  | .faultNotice _ m => m.wellFormed
  | .reply _ m => m.wellFormed
  | .statusCompletion _ m => m.wellFormed
  | .echo _ m => m.wellFormed
  | .canRead _ f => canLengths.contains f.length
  | .canWrite _ f => canLengths.contains f.length
  | .canDesc _ f => canLengths.contains f.length
  | .canNext _ f => canLengths.contains f.length
  | .segment f => canLengths.contains f.length
  | .blockAck f => canLengths.contains f.length
  | .abort f => canLengths.contains f.length
  | .mpMailboxPost _ ws => decide (ws.length ≤ 16)
  | .resetRelease ss _ => ss.length == 8
  | .registerWrite off wide _ => off.toNat % (if wide then 8 else 4) == 0
  | .stagedHalfWrite off _ => off.toNat % 8 == 0
  | .latchedRead off => off.toNat % 4 == 0
  | .hostDramRead a n _ => decide (0 < n) && decide (a.toNat + n ≤ 2 ^ 39)
  | .hostDramWrite a d _ => decide (0 < d.length) && decide (a.toNat + d.length ≤ 2 ^ 39)
  | .hostSramRead a n => decide (0 < n) && decide (a.toNat + n ≤ 2 ^ 31)
  | .hostSramWrite a d => decide (0 < d.length) && decide (a.toNat + d.length ≤ 2 ^ 31)
  | .undefinedOpcode _ w => undefinedOp (w.toNat / 2 ^ 56)
  | _ => true

end Sys2Proof
end

