-- ==== Sys2Proof/Machine/VatControl.lean ====
section
/-! DEFINITION. Control flow, special registers, events, tick waits and pail-ready marks of a vat (05 R172, R185-R195; 02 R83-R89). -/
namespace Sys2Proof.Machine
open Sys2Proof

/-! ### Branches (R185, R186) -/

/-- A taken branch to a target, which must be a multiple of 8 in vat SRAM. -/
def branchTo (s : State) (v : Nat) (target : W48) (f : VatState → VatState) : State :=
  let pc := (s.vat v).pc.toNat
  if 0x1FFFFF < target.toNat then s.vatFault v (boundsInfo v pc target.toNat 8 4 true)
  else if target.toNat % 8 ≠ 0 then s.vatFault v (boundsInfo v pc target.toNat 8 5 true)
  else s.onVat v (fun x => (f x).branch target)

/-- 8 × sext(i, 32) as a 48-bit displacement. -/
def disp8 (w : Word56) : W48 := 8 * sext48 (BitVec.ofNat 32 (fImm w))

/-- BR. -/
def execBr (v : Vat) (w : Word56) (s : State) : Host.Outcome State Fault Refusal :=
  answer s (issue s v 0x40 w (illegal [spare w false false false false true]) ⟨[], [], []⟩
    (fun s => branchTo s v ((s.vat v).pc + disp8 w) id))

/-- BRL: the link is the address of the next instruction. -/
def execBrl (v : Vat) (w : Word56) (s : State) : Host.Outcome State Fault Refusal :=
  answer s (issue s v 0x41 w (illegal [spare w true false false false true, aReg (fDst w)]) ⟨[], [fDst w], []⟩
    (fun s => branchTo s v ((s.vat v).pc + disp8 w) (fun x => x.setA (fDst w) (x.pc + 8))))

/-- JMPA. -/
def execJmpa (v : Vat) (w : Word56) (s : State) : Host.Outcome State Fault Refusal :=
  answer s (issue s v 0x42 w (illegal [spare w false true false false true, aReg (fSa w)]) ⟨[], [fSa w], []⟩
    (fun s => branchTo s v ((s.vat v).a (fSa w) + disp8 w) id))

/-- N of a LOOP. -/
def loopN (w : Word56) : W48 := BitVec.ofNat 48 (fImm w % 65536)

/-- Starts a hardware loop, or skips its body for a count of zero (R186). -/
def loopStart (s : State) (v : Nat) (w : Word56) : State :=
  let x := s.vat v
  let n := x.s (fSa w)
  let last := x.pc + 8 * loopN w
  if n = 0 then s.setVat v { x with pc := last + 8 }
  else if x.loops.length = 4 then s.vatFault v (illegalInfo v x.pc.toNat 0x43 w 4)
  else if x.loops.head?.any (fun f => decide (f.last.toNat < x.pc.toNat + 8 * (loopN w).toNat)) then
    s.vatFault v (illegalInfo v x.pc.toNat 0x43 w 5)
  else s.setVat v { x with loops := ⟨x.pc + 8, last, n, 0⟩ :: x.loops, pc := x.pc + 8 }

/-- LOOP: i[31:16] must be zero and N at least 1. -/
def execLoop (v : Vat) (w : Word56) (s : State) : Host.Outcome State Fault Refusal :=
  answer s (issue s v 0x43 w (illegal [spare w false true false false true, unused (fImm w / 65536), undef (fImm w % 65536 == 0)])
    ⟨[fSa w], [], []⟩ (fun s => loopStart s v w))

/-- HALT: nothing more is issued; what is outstanding completes (R187, R209). Tokens that no queued array instruction keeps go back (DEDUCED, log entry 71). -/
def execHalt (v : Vat) (w : Word56) (s : State) : Host.Outcome State Fault Refusal :=
  answer s (issue s v 0x44 w (illegal [spare w false false false false false]) ⟨[], [], []⟩
    (fun s => s.onVat v (fun x => { x.retire with
      run := .halted, tokens := if x.queue.any (fun q => q.eng == .array) then x.tokens else 0 })))

/-! ### Special registers (R172, R188) -/

/-- The loop k levels out from the innermost. -/
def VatState.loopAt (x : VatState) (k : Nat) : LoopFrame := x.loops.getD k ⟨0, 0, 0, 0⟩

/-- Whether LSTAT waits for a WATCH (R174). -/
def VatState.pendLstat (x : VatState) : Bool :=
  x.results.any (fun r => r.lstat.isSome) || x.echoes.any (fun e => match e with | .watch _ => true | _ => false) ||
    x.syncq.any (fun e => match e.req with | .watch _ _ _ _ _ => true | _ => false)

/-- A special register other than CYC. -/
def State.special (s : State) (v i : Nat) : W32 :=
  let x := s.vat v
  let c := (s.vatCtx v).getD 0
  match i with
  | 0x00 => x.pc.setWidth 32
  | 0x01 => BitVec.ofNat 32 (vatId v)
  | 0x02 => BitVec.ofNat 32 c
  | 0x03 => (s.ctx c).lnid.setWidth 32
  | 0x04 => x.step.setWidth 32
  | 0x05 => (x.step >>> 32).setWidth 32
  | 0x06 => x.trel.setWidth 32
  | 0x07 => (x.trel >>> 32).setWidth 32
  | 0x09 => x.cycHi
  | 0x0A => x.lstat.setWidth 32
  | 0x0B => BitVec.ofNat 32 x.loops.length
  | _ => if i < 0x14 then (x.loopAt (i - 0x10)).index else (x.loopAt (i - 0x14)).remaining

/-- Whether a special-register index is defined. -/
def specialDefined (i : Nat) : Bool := decide (i ≤ 0x0B) || (decide (0x10 ≤ i) && decide (i ≤ 0x17))

/-- MFSR. CYC counts island cycles since launch, which no command carries: at a read of CYC_LO the count has risen by a free number since the last
read, and its upper half is latched (R9; DESIGN CHOICE, log entry 26). LSTAT waits for a WATCH under way. -/
def execMfsr (v : Vat) (w : Word56) (s : State) : Host.Outcome State Fault Refusal :=
  let i := fImm w % 256
  answer s (issue s v 0x45 w (illegal [spare w true false false false true, unused (fImm w / 256), undef (!specialDefined i)])
    ⟨[fDst w], [], []⟩ (fun s =>
      if i = 0x08 then
        let (d, s) := s.takeFree 56
        let n : W64 := (s.vat v).cyc + d.setWidth 64
        s.onVat v (fun x => ({ x with cyc := n, cycHi := (n >>> 32).setWidth 32 }.setS (fDst w) (n.setWidth 32)).retire)
      else if i = 0x0A ∧ (s.vat v).pendLstat then s
      else s.onVat v (fun x => (x.setS (fDst w) (s.special v i)).retire)))

/-! ### Events (R189) -/

/-- Sends the records of a vat's event queue to the event unit; FTIME is taken now. -/
def State.drainEvents (s : State) (v : Nat) : State :=
  let l := (s.vat v).events
  let s := s.onVat v (fun x => { x with events := [] })
  l.foldl (fun s e => s.log (srcVat v) 0x0030
    (leBytes 2 e.imm.toNat ++ leBytes 4 e.a.toNat ++ leBytes 4 e.b.toNat ++ leBytes 4 e.pc.toNat)) s

/-- EVT: a full queue of 8 stalls issue. -/
def execEvt (v : Vat) (w : Word56) (s : State) : Host.Outcome State Fault Refusal :=
  answer s (issue s v 0x47 w (illegal [spare w false true true false true, unused (fImm w / 65536)]) ⟨[fSa w, fSb w], [], []⟩
    (fun s => if 8 ≤ (s.vat v).events.length then s
      else s.onVat v (fun x => { x with
        events := x.events ++ [(⟨BitVec.ofNat 16 (fImm w), x.s (fSa w), x.s (fSb w), x.pc⟩ : VatEvent)] }.retire)))

/-! ### Tick waits (R89, R190, R191) -/

/-- A 48-bit tick as an unwrapped STIME: the one whose signed difference from STIME is in range (R13, R190). -/
def CtxState.unwrap (x : CtxState) (t : W48) : Int := x.stime - sgn 48 (wrap 48 ((x.stime : Int) - t.toNat))

/-- Whether STIME has reached a tick: a hold defers ticks at or beyond its start (R40, R89). -/
def CtxState.reached (x : CtxState) (t : W48) : Bool :=
  decide (x.unwrap t < x.stime) || (decide (x.unwrap t = x.stime) && x.executed)

/-- step_at(t): the step counter in force while tick t executes (R190, R191). -/
def CtxState.stepAt (x : CtxState) (t : W48) : W64 :=
  match x.boundaries.find? (fun b => decide ((b.1 : Int) ≤ x.unwrap t)), x.boundaries.getLast? with
  | some b, _ => b.2
  | none, some b => b.2 - 1
  | none, none => x.step

/-- Whether a tick is older than every boundary kept, after 16 of them (R191). -/
def CtxState.stale (x : CtxState) (t : W48) : Bool :=
  decide (16 ≤ x.crossed) && x.boundaries.all (fun b => decide (x.unwrap t < b.1))

/-- Wait stale: the planned tick is the target (08 R320; DEDUCED, log entry 25). -/
def waitStale (v pc : Nat) (t : W48) : FaultInfo :=
  ⟨0x1001, srcVat v, pc, leBytes 1 0x16 ++ zeros 7 ++ leBytes 6 t.toNat, true⟩

/-- TWAIT: the wait begins; TICK_WAIT_RELEASE ends it. -/
def execTwait (v : Vat) (w : Word56) (s : State) : Host.Outcome State Fault Refusal :=
  answer s (issue s v 0x50 w (illegal [spare w false true false false true, aReg (fSa w)]) ⟨[], [fSa w], []⟩
    (fun s => match s.vatCtx v with
      | none => s
      | some c =>
        let x := s.vat v
        let t := x.base (fSa w) w
        let s := if (s.ctx c).reached t then s.bump64 (Obj.twaitPassed c) 1 else s
        if (s.ctx c).stale t then s.vatFault v (waitStale v x.pc.toNat t)
        else s.onVat v (fun x => { x with run := .tickWait t })))

/-- TICK_WAIT_RELEASE: STIME has reached the tick a vat waits for. TREL takes the tick, STEP its step counter; a gated vat takes the
release when it is ungated (R178, R190). -/
def execTickWaitRelease (v : Vat) (s : State) : Host.Outcome State Fault Refusal :=
  answer s (match (s.vat v).run, s.vatCtx v with
    | .tickWait t, some c =>
      if (s.ctx c).reached t ∧ (s.vat v).gated = false then
        s.onVat v (fun x => { x with run := .issuing, trel := t, step := (s.ctx c).stepAt t }.retire)
      else s
    | _, _ => s)

/-- RDST: A[d] waits for the STIME of the cycle in which the request reaches the F-die, here the cycle of issue (R83, R192; DEDUCED, log entry 72). -/
def execRdst (v : Vat) (w : Word56) (s : State) : Host.Outcome State Fault Refusal :=
  answer s (issue s v 0x51 w (illegal [spare w true false false false false, aReg (fDst w)]) ⟨[], [fDst w], []⟩
    (fun s => s.onVat v (fun x => { x with stimes := x.stimes ++ [(fDst w, s.stime48 ((s.vatCtx v).getD 0))] }.retire)))

/-- STIME_READ_RESULT: the oldest STIME read returns. -/
def execStimeReadResult (v : Vat) (s : State) : Host.Outcome State Fault Refusal :=
  answer s (match (s.vat v).stimes with
    | [] => s
    | (d, t) :: rest => s.onVat v (fun x => { x with stimes := rest }.setA d t))

/-! ### Pail-ready marks (R85, R86, R193) -/

/-- Whether a vat-resident slot is loaded: SLOT_TABLE has 16 entries of 4 bytes per vat (R85; 13 R497). -/
def State.slotLoaded (s : State) (c v slot : Nat) : Bool := bitOf (s.domLe (Obj.slotTable c) (64 * v + 4 * slot) 4) 31

/-- PREADY: reserved bits must be zero; the page or slot must be the context's; a full mark queue of 4 stalls issue. -/
def execPready (v : Vat) (w : Word56) (s : State) : Host.Outcome State Fault Refusal :=
  answer s (issue s v 0x52 w (illegal [spare w false true true false true, unused (fld (fImm w) 24 7 + fld (fImm w) 15 1)])
    ⟨[fSa w, fSb w], [], []⟩ (fun s =>
      let x := s.vat v
      let c := (s.vatCtx v).getD 0
      let slot := bitOf (fImm w) 31
      let n := (fImm w % 32768 + (x.s (fSa w)).toNat) % 2 ^ 32
      let g := BitVec.ofNat 8 (fld (fImm w) 16 8 + (x.s (fSb w)).toNat)
      if !slot && s.pageKind c n != 1 then s.vatFault v (boundsInfo v x.pc.toNat n 0 6 true)
      else if slot && !(decide (n ≤ 15) && s.slotLoaded c v n) then s.vatFault v (boundsInfo v x.pc.toNat n 0 7 true)
      else if 4 ≤ x.marks.length then s
      else s.setVat v { x with marks := x.marks ++ [(⟨slot, n, g, x.nextAge⟩ : Mark)], nextAge := x.nextAge + 1 }.retire))

/-- Whether a mark of a slot that a gated write stream of the vat uses waits for an engine's write into the vat's own SRAM (07 R273). -/
def State.gateWaits (s : State) (v : Nat) (m : Mark) : Bool :=
  m.slot && (s.vat v).olderOwnWrite m.age && (match s.vatCtx v with
    | some c => s.usedAsGate c (vatId v) m.num
    | none => false)

/-- PAIL_READY_MARK: a vat's oldest mark reaches the F-die, after the transfer-engine writes before it (R86, R179; 07 R273). The generation it
carries replaces the page's or the slot's. -/
def execPailReadyMark (v : Vat) (s : State) : Host.Outcome State Fault Refusal :=
  answer s (match (s.vat v).marks with
    | [] => s
    | m :: rest =>
      if (s.vat v).olderPailWrite m.age || s.gateWaits v m then s
      else
        let s := s.onVat v (fun x => { x with marks := rest })
        let s := if m.slot then s.onVat v (fun x => { x with slotGen := Tab.set (fun _ => 0) x.slotGen m.num m.gen })
          else s.setPageGen m.num m.gen
        s.runSync v)

/-- UNDEFINED_OPCODE: an opcode byte the set does not define is ILLEGAL_INSTRUCTION with reason 1 (R169, R176). The whole word is given; one whose
opcode is defined is no such instruction. -/
def execUndefinedOpcode (v : Vat) (w : W64) (s : State) : Host.Outcome State Fault Refusal :=
  answer s (if undefinedOp (w.toNat / 2 ^ 56) then issue s v (w.toNat / 2 ^ 56) (w.setWidth 56) (some 1) ⟨[], [], []⟩ id else s)

end Sys2Proof.Machine
end

