-- ==== Sys2Proof/Machine/Plan.lean ====
section
/-! DEFINITION. The schedule's chain of segments: places, boundaries and what is known of them ahead of time, selectors, budget variants at a
boundary, and SEL (01 R23-R28; 05 R194; 08 R301, R326; 12 R442-R446). -/
namespace Sys2Proof.Machine
open Sys2Proof

/-! ### The chain (R23, R24, R326) -/

/-- How the schedule passes from one repetition to the next. -/
inductive Passage where
  | within                               -- a further repetition, or a fall-through
  | boundary (j : Nat)                   -- a phase boundary that took continuation j
  | switch                               -- the tick of an epoch switch
  deriving DecidableEq, Repr

/-- What follows a repetition. -/
inductive Next where
  | place (p : Place) (how : Passage)
  | ended
  | undecided
  deriving DecidableEq, Repr

/-- The value of the selector kept for the boundary that ends a step. -/
def CtxState.selectorFor (x : CtxState) (step : W64) : Option Nat :=
  (x.selectors.find? (fun e => e.step == step.setWidth 32)).map (fun e => e.value.toNat)

/-- The continuation a boundary takes, where it is known: the only one, or the one a valid selector names (R24, R26). -/
def CtxState.choice (x : CtxState) (g : SegEntry) (step : W64) : Option Nat :=
  if g.ncont = 1 then some 0
  else match x.selectorFor step with
    | some v => if v < g.ncont then some v else none
    | none => none

/-- The armed switch, if σ lies after the start of a repetition of the bank in use and no later than a tick. -/
def State.switchIn (s : State) (c : Nat) (p : Place) (e : Nat) : Option (Nat × Nat) :=
  match (s.ctx c).switch with
  | some (sigma, seg) => if p.bank = s.activeBank c ∧ p.t0 < sigma ∧ sigma ≤ e then some (sigma, seg) else none
  | none => none

/-- The place a switch starts. -/
def switchPlace (p : Place) (sigma seg : Nat) : Place := ⟨1 - p.bank, seg, 0, sigma, p.step + 1⟩

/-- What follows the end of a segment at a tick. -/
def State.afterSegment (s : State) (c : Nat) (p : Place) (g : SegEntry) (e : Nat) : Next :=
  if g.fin = 0 then .place ⟨p.bank, g.next, 0, e, p.step⟩ .within
  else if g.fin = 2 then .ended
  else match (s.ctx c).choice g p.step with
    | some j => .place ⟨p.bank, g.conts.getD j 0, 0, e, p.step + 1⟩ (.boundary j)
    | none => .undecided

/-- The tick on which a repetition ends; a switch may cut it. `sw` says whether an armed switch is followed. -/
def State.placeEnd (s : State) (c : Nat) (sw : Bool) (p : Place) : Nat :=
  let e := p.t0 + (s.seg c p.bank p.seg).len
  match if sw then s.switchIn c p e else none with
  | some (sigma, _) => sigma
  | none => e

/-- What follows a repetition. -/
def State.nextPlace (s : State) (c : Nat) (sw : Bool) (p : Place) : Next :=
  let g := s.seg c p.bank p.seg
  let e := p.t0 + g.len
  match if sw then s.switchIn c p e else none with
  | some (sigma, seg) => .place (switchPlace p sigma seg) .switch
  | none => if p.rep + 1 < g.rep then .place { p with rep := p.rep + 1, t0 := e } .within else s.afterSegment c p g e

/-- The repetitions that begin no later than a tick, from a place on; and the tick of an undecided boundary that comes no later. -/
def State.walk (s : State) (c : Nat) (sw : Bool) : Nat → Place → Nat → List Place × Option Nat
  | 0, _, _ => ([], none)
  | n + 1, p, h =>
    if h < p.t0 then ([], none)
    else match s.nextPlace c sw p with
      | .place q _ =>
        let (l, u) := State.walk s c sw n q h
        (p :: l, u)
      | .ended => ([p], none)
      | .undecided => ([p], if s.placeEnd c sw p ≤ h then some (s.placeEnd c sw p) else none)

/-- The repetitions a context knows up to a tick, the present one first. -/
def State.known (s : State) (c : Nat) (sw : Bool) (h : Nat) : List Place × Option Nat :=
  match (s.ctx c).place with
  | some p => s.walk c sw (h + 2 - p.t0) p h
  | none => ([], none)

/-- The phase boundary that ends a step, where it is known: its segment's place and its tick. Each round passes one segment. -/
def State.boundaryFrom (s : State) (c : Nat) (k : W32) : Nat → Place → Option (Place × Nat)
  | 0, _ => none
  | n + 1, p =>
    let g := s.seg c p.bank p.seg
    let e := p.t0 + (g.rep - p.rep) * g.len
    match s.switchIn c p e with
    | some (sigma, seg) => if p.step.setWidth 32 = k then none else State.boundaryFrom s c k n (switchPlace p sigma seg)
    | none =>
      if g.fin = 1 ∧ p.step.setWidth 32 = k then some (p, e)
      else match s.afterSegment c p g e with
        | .place q _ => State.boundaryFrom s c k n q
        | _ => none

/-- The same from the present place; a chain passes each segment at most once per boundary, and four boundaries matter (R27). -/
def State.boundaryOf (s : State) (c : Nat) (k : W32) : Option (Place × Nat) :=
  match (s.ctx c).place with
  | some p => s.boundaryFrom c k (5 * s.obj (Obj.segCount c) + 5) p
  | none => none

/-! ### Selectors (R26-R28, R194) -/

/-- A selector names a continuation its segment does not define (R27; 11 R412 structure 12): it is discarded. -/
def State.badSelector (s : State) (c : Nat) (p : Place) (v : Nat) : State :=
  let s := s.onCtx c (fun x => { x with selectors := x.selectors.filter (fun e => e.step != p.step.setWidth 32) })
  s.fault c ⟨0x2005, srcSched c, 0, zeros 6 ++ [12, 2] ++ leBytes 4 p.seg ++ leBytes 1 v, false⟩

/-- Checks each kept selector against its boundary's segment, as soon as that is known (R27): on arrival, and at every tick's look ahead. -/
def State.checkSelectors (s : State) (c : Nat) : State :=
  (s.ctx c).selectors.foldl (fun s e =>
    match s.boundaryOf c e.step with
    | some (p, _) => if (s.seg c p.bank p.seg).ncont ≤ e.value.toNat then s.badSelector c p e.value.toNat else s
    | none => s) s

/-- Detail of a selector event. The margin counts to the boundary; where the boundary is not known it is a free value (DESIGN CHOICE, log entry 31). -/
def State.selectorEvent (s : State) (c code : Nat) (k : W32) (v later : Nat) : State :=
  let (margin, s) : List Byte × State := match s.boundaryOf c k with
    | some (_, e) => (leBytes 4 (wrap 32 ((e : Int) - (s.ctx c).stime)), s)
    | none =>
      let (m, s) := s.takeFree 32
      (leBytes 4 m.toNat, s)
  s.log (srcSched c) code (leBytes 4 k.toNat ++ leBytes 1 v ++ leBytes 1 later ++ zeros 2 ++ margin)

/-- Takes in a selector: up to four boundaries ahead are kept, the first for a step stands (R27, R194). -/
def State.keepSelector (s : State) (c : Nat) (k : W32) (v : Nat) : State :=
  let x := s.ctx c
  if !x.busy then s
  else if 4 ≤ (k - x.step.setWidth 32).toNat then s.selectorEvent c 0x0013 k v 0
  else match x.selectors.find? (fun e => e.step == k) with
    | some old =>
      if old.value.toNat = v then s
      else (s.bump32 (Obj.selectConflict c) 1).selectorEvent c 0x0014 k old.value.toNat v
    | none =>
      let s := s.selectorEvent c 0x0012 k v 0
      (s.onCtx c (fun x => { x with selectors := x.selectors ++ [(⟨k, BitVec.ofNat 4 v⟩ : Selector)] })).checkSelectors c

/-- Emits a selector: broadcast to every module of the job, this one included (R26, R194). -/
def State.emitSelector (s : State) (c : Nat) (k : W32) (v : Nat) : State :=
  (s.broadcast c 0x12 (leBytes 4 k.toNat ++ leBytes 1 v)).keepSelector c k v

/-- SEL: the selector for the boundary i[1:0] steps on from the vat's last tick-wait release; i[31:2] must be zero (R194). -/
def execSel (v : Vat) (w : Word56) (s : State) : Host.Outcome State Fault Refusal :=
  answer s (issue s v 0x53 w (illegal [spare w false true false false true, unused (fImm w / 4)]) ⟨[fSa w], [], []⟩
    (fun s =>
      let x := s.vat v
      let c := (s.vatCtx v).getD 0
      let s := s.onVat v (fun x => x.retire)
      s.emitSelector c ((x.step + BitVec.ofNat 64 (fImm w)).setWidth 32) ((x.s (fSa w)).toNat % 16)))

/-! ### Budget variants (12 R442-R446) -/

/-- A record of VARIANT_TABLE: PWORK, the two ceilings, FREQ. -/
def State.variantRec (s : State) (c j : Nat) : Nat × Nat × Nat × Nat :=
  let r := s.dom (Obj.variantTable c) (16 * j) 16
  (leAt r 0 2, leAt r 2 2, leAt r 4 2, leAt r 6 2)

/-- The members of a job: LNIDs with a valid route entry. -/
def State.members (s : State) (c : Nat) : List Nat :=
  (List.range (s.obj (Obj.routeCount c))).filter (fun l => routeV (s.routeEntry c (s.activeBank c) l))

/-- The budget leader: the lowest member (R445). -/
def State.leader (s : State) (c : Nat) : Option Nat := (s.members c).head?

/-- Whether this module leads. -/
def State.leads (s : State) (c : Nat) : Bool := s.leader c == some (s.ctx c).lnid.toNat

/-- The entry of a member: LAUNCH_VARIANT until a report replaces it (R446). -/
def State.reportOf (s : State) (c l : Nat) : Nat := Tab.get (fun _ => s.obj (Obj.launchVariant c)) (s.ctx c).reports l

/-- JOB_VARIANT: the least entry; on a module that does not lead it reads zero (R468). -/
def State.jobVariant (s : State) (c : Nat) : Nat :=
  if s.leads c && (s.ctx c).busy then (s.members c).foldl (fun m l => min m (s.reportOf c l)) (s.reportOf c (s.ctx c).lnid.toNat) else 0

/-- θ falls to 0: the THROTTLE event carries the peak and the time throttled (R449). -/
def State.endThrottle (s : State) : State :=
  if s.power.theta = 0 then s
  else
    let s' := { s with power := { s.power with theta := 0, peak := 0, throttled := 0 } }
    s'.log srcPower 0x0093 (leBytes 1 2 ++ leBytes 1 s.power.peak ++ zeros 2 ++ leBytes 4 (100 * s.power.throttled))

/-- Gives a context the settings of variant j at a tick; lower ones wait out TOKEN_GRACE, higher ones count at once (R95, R443). -/
def State.setVariant (s : State) (c j t : Nat) : State :=
  let x := s.ctx c
  let (_, c0, c1, f) := s.variantRec c j
  let old : Grace := ⟨t + s.obj Obj.tokenGrace, x.ceil0, x.ceil1, x.freq⟩
  let s := if j = x.variant then s
    else s.endThrottle.log (srcSched c) 0x0092 (leBytes 4 (x.step.toNat % 2 ^ 32) ++ leBytes 1 x.variant ++ leBytes 1 j)
  let grace := if c0 < old.ceil0 ∨ c1 < old.ceil1 ∨ f ≠ old.freq then x.grace ++ [old] else x.grace
  (s.onCtx c (fun x => { x with variant := j, ceil0 := c0, ceil1 := c1, freq := f, grace := grace })).settleIslands

/-- The leader emits the selector of a budget boundary once its LAMBDA has come (R446). The chain is followed over the boundaries a module
keeps selectors for. -/
def State.emitBudget (s : State) (c : Nat) : State :=
  if !s.leads c then s
  else (List.range 4).foldl (fun s d =>
    let x := s.ctx c
    let k := x.step.setWidth 32 + BitVec.ofNat 32 d
    match s.boundaryOf c k with
    | some (p, e) =>
      let g := s.seg c p.bank p.seg
      if g.selsrc = 1 ∧ e ≤ x.stime + g.lambda ∧ !x.emitted.contains k then
        (s.onCtx c (fun x => { x with emitted := k :: x.emitted.take 7 })).emitSelector c k (min (s.jobVariant c) (g.ncont - 1))
      else s
    | none => s) s

end Sys2Proof.Machine
end

