-- ==== Sys2Proof/Machine/Dram.lean ====
section
/-! DEFINITION. Memory streams: descriptors, addresses, channel slots, bank timing, issue and completion, end-to-end ECC, refresh and the
host's windows (07). -/
namespace Sys2Proof.Machine
open Sys2Proof

/-! ### Addresses (R255-R259, R261) -/

/-- Byte within the channel-interleaved frame k of an offset: channel within the die, channel-local offset (R258). -/
def interleave (mode k o : Nat) : Nat × Nat :=
  match mode with
  | 0 => (fld o 8 5, k * 2 ^ 25 + fld o 13 17 * 256 + fld o 0 8)
  | 1 => (fld o 12 5, k * 2 ^ 25 + fld o 17 13 * 4096 + fld o 0 12)
  | _ => (fld o 25 5, k * 2 ^ 25 + fld o 0 25)

/-- Physical address of a byte of a channel (R255). -/
def physical (ch x : Nat) : Nat := ch * 2 ^ 33 + x

/-- Physical address of a job address, or the kind of DRAM_BOUNDS (R258, R261, R281). -/
def State.translate (s : State) (c : Nat) (ja : Int) : Except Nat Nat :=
  if ja < 0 ∨ (2 ^ 39 : Int) ≤ ja then .error 4
  else
    let a := ja.toNat
    let e := s.domLe (Obj.frameMap c) (4 * (a / 2 ^ 30)) 4
    if !bitOf e 31 then .error 3
    else
      let (ch, x) := interleave (s.obj (Obj.dramInterleave c)) (fld e 0 8) (a % 2 ^ 30)
      .ok (physical (32 * fld e 8 1 + ch) x)

/-- Channel of a physical address. -/
def paChannel (pa : Nat) : Nat := fld pa 33 6
/-- Row. -/
def paRow (pa : Nat) : Nat := fld pa 17 16
/-- Rank. -/
def paRank (pa : Nat) : Nat := fld pa 16 1
/-- Bank. -/
def paBank (pa : Nat) : Nat := fld pa 12 4
/-- Column. -/
def paColumn (pa : Nat) : Nat := fld pa 6 6

/-! ### Stream descriptors (R270, R271) -/

/-- A descriptor from its 64 bytes. -/
def streamDecode (r : List Byte) : StreamDesc :=
  let jbase := leAt r 0 6
  let seg := leAt r 6 2
  let vat := leAt r 18 2
  let vb := leAt r 20 4
  let sync := leAt r 48 2
  { jbase := jbase, seg := seg % 4096, start := leAt r 8 4, spacing := leAt r 12 2, write := bitOf (leAt r 14 1) 0,
    gated := bitOf (leAt r 14 1) 1, gate := leAt r 15 1 % 16, gen := leAt r 16 1, vatID := vat % 512, vbase := vb % 2 ^ 21,
    count0 := leAt r 24 4, count1 := leAt r 28 2, count2 := leAt r 30 2, stride1 := sgn 32 (leAt r 32 4), stride2 := sgn 32 (leAt r 36 4),
    rincD := sgn 32 (leAt r 40 4), rincV := sgn 32 (leAt r 44 4), signal := bitOf sync 15, vid := sync % 4096,
    bad := decide (jbase % 64 ≠ 0) || decide (2 ^ 39 ≤ jbase) || decide (4096 ≤ seg) || decide (leAt r 12 2 = 0) ||
      decide (4096 < leAt r 12 2) || decide (4 ≤ leAt r 14 1) || decide (16 ≤ leAt r 15 1) || decide (leAt r 17 1 ≠ 0) ||
      decide (512 ≤ vat) || decide (vb % 64 ≠ 0) || decide (2 ^ 21 ≤ vb) || decide (leAt r 24 4 = 0) || decide (leAt r 28 2 = 0) ||
      decide (leAt r 30 2 = 0) || fld sync 12 3 != 0 || decide (leAt r 50 14 ≠ 0) }

/-- The stream table of a die in a bank. -/
def streamBank (die b : Nat) : Nat := if die = 0 then Obj.streamBankD0 b else Obj.streamBankD1 b

/-- The granules of a run. -/
def StreamDesc.total (d : StreamDesc) : Nat := d.count0 * d.count1 * d.count2

/-- Job address of granule n in repetition k. -/
def StreamDesc.ja (d : StreamDesc) (k n : Nat) : Int :=
  let i0 : Int := (n % d.count0 : Nat)
  let i1 : Int := (n / d.count0 % d.count1 : Nat)
  let i2 : Int := (n / (d.count0 * d.count1) : Nat)
  d.jbase + 64 * (i0 + i1 * d.stride1 + i2 * d.stride2 + k * d.rincD)

/-- Vat SRAM address of granule n in repetition k. -/
def StreamDesc.va (d : StreamDesc) (k n : Nat) : Int := d.vbase + 64 * (n + k * d.rincV)

/-- What is wrong with the addresses of a granule, if anything: DRAM_BOUNDS by its kind first, then SRAM_BOUNDS. -/
inductive GranuleBad where
  | dram (kind : Nat)
  | sram
  deriving DecidableEq, Repr

/-- The address check of a granule (R261, R271). -/
def State.granuleBad (s : State) (c : Nat) (d : StreamDesc) (k n : Nat) : Option GranuleBad :=
  match s.translate c (d.ja k n) with
  | .error kind => some (.dram kind)
  | .ok _ => if d.va k n < 0 ∨ 0x1FFFC0 < d.va k n then some .sram else none

/-- The physical address of a granule that passes its check. -/
def State.granulePa (s : State) (c : Nat) (d : StreamDesc) (k n : Nat) : Nat :=
  match s.translate c (d.ja k n) with
  | .ok pa => pa
  | .error _ => 0

/-- The first granule of a run whose addresses are bad, looked for among the n granules from `m` on. -/
def State.firstBad (s : State) (c : Nat) (d : StreamDesc) (k : Nat) : Nat → Nat → Option (Nat × GranuleBad)
  | 0, _ => none
  | n + 1, m =>
    match s.granuleBad c d k m with
    | some b => some (m, b)
    | none => State.firstBad s c d k n (m + 1)

/-- The j-th granule of a run on a channel, among the n granules from `m` on. -/
def State.nthOn (s : State) (c : Nat) (d : StreamDesc) (k ch : Nat) : Nat → Nat → Nat → Option Nat
  | 0, _, _ => none
  | n + 1, m, j =>
    if paChannel (s.granulePa c d k m) = ch then (if j = 0 then some m else State.nthOn s c d k ch n (m + 1) (j - 1))
    else State.nthOn s c d k ch n (m + 1) j

/-! ### Channel slots (R262, R263, R266) -/

/-- The tick a slot begins in, at the rate in force (DEDUCED, log entry 85). -/
def State.slotTick (s : State) (n : Nat) : Nat := if s.mem.rate = 1 then 3 * n / 4 else n

/-- Whether a slot is reserved for unscheduled access. -/
def slotReserved (n : Nat) : Bool := n % 16 == 15

/-- Stream slots before a slot. -/
def streamIndex (n : Nat) : Nat := n - n / 16

/-- The first stream slot that begins no earlier than a tick, counted in stream slots. A slot of a tick begins at or after its first cycle. -/
def State.firstSlot (s : State) (ts : Nat) : Nat :=
  let n := if s.mem.rate = 1 then ceilDiv (4 * ts) 3 else ts
  streamIndex (if slotReserved n then n + 1 else n)

/-- Slot of a stream slot. -/
def slotOf (q : Nat) : Nat := q + q / 15

/-- Costs of R266 in the table's order: activate to granule, activates of one bank, of one rank, four in a rank, last read to activate,
last write to activate, read to write, write to read of one rank, of another, read to read of another rank. -/
def State.costs (s : State) : List Nat := if s.mem.rate = 1 then [10, 32, 3, 12, 12, 18, 5, 7, 3, 2] else [8, 24, 2, 9, 9, 14, 4, 5, 3, 2]

/-- A slot as it is kept in the state: shifted, so that an activate ahead of slot 0 has a number too, and 0 stands for none. -/
def kept (n : Nat) : Nat := n + 16

/-- A bank the controller has not used since launch. -/
def BankTime.reset : BankTime := ⟨none, 0, 0, 0⟩

/-- What the controller knows of a bank. -/
def State.bankTime (s : State) (ch rank bank : Nat) : BankTime :=
  Tab.get (fun _ => BankTime.reset) s.mem.banks (32 * ch + 16 * rank + bank)

/-- Whether a kept slot is at least n slots before another; a slot that stands for none always is. -/
def apart (now last n : Nat) : Bool := last == 0 || decide (last + n ≤ now)

/-- Whether a slot's tick lies in the planned refresh of a bank (R276). -/
def State.refreshing (s : State) (slot bank : Nat) : Bool :=
  let t := s.slotTick slot
  decide (t % 45 < 40) && t / 45 % 16 == bank

/-- Whether a granule at a slot, and the activate it needs, keep R266 and the planned refresh (R268). -/
def State.timely (s : State) (ch slot pa : Nat) (write : Bool) : Bool :=
  let cost := fun i => s.costs.getD i 0
  let rank := paRank pa
  let bank := paBank pa
  let b := s.bankTime ch rank bank
  let now := kept slot
  let act := now - cost 0
  let acts := Tab.get (fun _ => []) s.mem.acts (2 * ch + rank)
  let last := fun (t : List (Nat × Nat)) (r : Nat) => Tab.get (fun _ => 0) t (2 * ch + r)
  let opens := b.row != some (paRow pa)
  let actOk := apart act b.act (cost 1) && apart act (acts.headD 0) (cost 2) && apart act (acts.getD 3 0) (cost 3) &&
    apart act b.rd (cost 4) && apart act b.wr (cost 5) && (decide (act < 16) || !s.refreshing (act - 16) bank)
  (!opens || actOk) && !s.refreshing slot bank &&
    (if write then apart now (max (last s.mem.lastRd 0) (last s.mem.lastRd 1)) (cost 6)
      else apart now (last s.mem.lastWr rank) (cost 7) && apart now (last s.mem.lastWr (1 - rank)) (cost 8) &&
        apart now (last s.mem.lastRd (1 - rank)) (cost 9))

/-- Notes an issued granule, and its activate, in the controller. -/
def State.noteGranule (s : State) (ch slot pa : Nat) (write : Bool) : State :=
  let rank := paRank pa
  let key := 32 * ch + 16 * rank + paBank pa
  let b := s.bankTime ch rank (paBank pa)
  let now := kept slot
  let act := now - s.costs.getD 0 0
  let opens := b.row != some (paRow pa)
  let b := if opens then { b with row := some (paRow pa), act := act } else b
  let b := if write then { b with wr := now } else { b with rd := now }
  let old := Tab.get (fun _ => []) s.mem.acts (2 * ch + rank)
  let acts := if opens then (act :: old).take 4 else old
  let m := s.mem
  let m := { m with banks := Tab.set (fun _ => BankTime.reset) m.banks key b }
  let m := { m with acts := Tab.set (fun _ => []) m.acts (2 * ch + rank) acts }
  { s with mem := if write then { m with lastWr := Tab.set (fun _ => 0) m.lastWr (2 * ch + rank) now }
    else { m with lastRd := Tab.set (fun _ => 0) m.lastRd (2 * ch + rank) now } }

/-! ### Faults of streams (R281) -/

/-- Detail bytes 0-9: a sector. -/
def sectorDetail (pa : Nat) : List Byte :=
  leBytes 5 (pa / 32 * 32) ++ leBytes 1 (fld pa 5 1 + 2 * paRank pa) ++ leBytes 1 (paBank pa) ++ leBytes 1 (paColumn pa) ++ leBytes 2 (paRow pa)

/-- Raises a stream fault: the unit is the stream's vat, the entry its descriptor. -/
def State.streamFault (s : State) (r : StreamRun) (code : Nat) (detail : List Byte) : State :=
  let d := r.desc
  s.fault r.ctx ⟨code, 0x1000 + d.vatID, r.idx, detail, false⟩

/-- Detail of a granule: the sector where one is reached, the kind, job address, descriptor, granule index. -/
def granuleDetail (sector : List Byte) (kind : Nat) (ja : Int) (idx n : Nat) : List Byte :=
  padTo 10 sector ++ leBytes 1 kind ++ [0] ++ leBytes 6 (wrap 48 ja) ++ leBytes 2 idx ++ leBytes 4 n

/-- Replaces a run in the list of streams; runs are told apart by die, bank, descriptor, context and start. -/
def State.setRun (s : State) (r : StreamRun) : State :=
  { s with mem := { s.mem with streams := s.mem.streams.map (fun y =>
      if y.die = r.die ∧ y.bank = r.bank ∧ y.idx = r.idx ∧ y.ts = r.ts ∧ y.ctx = r.ctx ∧ y.k = r.k then r else y) } }

/-- A run stops at a granule whose addresses are bad (DEDUCED, log entry 32). -/
def State.raiseBad (s : State) (r : StreamRun) (n : Nat) (b : GranuleBad) : State :=
  let d := r.desc
  let s := s.setRun { r with dead := true }
  match b with
  | .dram kind => s.streamFault r 0x5002 (granuleDetail [] kind (d.ja r.k n) r.idx n)
  | .sram => s.streamFault r 0x2004 (leBytes 6 (wrap 48 (d.va r.k n)) ++ leBytes 1 64 ++ leBytes 1 0x80)

/-- The granules a run may issue: those before its first bad one. -/
def State.runLength (s : State) (r : StreamRun) : Nat :=
  let d := r.desc
  match s.firstBad r.ctx d r.k d.total 0 with
  | some (n, _) => n
  | none => d.total

/-- Raises the address fault of a run that has issued everything before it (DEDUCED, log entry 32). -/
def State.stopRun (s : State) (r : StreamRun) : State :=
  let d := r.desc
  if r.dead || !r.begun then s
  else match s.firstBad r.ctx d r.k d.total 0 with
    | some (n, b) => if n ≤ r.i then s.raiseBad r n b else s
    | none => s

/-- The channel slot of granule n of a run: its place among the run's granules on its channel, times SPACING. -/
def State.granuleSlot (s : State) (r : StreamRun) (n : Nat) : Nat :=
  let d := r.desc
  let ch := paChannel (s.granulePa r.ctx d r.k n)
  let j := ((List.range n).filter (fun m => paChannel (s.granulePa r.ctx d r.k m) == ch)).length
  slotOf (r.slot + j * d.spacing)

/-! ### Runs (R270, R271, R274) -/

/-- The runs a repetition starts: one for each descriptor of its segment on the dies the context owns (R271). -/
def State.startRuns (s : State) (c : Nat) (p : Place) : State :=
  let runs := [0, 1].flatMap (fun die =>
    ((s.streamRecords c p.bank die).filter (fun e => s.obj (Obj.streamOwner die) == c && (streamDecode e.2).seg == p.seg)).map (fun e =>
      let d := streamDecode e.2
      let ts := p.t0 + d.start
      (⟨c, die, p.bank, e.1, p.rep, ts, s.firstSlot ts, 0, 0, false, false, [], d⟩ : StreamRun)))
  { s with mem := { s.mem with streams := s.mem.streams ++ runs } }

/-- A run holds an instance from its start until its last granule is complete, or until it has stopped and its issued granules are. -/
def StreamRun.live (r : StreamRun) : Bool := r.begun && !(r.dead && r.i == r.done)

/-- The start tick of a run executes: it takes an instance; a 65th of a die is refused (R274). -/
def State.beginRun (s : State) (r : StreamRun) : State :=
  if 64 ≤ (s.mem.streams.filter (fun y => y.die == r.die && y.live)).length then
    (s.setRun { r with begun := true, dead := true }).streamFault r 0x1001 (zeros 10 ++ [7] ++ zeros 7 ++ leBytes 2 r.idx)
  else
    let r := { r with begun := true }
    (s.setRun r).stopRun r

/-- Runs whose start is a tick begin. -/
def State.beginRuns (s : State) (c t : Nat) : State :=
  (s.mem.streams.filter (fun r => r.ctx == c && !r.begun && r.ts == t)).foldl (fun s r => s.beginRun r) s

/-- BAR4 offset of granule n of a run. -/
def State.granuleSram (_ : State) (r : StreamRun) (n : Nat) : Nat :=
  let d := r.desc
  match vatOfId d.vatID with
  | some v => vatBase v + (d.va r.k n).toNat
  | none => 0

/-- Write data of granules whose slot lies in or before a tick is fetched from vat SRAM, once (R272). -/
def State.fetchRun (s : State) (r : StreamRun) (h : Nat) : State :=
  let d := r.desc
  if !d.write || r.dead then s
  else
    let due := (List.range (s.runLength r)).filter (fun n => decide (s.slotTick (s.granuleSlot r n) ≤ h) && r.fetch.all (fun e => e.1 != n))
    s.setRun { r with fetch := r.fetch ++ due.map (fun n => (n, s.sramRead (s.granuleSram r n) 64)) }

/-- Fetches WFETCH_LEAD ahead of a tick for every run of a context. -/
def State.fetchRuns (s : State) (c t : Nat) : State :=
  (s.mem.streams.filter (fun r => r.ctx == c)).foldl (fun s r => s.fetchRun r (t + s.obj Obj.wfetchLead)) s

/-- Whether what the active bank plans from a tick on never begins: an armed switch comes first (08 R327). -/
def State.superseded (s : State) (c bank t : Nat) : Bool :=
  match (s.ctx c).switch with
  | some (sigma, _) => bank == s.activeBank c && decide (sigma ≤ t)
  | none => false

/-- The gated write runs of a context that start at a tick and whose slot does not stand at its generation: vat, expected, found (R273). -/
def State.unreadyRuns (s : State) (c t : Nat) : List (StreamRun × Nat) :=
  (s.mem.streams.filter (fun r => r.ctx == c && r.ts == t && (r.begun || !s.superseded c r.bank t))).filterMap (fun r =>
    let d := r.desc
    match vatOfId d.vatID with
    | some v => if d.write && d.gated && (Tab.get (fun _ => (0 : Byte)) (s.vat v).slotGen d.gate).toNat != (d.gen + r.k) % 256 then some (r, v) else none
    | none => none)

/-! ### Issue (R262-R268, R271) -/

/-- The run's granule for a channel's stream slot, if it has one there. -/
def State.granuleAt (s : State) (r : StreamRun) (ch q : Nat) : Option Nat :=
  let d := r.desc
  if r.dead || !r.begun || decide (q < r.slot) || decide ((q - r.slot) % d.spacing ≠ 0) then none
  else s.nthOn r.ctx d r.k ch (s.runLength r) 0 ((q - r.slot) / d.spacing)

/-- The granules of a phase that lock-step signs, kept in slot order (11 R430). -/
def insertGranule (x : Nat × Nat × List Byte) : List (Nat × Nat × List Byte) → List (Nat × Nat × List Byte)
  | [] => [x]
  | y :: t => if x.1 < y.1 ∨ (x.1 = y.1 ∧ x.2.1 < y.2.1) then x :: y :: t else y :: insertGranule x t

/-- Whether the comparator signs a context: until its job's end, which closes the last phase (R429, R430; DEDUCED, log entry 84). -/
def State.signs (s : State) (c : Nat) : Bool :=
  s.obj Obj.lockstepEnable == 1 && s.obj Obj.lockstepCtx == c && (s.ctx c).job == .running

/-- A write to a granule drops the write-back of a sector in it that the patrol has corrected (R282). -/
def State.dropFix (s : State) (pa : Nat) : State :=
  { s with mem := { s.mem with fixes := s.mem.fixes.filter (fun e => e.2 / 64 != pa / 64) } }

/-- Issues granule n of a run. A write's bytes stand in DRAM for every later slot; a read's bytes are those of its slot (R272). Bytes that
were fetched for a gate found late are fetched again (DEDUCED, log entry 33). -/
def State.issueGranule (s : State) (r : StreamRun) (ch slot n : Nat) : State :=
  let d := r.desc
  let pa := s.granulePa r.ctx d r.k n
  let va := s.granuleSram r n
  let ja := (d.ja r.k n).toNat
  let late := (s.ctx r.ctx).raised.any (fun e => e.2 == .lateVat r.ts)
  let data := if d.write then
      (if late then s.sramRead va 64 else match r.fetch.find? (fun e => e.1 == n) with
        | some e => e.2
        | none => s.sramRead va 64)
    else s.dramRead pa 64
  let s := s.noteGranule ch slot pa d.write
  let s := if d.write then (s.dropFix pa).dramWrite pa data else s
  let s := if d.write && s.signs r.ctx then
    { s with lock := { s.lock with grans := insertGranule (slot, ch, leBytes 6 ja ++ data) s.lock.grans } } else s
  let r := { r with i := r.i + 1, fetch := r.fetch.filter (fun e => e.1 != n) }
  let g : Granule := ⟨ch, r.ctx, r.die, r.bank, r.idx, r.k, r.ts, true, n, !d.write, pa, ja, va, data⟩
  let s := { s with mem := { s.mem with issued := s.mem.issued ++ [g] } }
  (s.setRun r).stopRun r

/-- A stream slot of a channel: the granule planned for it is checked and issued; of two, the one of the earlier run (R268; DEDUCED, log entry 34). -/
def State.streamSlot (s : State) (c ch n : Nat) : State :=
  let due := (s.mem.streams.filter (fun r => r.ctx == c)).filterMap (fun r => (s.granuleAt r ch (streamIndex n)).map (fun g => (r, g)))
  match due with
  | [] => s
  | (r, g) :: rest =>
    let d := r.desc
    let pa := s.granulePa c d r.k g
    let s := rest.foldl (fun s e =>
      (s.setRun { e.1 with dead := true }).streamFault r 0x1002
        ((granuleDetail (sectorDetail pa) 6 (d.ja r.k g) r.idx 0).take 20 ++ leBytes 2 e.1.idx ++ leBytes 2 g)) s
    if s.timely ch n pa d.write then s.issueGranule r ch n g
    else (s.setRun { r with dead := true }).streamFault r 0x1001 (granuleDetail (sectorDetail pa) 5 (d.ja r.k g) r.idx g)

/-- The context whose streams a die serves, if its job runs or has begun streams past its end. -/
def State.streamCtx (s : State) (die : Nat) : Option Nat :=
  let c := s.obj (Obj.streamOwner die)
  if c < 16 ∧ ((s.ctx c).job = .running ∨ (s.ctx c).job = .ended) then some c else none

/-- Grid ticks of a context that have executed: STIME's, and after the job's end those since. -/
def CtxState.ticksRun (x : CtxState) : Nat :=
  if x.job = .ended then x.stime + 1 + x.tail else if x.executed then x.stime + 1 else x.stime

/-! ### End-to-end ECC (R279) -/

/-- Product in GF(2^8) with x^8 + x^4 + x^3 + x^2 + 1: n steps of shift and add. -/
def gfMul : Nat → Nat → Nat → Nat
  | 0, _, _ => 0
  | n + 1, a, b => (if b % 2 = 1 then a else 0) ^^^ gfMul n (if 128 ≤ a then (2 * a) ^^^ 0x11D else 2 * a) (b / 2)

/-- α^n. -/
def gfPow : Nat → Nat
  | 0 => 1
  | n + 1 => gfMul 8 (gfPow n) 2

/-- What a decode answers. -/
inductive EccOutcome where
  | clean
  | corrected
  | uncorrectable
  | misdirected
  deriving DecidableEq, Repr

/-- The sector's identity as five symbols, a4 first. -/
def eccAddress (pa : Nat) : List Byte := (leBytes 5 (pa / 32 % 2 ^ 34)).reverse

/-- One symbol enters the remainder of a division by g(x) = (x - 1)(x - α)(x - α^2)(x - α^3), kept as r3 to r0. -/
def eccShift (r : Nat × Nat × Nat × Nat) (b : Byte) : Nat × Nat × Nat × Nat :=
  let f := b.toNat ^^^ r.1
  (r.2.1 ^^^ gfMul 8 f 0x0F, r.2.2.1 ^^^ gfMul 8 f 0x36, r.2.2.2 ^^^ gfMul 8 f 0x78, gfMul 8 f 0x40)

/-- The four metadata bytes of a sector, r0 first: the remainder of its message polynomial. -/
def e2eEncode (pa : Nat) (d : List Byte) : List Byte :=
  let r := (eccAddress pa ++ d).foldl eccShift (0, 0, 0, 0)
  [BitVec.ofNat 8 r.2.2.2, BitVec.ofNat 8 r.2.2.1, BitVec.ofNat 8 r.2.1, BitVec.ofNat 8 r.1]

/-- A sector's code word, the symbols from x^40 down: its identity, its data, its metadata. -/
def codeWord (pa : Nat) (d : List Byte) : List Byte := eccAddress pa ++ d ++ (e2eEncode pa d).reverse

/-- A syndrome: the polynomial whose coefficients from x^40 down are given, at α^j. -/
def syndrome (j : Nat) (l : List Byte) : Nat := l.foldl (fun a b => gfMul 8 a (gfPow j) ^^^ b.toNat) 0

/-- The decode of the 41 symbols that were read: the outcome and the data. -/
def e2eDecode (w : List Byte) : EccOutcome × List Byte :=
  let d := slice w 5 32
  let s0 := syndrome 0 w
  let s1 := syndrome 1 w
  let s2 := syndrome 2 w
  let s3 := syndrome 3 w
  if s0 = 0 ∧ s1 = 0 ∧ s2 = 0 ∧ s3 = 0 then (.clean, d)
  else if s0 = 0 then (.uncorrectable, d)
  else match (List.range 41).find? (fun p =>
      gfMul 8 s0 (gfPow p) == s1 && gfMul 8 s1 (gfPow p) == s2 && gfMul 8 s2 (gfPow p) == s3) with
    | none => (.uncorrectable, d)
    | some p =>
      if p ≤ 3 then (.corrected, d)
      else if p ≤ 35 then (.corrected, d.set (35 - p) (d.getD (35 - p) 0 ^^^ BitVec.ofNat 8 s0))
      else (.misdirected, d)

/-- What is read of a sector: its code word with the difference `e`. A sector of another place differs in the symbols of its identity too. -/
def readWord (pa : Nat) (d e : List Byte) : List Byte := List.zipWith (fun a b => a ^^^ b) (codeWord pa d) (padTo 41 e)

/-- Counts a corrected sector; at most one event per channel and second (R280). -/
def State.noteCorrected (s : State) (pa : Nat) : State :=
  let s := s.bump64 Obj.dramCorrected 1
  let ch := paChannel pa
  let (last, ticks) := Tab.get (fun _ => (0, [])) s.mem.corrected ch
  let now := s.times.grid
  let ticks := now :: ticks.filter (fun t => decide (now < t + ticksPerSecond))
  let due := last == 0 || decide (last - 1 + ticksPerSecond ≤ now)
  let s := { s with mem := { s.mem with corrected := Tab.set (fun _ => (0, [])) s.mem.corrected ch (if due then now + 1 else last, ticks) } }
  if due then s.log (srcChannel ch) 0x0060 (leBytes 5 (pa / 32 * 32) ++ zeros 3 ++ leBytes 4 ticks.length) else s

/-- Reads n sectors from a physical address through the decoder: `errs` holds 41 difference bytes for each. The first failing sector and
whether it was misdirected (DESIGN CHOICE, log entry 86). -/
def State.eccRead : Nat → State → Nat → List Byte → List Byte → List Byte × Option (Nat × Bool) × State
  | 0, s, _, _, _ => ([], none, s)
  | n + 1, s, pa, stored, errs =>
    let (o, d) := e2eDecode (readWord pa (padTo 32 (stored.take 32)) (errs.take 41))
    let s := match o with
      | .corrected => s.noteCorrected pa
      | .clean => s
      | _ => s.bump64 Obj.dramUncorrected 1
    let bad := match o with
      | .uncorrectable => some (pa, false)
      | .misdirected => some (pa, true)
      | _ => none
    let (t, b, s) := State.eccRead n s (pa + 32) (stored.drop 32) (errs.drop 41)
    (d ++ t, (match bad with | some x => some x | none => b), s)

/-! ### Patrol scrub (R282) -/

/-- DRAM_UNCORRECTABLE as an event. -/
def State.logSector (s : State) (pa : Nat) (mis : Bool) : State :=
  s.log (srcChannel (paChannel pa)) 0x5001 (sectorDetail pa ++ leBytes 1 (if mis then 2 else 1))

/-- Grid ticks between two sectors of a channel's patrol: its 2^28 sectors in SCRUB_INTERVAL hours. -/
def State.scrubGap (s : State) : Nat := max 1 (s.obj Obj.scrubInterval * 3600 * ticksPerSecond / 2 ^ 28)

/-- The patrol reads a sector, whose errors no command carries: what the decode finds is a free choice (DESIGN CHOICE, log entry 87). A corrected
sector is to be written back; a bad one is an event and no fault. -/
def State.scrubSector (s : State) (ch pa : Nat) : State :=
  let (f, s) := s.takeFree 2
  if f = 0 then s
  else if f = 1 then
    let s := s.noteCorrected pa
    { s with mem := { s.mem with fixes := s.mem.fixes ++ [(ch, pa)] } }
  else (s.bump64 Obj.dramUncorrected 1).logSector pa (f == 3)

/-- A reserved slot of a channel: the patrol writes back a sector it has corrected, which then holds its code word again, or reads the next one where
one is due; SCRUB_INTERVAL 0 stops it (R282, R287). -/
def State.scrubOne (s : State) (ch : Nat) : State :=
  if s.obj Obj.scrubInterval = 0 then s
  else match s.mem.fixes.find? (fun e => e.1 == ch) with
    | some e => { s with mem := { s.mem with fixes := s.mem.fixes.erase e } }
    | none =>
      let (i, due) := Tab.get (fun _ => (0, 0)) s.mem.patrol ch
      if s.times.grid < due then s
      else ({ s with mem := { s.mem with patrol := Tab.set (fun _ => (0, 0)) s.mem.patrol ch ((i + 1) % 2 ^ 28, due + s.scrubGap) } }).scrubSector ch
        (physical ch (32 * i))

/-! ### A channel's slots (R262, R263; 12 R452, R456) -/

/-- Whether the devices are in self-refresh and the channels stand: MEMORY sleeps, or a power fail's holds have begun in every context with a job. -/
def State.selfRefresh (s : State) : Bool :=
  s.power.off || (s.power.memory.level != .run && s.power.memory.level != .idle) ||
    (s.power.fail != .none && allCtxs.all (fun c => !(s.ctx c).busy || (match (s.ctx c).hold with | some n => n.indef | none => false)))

/-- CHANNEL_SLOT: the channel's next slot. With no job on the die it serves unscheduled access; with one, slots stand still with STIME. -/
def execChannelSlot (ch : Fin 64) (s : State) : Host.Outcome State Fault Refusal :=
  answer s (if s.selfRefresh then s else match s.streamCtx (ch / 32) with
    | none => s.scrubOne ch
    | some c =>
      let n := Tab.get (fun _ => 0) s.mem.slots ch
      if (s.ctx c).ticksRun ≤ s.slotTick n then s
      else
        let s := { s with mem := { s.mem with slots := Tab.set (fun _ => 0) s.mem.slots ch (n + 1) } }
        if slotReserved n then s.scrubOne ch else s.streamSlot c ch n)

/-! ### Completion (R271, R272, R281) -/

/-- Whether a run is the one a granule belongs to. -/
def Granule.of (g : Granule) (r : StreamRun) : Bool :=
  g.live && r.ctx == g.ctx && r.die == g.die && r.bank == g.bank && r.idx == g.idx && r.k == g.k && r.ts == g.ts && r.begun

/-- A run's granule is complete; after the last one the run ends and its sync operation is applied. -/
def State.finishGranule (s : State) (r : StreamRun) : State :=
  let d := r.desc
  let r := { r with done := r.done + 1 }
  let drop := fun (s : State) => { s with mem := { s.mem with streams := s.mem.streams.filter (fun y => y != r) } }
  let s := s.setRun r
  if r.dead then (if r.done = r.i then drop s else s)
  else if r.done = d.total then
    let s := drop s
    if d.signal then (s.syncAdd r.ctx d.vid ⟨0x1000 + d.vatID, r.idx, 8, (s.ctx r.ctx).lnid.toNat, none⟩ 1).2 else s
  else s

/-- GRANULE_COMPLETE: the oldest granule a channel has issued completes. A read is decoded, and written into vat SRAM where it can be; a sector
that cannot be corrected faults and stops the stream. A granule whose context was reset still completes (R275). -/
def execGranuleComplete (ch : Fin 64) (errs : List Byte) (s : State) : Host.Outcome State Fault Refusal :=
  answer s (match s.mem.issued.find? (fun g => g.ch == ch.val) with
    | none => s
    | some g =>
      let s := { s with mem := { s.mem with issued := s.mem.issued.erase g } }
      let run := s.mem.streams.find? (fun r => g.of r)
      let finish := fun (s : State) => match run with
        | some r => s.finishGranule r
        | none => s
      if !g.read then finish s
      else match s.eccRead 2 g.pa g.data errs with
        | (d, none, s) => finish (s.sramWrite g.va d)
        | (_, some (pa, mis), s) =>
          match run with
          | none => s
          | some r =>
            let r := { r with dead := true }
            let s := (s.setRun r).streamFault r 0x5001
              (granuleDetail (sectorDetail pa) (if mis then 2 else 1) g.ja g.idx g.n)
            s.finishGranule r)

/-! ### Refresh and temperature (R252, R269, R276-R278) -/

/-- Precharges every bank of a die; the rows that were open are kept (R269). -/
def State.precharge (s : State) (die : Nat) : State :=
  let open_ := s.mem.banks.filterMap (fun e => if e.1 / 1024 = die then e.2.row.map (fun r => (e.1, r)) else none)
  let banks := open_.foldl (fun t e => Tab.set (fun _ => BankTime.reset) t e.1 { Tab.get (fun _ => BankTime.reset) t e.1 with row := none }) s.mem.banks
  { s with mem := { s.mem with banks := banks, closed := s.mem.closed ++ [(die, open_)] } }

/-- Whether a granule that a context has still to issue lies in a row of a bank. -/
def State.needsRow (s : State) (c key row : Nat) : Bool :=
  s.mem.streams.any (fun r => r.ctx == c && !r.dead && (List.range (r.desc.total - r.i)).any (fun n =>
    let pa := s.granulePa c r.desc r.k (r.i + n)
    32 * paChannel pa + 16 * paRank pa + paBank pa == key && paRow pa == row))

/-- Activates again, ACT_LEAD slots before the release of a context's hold, each row the plan needs of those its dies' precharge closed (R269). -/
def State.reactivate (s : State) (c : Nat) : State :=
  let mine := s.mem.closed.filter (fun e => s.obj (Obj.streamOwner e.1) == c)
  let s : State := { s with mem := { s.mem with closed := s.mem.closed.filter (fun e => s.obj (Obj.streamOwner e.1) != c) } }
  (mine.flatMap (fun e => e.2)).foldl (fun s e =>
    if s.needsRow c e.1 e.2 then
      let act := kept (Tab.get (fun _ => 0) s.mem.slots (e.1 / 32)) - s.costs.getD 0 0
      let b := Tab.get (fun _ => BankTime.reset) s.mem.banks e.1
      { s with mem := { s.mem with banks := Tab.set (fun _ => BankTime.reset) s.mem.banks e.1 { b with row := some e.2, act := act } } }
    else s) s

/-- Whether a die's channels have no row open in a bank, on either rank. -/
def State.bankShut (s : State) (die bank : Nat) : Bool := s.mem.banks.all (fun e => e.1 / 1024 != die || e.1 % 16 != bank || e.2.row.isNone)

/-- AUTONOMOUS_REFRESH: while STIME is frozen, and while no job owns the die, the controller refreshes its next closed bank on its own schedule
(R277; DEDUCED, log entry 134). No count of running ticks stands for a die without a job. -/
def execAutonomousRefresh (die : Fin 2) (s : State) : Host.Outcome State Fault Refusal :=
  let next := Tab.get (fun _ => 0) s.mem.auto die
  let own := fun (s : State) => match ((List.range 16).map (fun i => (next + i) % 16)).find? (s.bankShut die) with
    | some b => { s with mem := { s.mem with auto := Tab.set (fun _ => 0) s.mem.auto die ((b + 1) % 16) } }
    | none => s
  answer s (match s.streamCtx die with
    | some c => if (s.ctx c).hold.isSome then own s else s
    | none => own { s with mem := { s.mem with refreshed := Tab.set (fun _ => 0) s.mem.refreshed die 0 } })

/-- Whether a package of a die reports the hottest band: four times the nominal rate (R278). -/
def State.hotDie (s : State) (die : Nat) : Bool :=
  (List.range 8).any (fun i => decide (4 ≤ (Tab.get (fun _ => (1 : Byte)) s.mem.bands (8 * die + i)).toNat))

/-- The refresh hold of a die: S = STIME + L, 64 grid ticks, cause 2. The next period of running ticks has begun (R278). -/
def State.refreshHold (s : State) (die c : Nat) : State :=
  let start := s.holdStart c
  let ran := Tab.get (fun _ => 0) s.mem.refreshed die - s.obj Obj.hotHoldPeriod
  let s : State := { s with mem := { s.mem with refreshed := Tab.set (fun _ => 0) s.mem.refreshed die ran,
                                                asked := Tab.set (fun _ => 0) s.mem.asked die (start + 1) } }
  s.raiseHold c start 64 2 false none

/-- HOT_REFRESH_HOLD: 720 running ticks have passed in the hot band. -/
def execHotRefreshHold (die : Fin 2) (s : State) : Host.Outcome State Fault Refusal :=
  answer s (match s.streamCtx die with
    | some c =>
      if s.hotDie die && decide (s.obj Obj.hotHoldPeriod ≤ Tab.get (fun _ => 0) s.mem.refreshed die) && (s.ctx c).hold.isNone &&
          (s.ctx c).job == .running then s.refreshHold die c
      else s
    | none => s)

/-- Counts the running ticks of the dies a context owns (R278). -/
def State.countRefresh (s : State) (c : Nat) : State :=
  [0, 1].foldl (fun s die =>
    if s.obj (Obj.streamOwner die) = c then
      { s with mem := { s.mem with refreshed := Tab.set (fun _ => 0) s.mem.refreshed die (Tab.get (fun _ => 0) s.mem.refreshed die + 1) } }
    else s) s

/-- A hold of 64 ticks or more has refreshed the dies of its context: the count restarts at its release, but for a die whose own refresh hold it
was, for which the period runs on from its raising (R278; DEDUCED, log entry 135). -/
def State.refreshedBy (s : State) (c start len : Nat) : State :=
  [0, 1].foldl (fun s die =>
    if s.obj (Obj.streamOwner die) ≠ c then s
    else if Tab.get (fun _ => 0) s.mem.asked die = start + 1 then { s with mem := { s.mem with asked := Tab.set (fun _ => 0) s.mem.asked die 0 } }
    else if 64 ≤ len then { s with mem := { s.mem with refreshed := Tab.set (fun _ => 0) s.mem.refreshed die 0 } }
    else s) s

end Sys2Proof.Machine
end

