-- ==== Sys2Proof/Machine/Link.lean ====
section
/-! DEFINITION. The Septox link's sending side: unit headers, the replay buffer, what a port sends on a tick, acknowledgement, replay, retrain
requests, going down, and lane sleep (09 R350-R368, R372, R376; 04 R151-R154). -/
namespace Sys2Proof.Machine
open Sys2Proof

/-! ### Headers (R351, R352) -/

/-- A header without hold field and piggyback. -/
def unitHdr (tc : Nat) (epoch : Nat) (last : Bool) (kind : Nat) : W64 :=
  BitVec.ofNat 64 (tc * 2 ^ 22 + epoch * 2 ^ 21 + b2n last * 2 ^ 20 + kind * 2 ^ 16)

/-- Traffic class of a header. -/
def hdrTc (h : W64) : Nat := fld h.toNat 22 2
/-- EPOCH. -/
def hdrEpoch (h : W64) : Nat := fld h.toNat 21 1
/-- LAST. -/
def hdrLast (h : W64) : Bool := bitOf h.toNat 20
/-- KIND. -/
def hdrKind (h : W64) : Nat := fld h.toNat 16 4
/-- Hold field. -/
def hdrHold (h : W64) : Nat := fld h.toNat 24 40

/-- The 240 bytes of a payload. -/
def payload (b : List Byte) : List Byte := padTo 240 b

/-- Puts a unit on the wire. A perturbed port inverts one bit of the CRC of its next sequenced units; which one is open (11 R437; DESIGN CHOICE, log entry 3). -/
def State.emitUnit (s : State) (p : Nat) (count : BitVec 12) (hdr : W64) (pay : List Byte) : State :=
  let x := s.port p
  let crc := unitCrc count hdr pay
  if hdrTc hdr != 3 && x.corrupt != 0 then
    let (i, s) := (s.setPort p { x with corrupt := x.corrupt - 1 }).takeFree 6
    s.emit (.unit p hdr pay (crc ^^^ BitVec.ofNat 64 (2 ^ i.toNat)))
  else s.emit (.unit p hdr pay crc)

/-- Stamps FTIME at departure into a TC3 payload: TIME and t1 of DELAY_REQ at byte 8, t3 of DELAY_RESP at byte 24 (R352). -/
def State.stamp (s : State) (kind : Nat) (pay : List Byte) : List Byte :=
  let at_ := fun (off : Nat) => overlay (payload pay) off (leBytes 8 s.times.ftime.toNat)
  if kind = 2 ∨ kind = 3 then at_ 8 else if kind = 4 then at_ 24 else payload pay

/-- Sends a TC3 unit at once: training and notices before a port goes down. -/
def State.emitTc3 (s : State) (p kind : Nat) (pay : List Byte) : State :=
  s.emitUnit p (s.port p).tseq (unitHdr 3 0 false kind) (s.stamp kind pay)

/-! ### Counts and width -/

/-- The count of the oldest unacknowledged unit. -/
def PortState.oldest (x : PortState) : BitVec 12 := x.tseq - BitVec.ofNat 12 x.buffer.length

/-- Whether a 4-lane port came up below 4 lanes or at half speed (R345). -/
def State.degraded (s : State) (p : Nat) : Bool := !isUplink p && decide ((s.port p).lanes ≠ 0) && (decide ((s.port p).lanes < 4) || (s.port p).half)

/-- Grid ticks a unit takes on a port: by the lanes and the speed it came up with, or by its type before that (R340, R342, R345). -/
def State.unitTime (s : State) (p : Nat) : Nat :=
  let x := s.port p
  (if x.lanes = 0 then unitStep p else 4 / x.lanes) * (if x.half then 2 else 1)

/-! ### Going down (R362, R363) -/

/-- Detail of a link fault. -/
def State.downDetail (s : State) (p reason carried : Nat) : List Byte :=
  let x := s.port p
  leBytes 1 reason ++ leBytes 1 p ++ leBytes 2 x.peer.toNat ++ leBytes 2 x.expect.toNat ++ leBytes 2 x.oldest.toNat ++ leBytes 1 x.nakCount ++
    leBytes 1 x.lanes ++ leBytes 1 carried ++ zeros 5 ++ leBytes 8 x.lastFtime.toNat

/-- The fault a reason records. -/
def downFault (reason : Nat) : Option Nat :=
  if reason = 1 then some 0x4003 else if reason = 2 then some 0x4002 else if reason = 7 ∨ reason = 8 then none else some 0x4001

/-- Answers what a port that goes down held: a request that was forwarded fails at its source, and every message leaves its arrival port's
buffer (R363). -/
def State.dropSkim (s : State) (l : List SkimOut) : State :=
  l.foldl (fun s m =>
    let s := match m.arr with
      | some a => s.freeCredit a m.msg
      | none => s
    if !m.own && decide (m.msg.type < 0x10) then s.sendStatus m.msg stPathLost else s) s

/-- A port after it went down: what it learned of its peer stays known (R292; DEDUCED, log entry 90), everything of the link is gone. -/
def PortState.cleared (x : PortState) (p : Nat) : PortState :=
  let y := { PortState.reset p with peer := x.peer, lastFtime := x.lastFtime, stall := x.stall, corrupt := x.corrupt }
  { y with fecC := x.fecC, fecU := x.fecU, withhold := x.withhold, withholdTo := x.withholdTo, drop := x.drop, dropIn := x.dropIn, discardAt := x.discardAt, timePeers := x.timePeers,
           peerRtts := x.peerRtts }

/-- LOCKSTEP_DIVERGE (11 R431). -/
def divergeInfo (cause : Nat) (own peer : W64) : FaultInfo :=
  ⟨0x1008, srcLock, 0, leBytes 1 cause ++ zeros 7 ++ leBytes 8 own.toNat ++ leBytes 8 peer.toNat, false⟩

/-- Raises LOCKSTEP_DIVERGE for a phase, on the comparator's own context, of which the job may have ended: the record's step field is the phase
(11 R431). -/
def State.diverge (s : State) (cause : Nat) (k : W64) (own peer : W64) : State :=
  let c := s.lockCtx
  let step := (s.ctx c).step
  ((s.onCtx c (fun x => { x with step := k })).jobFault c (divergeInfo cause own peer)).onCtx c (fun x => { x with step := step })

/-- X1 went down: the oldest phase that the peer has not matched, or else the one of a running job, cannot be compared (11 R431; DEDUCED, log
entry 84). -/
def State.lockLost (s : State) : State :=
  let x := s.ctx s.lockCtx
  if s.obj Obj.lockstepEnable ≠ 1 then s
  else match s.lock.own with
    | o :: _ => s.diverge 5 o.step 0 0
    | [] => if x.job = .running then s.diverge 5 x.step 0 0 else s

/-- The port that supplies FTIME: the parent, or the alternate while it stands in; none for the time master and in holdover (01 R16, R19). -/
def State.parentPort (s : State) : Option Nat :=
  let p := s.obj (if s.times.alt then Obj.ftimeAltParentPort else Obj.ftimeParentPort)
  if p < 34 ∧ !s.times.holdover then some p else none

/-- The port that supplied FTIME goes down: the alternate takes over where it is configured and ACTIVE, otherwise the module runs in
holdover (01 R19). -/
def State.checkParent (s : State) (p : Nat) : State :=
  if s.parentPort ≠ some p then s
  else
    let a := s.obj Obj.ftimeAltParentPort
    if !s.times.alt ∧ a < 34 ∧ (s.port a).link = .active then
      ({ s with times := { s.times with alt := true } }).log srcTime 0x0020 (leBytes 1 1 ++ leBytes 1 a)
    else ({ s with times := { s.times with holdover := true } }).log srcTime 0x0020 (leBytes 1 2 ++ leBytes 1 p)

/-- REFERENCE_LOST with an outcome and a port: class 2, and but for outcomes 1 and 4 class 1 in every context with a job (16 R580). -/
def State.referenceLost (s : State) (outcome port : Nat) : State :=
  let i : FaultInfo := ⟨0x4004, srcTime, 0,
    leBytes 1 outcome ++ leBytes 1 port ++ [0, 0] ++ leBytes 4 s.entry.ppb.toNat ++ leBytes 8 s.times.ftime.toNat, false⟩
  let s := s.moduleFault i
  if outcome = 1 ∨ outcome = 4 then s
  else (allCtxs.filter (fun c => (s.ctx c).busy)).foldl (fun s c => s.fault c i) s

/-- The link a lost reference failed over to goes down: holdover (16 R580). -/
def State.checkFailover (s : State) (p : Nat) : State :=
  if s.entry.failover = some p then
    ({ s with entry := { s.entry with failover := none, pending := false } }).referenceLost 3 0xFF
  else s

/-- A port goes DOWN (DEDUCED, log entry 81; DEDUCED, log entry 82). -/
def State.linkDown (s : State) (p reason carried : Nat) : State :=
  let x := s.port p
  if x.link = .down then s
  else
    let detail := s.downDetail p reason carried
    let s := if [1, 2, 4, 6, 9].contains reason then (List.range 4).foldl (fun s _ => s.emitTc3 p 7 (leBytes 1 reason)) s else s
    let s := s.setObj (Obj.downReason p) reason
    let s := (s.setPort p { x.cleared p with peerDeep := reason == 7 }).setLink p .down
    let s : State := match downFault reason with
      | none => s
      | some code =>
        let i : FaultInfo := ⟨code, srcPort p, 0, detail, false⟩
        let s := s.moduleFault i
        match s.portCtx p with
        | some c => if (s.ctx c).busy then s.fault c i else s
        | none => s
    let s := if p = 33 then s.lockLost else s
    let s := ((s.checkParent p).checkFailover p).dropSkim (x.skim1 ++ x.skim2)
    s.failRequests (s.skim.reqs.filter (fun r => r.port == p))

/-! ### Acknowledgement and replay (R354, R356-R359) -/

/-- Frees the buffer before a count; a count outside the window changes nothing. -/
def PortState.ack (x : PortState) (c : BitVec 12) : PortState :=
  let n := (c - x.oldest).toNat
  if x.buffer.length < n then x
  else
    let naks := if (x.nakFor - x.oldest).toNat < n then 0 else x.nakCount
    let rest := x.buffer.drop n
    { x with buffer := rest, resend := min x.resend rest.length, nakCount := naks,
             carried := x.carried.filter (fun e => decide ((e.1 - c).toNat ≤ (x.tseq - c).toNat)) }

/-- Whether a request of this port for a retrain is under way. -/
def PortState.retraining (x : PortState) : Bool := x.retrain.isSome || x.link == .retrain

/-- The RETRAIN_REQ of a start (R349, R352). -/
def retrainPay (r : Retrain) : List Byte :=
  match r.jobn with
  | some j => zeros 8 ++ leBytes 1 j.toNat ++ leBytes 6 r.start
  | none => leBytes 8 r.start ++ zeros 7

/-- The leader names a start and raises its hold (R349). -/
def State.leadRetrain (s : State) (p : Nat) : State :=
  match s.portRunning p with
  | some c =>
    let start := s.holdStart c
    let r : Retrain := ⟨true, some (BitVec.ofNat 4 (s.jobn c)), start⟩
    let s := s.stirPort p (fun x => { x with retrain := some r, wantRetrain := true })
    s.raiseHold c start (s.obj Obj.retrainTime + (s.port p).resend * unitStep p) 0 false (some (.retrain p))
  | none => s.stirPort p (fun x => { x with retrain := some ⟨true, none, gridUp (s.times.ftime.toNat + 64 * 16)⟩, wantRetrain := true })

/-- A port requests a retrain, unless one is under way (R348). -/
def State.requestRetrain (s : State) (p : Nat) : State :=
  if (s.port p).link != .active || (s.port p).retraining then s else s.leadRetrain p

/-- The backlog of a port in ticks: units still to be sent again, times 4 on an uplink (R45, R357). -/
def State.backlogTicks (s : State) (p : Nat) : Nat := (s.port p).resend * unitStep p

/-- A NAK with a count (R356, R357, R359). -/
def State.takeNak (s : State) (p : Nat) (c : BitVec 12) : State :=
  let x := s.port p
  let n := (c - x.oldest).toNat
  if x.buffer.length < n then s.linkDown p 9 0
  else
    let x := x.ack c
    let count := if x.nakFor = c ∧ x.nakCount ≠ 0 then x.nakCount + 1 else 1
    if c = x.tseq then
      (s.setPort p { x with nakFor := c, nakCount := count }).log (srcPort p) 0x0051 ([3, 0, 0, 0] ++ leBytes 2 c.toNat)
    else
      let count := if x.retrain.isSome then x.nakCount else count
      let back := (x.carried.filter (fun e => decide ((e.1 - c).toNat ≤ (x.tseq - c).toNat))).map (fun e => e.2)
      let x := { x with resend := x.buffer.length, nakFor := c, nakCount := count, fwd := back ++ x.fwd, carried := [] }
      let s := ((s.setPort p x).wakeIfDue p).bump64 (Obj.replays p) 1
      let limit := s.obj Obj.replayLimit
      if 2 * limit ≤ count then s.linkDown p 1 0
      else
        let s := match s.portRunning p with
          | some ctx => s.raiseHold ctx (s.holdStart ctx) (s.backlogTicks p) 0 false (some (.replay p))
          | none => s
        if limit ≤ count then s.requestRetrain p else s

/-- Sends a NAK, and on an uplink raises the hold in the plane's place (R355, R357). -/
def State.sendNak (s : State) (p : Nat) : State :=
  let s := s.stirPort p (fun x => { x with nakOwed := true, discarding := true })
  if isUplink p then
    match s.portRunning p with
    | some c => s.raiseHold c (s.holdStart c) (s.obj (Obj.replayRtt p)) 0 false (some (.discarding p))
    | none => s
  else s

/-! ### Piggybacks (R351, R354, R365) -/

/-- Credit returns of a class that are due. -/
def creditOwed (k : Credit) (due : Bool) : Bool :=
  decide (4 ≤ (k.freedHdr - k.toldHdr).toNat) || decide (16 ≤ (k.freedData - k.toldData).toNat) ||
    (due && (k.freedHdr != k.toldHdr || k.freedData != k.toldData))

/-- The piggyback of the next unit, by priority: its kind and value, and the port after it. -/
def PortState.piggyback (x : PortState) : Nat × BitVec 12 × PortState :=
  let c1 := creditOwed x.credit1 x.creditDue && !bitOf x.withhold.toNat 0
  let c2 := creditOwed x.credit2 x.creditDue && !bitOf x.withhold.toNat 1
  if x.nakOwed then (2, x.expect, { x with nakOwed := false })
  else if x.ackOwed || decide (16 ≤ x.unacked) then (1, x.expect, { x with ackOwed := false, unacked := 0 })
  else if c1 && x.credit1.freedHdr != x.credit1.toldHdr then
    (3, x.credit1.freedHdr, { x with credit1 := { x.credit1 with toldHdr := x.credit1.freedHdr } })
  else if c1 then (4, x.credit1.freedData, { x with credit1 := { x.credit1 with toldData := x.credit1.freedData } })
  else if c2 && x.credit2.freedHdr != x.credit2.toldHdr then
    (5, x.credit2.freedHdr, { x with credit2 := { x.credit2 with toldHdr := x.credit2.freedHdr } })
  else if c2 then (6, x.credit2.freedData, { x with credit2 := { x.credit2 with toldData := x.credit2.freedData } })
  else (0, 0, x)

/-- Fills a header: the first waiting hold record, and the piggyback (R29, R35, R351). -/
def PortState.attach (x : PortState) (base : W64) : W64 × Option HoldFwd × PortState :=
  let (h, x) := match x.fwd with
    | [] => (none, x)
    | h :: t => (some h, { x with fwd := t })
  let field := match h with
    | some h => holdField h.jobn.toNat h.hold
    | none => 0
  let (pgk, pgv, x) := x.piggyback
  (base ||| BitVec.ofNat 64 (field * 2 ^ 24 + pgk * 2 ^ 12 + pgv.toNat), h, x)

/-! ### Sending (R360, R364, R368) -/

/-- A port raises the cause 1 hold: the ticks to drain to 64 units (R45, R360). -/
def State.checkFull (s : State) (p : Nat) : State :=
  let x := s.port p
  let s := if s.obj (Obj.replayHighWater p) < x.buffer.length then s.setObj (Obj.replayHighWater p) x.buffer.length else s
  if x.buffer.length < 192 || x.full then s
  else match s.portRunning p with
    | some c =>
      (s.onPort p (fun x => { x with full := true })).raiseHold c (s.holdStart c) ((x.buffer.length - 64) * unitStep p) 1 false
        (some (.bufferFull p))
    | none => s

/-- Sends a new sequenced unit. -/
def State.seqSend (s : State) (p : Nat) (base : W64) (pay : List Byte) : State :=
  let (hdr, _, x) := (s.port p).attach base
  let count := x.tseq
  let x := { x with tseq := x.tseq + 1, buffer := x.buffer ++ [⟨count, hdr, pay⟩], gap := s.unitTime p }
  ((s.setPort p x).emitUnit p count hdr pay).checkFull p

/-- Sends a TC3 unit; a record it carries comes back at a NAK of an earlier count (R356). -/
def State.tc3Send (s : State) (p kind : Nat) (pay : List Byte) : State :=
  let (hdr, h, x) := (s.port p).attach (unitHdr 3 0 false kind)
  let x := { x with gap := s.unitTime p, carried := match h with | some h => x.carried ++ [(x.tseq, h)] | none => x.carried }
  (s.setPort p x).emitUnit p x.tseq hdr (s.stamp kind pay)

/-- Available credits of a class: headers and data (R365). -/
def Credit.left (k : Credit) : Nat × Nat := (k.advHdr - (k.sentHdr - k.retHdr).toNat, k.advData - (k.sentData - k.retData).toNat)

/-- Whether the rate holds a message back: one that originated here, when its class has sent its share (R372). -/
def Credit.holds (k : Credit) (m : SkimOut) : Bool := m.own && decide (k.rate ≤ k.sent)

/-- Takes the messages of the next unit of a class, in queue order: at most `n`, within the bytes left and the credits; on an uplink with the first
one's route word. Own messages over the rate stay behind and hold up no forwarded one. Answers those taken, the rest, and the credits after. -/
def takeMsgs (up : Bool) : List SkimOut → Option Nat → Nat → Nat → Credit → List SkimOut × List SkimOut × Credit
  | [], _, _, _, k => ([], [], k)
  | m :: t, via, n, room, k =>
    if k.holds m then
      let (a, b, k) := takeMsgs up t via n room k
      (a, m :: b, k)
    else
      let len := 8 + 16 * m.msg.blocks
      let (h, d) := k.left
      let route := match via with | some v => !up || v == m.via | none => true
      if n = 0 ∨ room < len ∨ h = 0 ∨ d < m.msg.blocks ∨ !route then ([], m :: t, k)
      else
        let k := { k with sentHdr := k.sentHdr + 1, sentData := k.sentData + BitVec.ofNat 12 m.msg.blocks,
                          sent := if m.own then k.sent + 1 else k.sent }
        let (a, b, k) := takeMsgs up t (some m.via) (n - 1) (room - len) k
        (m :: a, b, k)

/-- Whether the first message that may leave waits for credit (R367). -/
def starved (k : Credit) (l : List SkimOut) : Bool :=
  match l.find? (fun m => !k.holds m) with
  | none => false
  | some m => decide ((k.left).1 = 0) || decide ((k.left).2 < m.msg.blocks)

/-- Sends a unit of a skim class, if a message can leave. Answers whether one did. -/
def State.skimSend (s : State) (p cls : Nat) : Option State :=
  let x := s.port p
  let k := if cls = 1 then x.credit1 else x.credit2
  let (msgs, rest, k') := takeMsgs (isUplink p) (if cls = 1 then x.skim1 else x.skim2) none 3 232 k
  match msgs with
  | [] => none
  | m :: _ =>
    let x := if cls = 1 then { x with skim1 := rest, credit1 := k' }
      else { x with skim2 := rest, credit2 := k' }
    let route := if isUplink p then 2 ^ 15 + m.via % 512 else 0
    let pay := payload (leBytes 2 route ++ leBytes 1 msgs.length ++ zeros 5 ++ msgs.flatMap (fun m => m.msg.bytes))
    let s := (s.setPort p x).seqSend p (unitHdr cls 0 false 0) pay
    some (msgs.foldl (fun s m => match m.arr with | some a => s.freeCredit a m.msg | none => s) s)

/-- The ticks of an instance on an out port: from its first to the last of its entry's length. -/
def slotTicks (first step len t : Nat) : Bool := decide (first ≤ t) && decide (t < first + step * len)

/-- Whether a tick of a context's STIME carries a scheduled unit, a relay unit or a dry unit on a port (R151, R364). On an uplink a unit takes
every tick to the next one's. -/
def State.reservedTick (s : State) (c p t : Nat) : Bool :=
  let x := s.ctx c
  x.departs.any (fun d =>
    let e := s.mr c d.bank d.entry
    e.outPorts.contains p && slotTicks d.t e.depStep e.len t) ||
  x.walk.any (fun w =>
    let e := s.mr c w.bank w.entry
    e.role == 2 && e.port == p && slotTicks (w.t + e.delta) (unitStep e.arrPort) e.len t)

/-- Whether a port may start a skim or TC3 unit on this grid tick: it and, on an uplink, the next three ticks carry nothing scheduled. A held
tick carries nothing. -/
def State.freeTick (s : State) (p : Nat) : Bool :=
  match s.portRunning p with
  | none => true
  | some c =>
    let x := s.ctx c
    if x.executed then (List.range (s.unitTime p)).all (fun i => !s.reservedTick c p (x.stime + i)) else true

/-! ### Lane sleep (04 R152-R154) -/

/-- Whether a milk-run entry of a repetition gives a port a live departure after tick t and before t + n: unit 0 of any entry, every unit of one
that is not dry-eligible, every unit of a relay. -/
def State.liveIn (s : State) (c p t n : Nat) (q : Place) : Bool :=
  let g := s.seg c q.bank q.seg
  let hit := fun (a : Nat) => decide (t < a) && decide (a < t + n)
  (List.range g.count).any (fun j =>
    let e := s.mr c q.bank (g.first + j)
    let a := q.t0 + e.toff
    if e.role = 0 ∧ e.outPorts.contains p then
      (List.range (if e.dry then 1 else e.len)).any (fun i => hit (a + e.depStep * i))
    else if e.role = 2 ∧ e.port = p then (List.range e.len).any (fun i => hit (a + e.delta + unitStep e.arrPort * i))
    else false)

/-- Whether units of a relay instance are still to come for a port before tick t. -/
def State.relayAhead (s : State) (c p t : Nat) : Bool :=
  (s.ctx c).walk.any (fun w =>
    let e := s.mr c w.bank w.entry
    e.role == 2 && e.port == p && decide (w.done < w.live) && decide (w.t + e.delta < t))

/-- Whether the plan is known to give a port nothing live for n ticks after tick t. -/
def State.quietFor (s : State) (c p t n : Nat) : Bool :=
  let (l, u) := s.known c true (t + n)
  u.isNone && !(l.any (s.liveIn c p t n)) && !s.relayAhead c p (t + n) &&
    !((s.ctx c).departs.any (fun d =>
      let e := s.mr c d.bank d.entry
      d.begun && e.outPorts.contains p && !e.dry && decide (t + 1 < d.t + e.depStep * e.len)))

/-- Whether a port's job gives it a gap of at least DRY_SLEEP_MIN ticks, with no hold in force and no relay unit on its way (R152, R154). A port of no
job has no live departure; a job that is armed has its own still to come. -/
def State.jobQuiet (s : State) (p : Nat) : Bool :=
  match s.portCtx p with
  | none => true
  | some c =>
    let x := s.ctx c
    match x.job with
    | .none => true
    | .armed => false
    | .running => x.hold.isNone && x.relays.all (fun r => r.port != p) && s.quietFor c p x.stime (s.obj Obj.drySleepMin)
    | .ended => x.relays.all (fun r => r.port != p) && x.departs.all (fun d => !(s.mr c d.bank d.entry).outPorts.contains p) &&
        !s.relayAhead c p (2 ^ 64)

/-- Whether a port puts its lanes into low-power idle on this quiet tick (R152; DEDUCED, log entry 78). -/
def State.maySleep (s : State) (p : Nat) : Bool :=
  let x := s.port p
  x.link == .active && !x.txSleep && !x.wakeNow (s.obj Obj.ackWakeUnits) && s.jobQuiet p

/-- The unit of a tick with nothing to carry: SLEEP where the port goes to sleep, IDLE otherwise (R364, R376; 04 R152). -/
def State.restUnit (s : State) (p : Nat) : State :=
  if s.maySleep p then
    let s := s.tc3Send p 1 []
    (s.onPort p (fun x => { x with txSleep := true })).bump64 (Obj.laneSleeps p) 1
  else s.tc3Send p 0 []

/-! ### A tick of the transmitter (R348, R360, R364) -/

/-- What a port sends on a tick that carries nothing scheduled: a TC3 unit, its retrain request, then messages of TC2 and TC1 where the replay buffer
has room. -/
def State.sendFree (s : State) (p : Nat) : State :=
  let x := s.port p
  match x.tc3, (if x.wantRetrain then x.retrain else none) with
  | (k, pay) :: rest, _ => (s.setPort p { x with tc3 := rest }).tc3Send p k pay
  | [], some r => s.tc3Send p 6 (retrainPay r)
  | [], none =>
    if 256 ≤ x.buffer.length then s.restUnit p
    else ((s.skimSend p 2).orElse (fun _ => s.skimSend p 1)).getD (s.restUnit p)

/-- What an awake ACTIVE port sends on a grid tick (R364). -/
def State.sendOne (s : State) (p : Nat) : State :=
  let x := s.port p
  if x.resend ≠ 0 then
    match x.buffer[x.buffer.length - x.resend]? with
    | some u => (s.setPort p { x with resend := x.resend - 1, gap := s.unitTime p }).emitUnit p u.count u.hdr u.pay
    | none => s
  else match x.waitq with
    | u :: t =>
      if x.buffer.length < 256 then (s.setPort p { x with waitq := t }).seqSend p u.hdr u.pay
      else if s.freeTick p then s.sendFree p else s.restUnit p
    | [] => if s.freeTick p then s.sendFree p else s.restUnit p

/-- Whether a cause 1 hold of a port still stands, or its occupancy has not fallen to 64 (R45). -/
def State.stillFull (s : State) (p : Nat) : Bool :=
  let x := s.port p
  x.full && (decide (64 < x.buffer.length) || (match s.portRunning p with
    | some c => (s.ctx c).raised.any (fun e => e.2 == .bufferFull p)
    | none => false))

/-- A peer that began to wake and is not heard 16 ticks after the boundary on which its first unit leaves has no codeword lock here: the port
requests a retrain (R376). -/
def State.checkWake (s : State) (p : Nat) : State :=
  let x := s.port p
  if x.peerWake = 0 ∨ s.times.grid < x.peerWake then s
  else
    let s := s.onPort p (fun x => { x with peerWake := 0 })
    if x.peerSleep then s.requestRetrain p else s

/-- One grid tick of a port's transmitter (DESIGN CHOICE, log entry 76). -/
def State.portTick (s : State) (p : Nat) : State :=
  let x := s.port p
  if x.link != .active then s
  else
    let s := if x.txSleep then s.bump64 (Obj.sleepTicks p) 1 else s
    let y := { x with gap := x.gap - 1, full := s.stillFull p }
    let y := { y with withhold := if x.withholdTo ≤ s.times.grid then 0 else x.withhold }
    let y := { y with creditDue := x.creditDue && (creditOwed x.credit1 true || creditOwed x.credit2 true) }
    let s := ((s.setPort p y).wakeIfDue p).checkWake p
    let y := s.port p
    let now := s.times.grid
    if y.link == .active && !y.txSleep && y.gap == 0 && decide (y.waking ≤ now) && decide (y.stall ≤ now) then s.sendOne p else s

/-- A TC0 unit for a port: it waits in plan order behind what the port has to send (R322, R360). A port that is down or degraded sends nothing of
TC0 (R345). -/
def State.sendData (s : State) (p epoch : Nat) (last : Bool) (pay : List Byte) : State :=
  if (s.port p).link = .down ∨ (s.port p).link = .listen ∨ s.degraded p then s
  else (s.onPort p (fun x => { x with waitq := x.waitq ++ [⟨0, unitHdr 0 epoch last 0, payload pay⟩] }))

end Sys2Proof.Machine
end

