-- ==== Sys2Proof/Machine/Fabric.lean ====
section
/-! DEFINITION. The milk-run engine: instances, their creation and capacity, readiness checks, the late-selector check, departures, relays, deadlines,
and the drain of a bank (01 R46, R47, R50; 04 R149-R151; 08 R308-R329, R333-R335). -/
namespace Sys2Proof.Machine
open Sys2Proof

/-! ### Instances (R308, R313, R315, R327) -/

/-- The ticks of a context that have executed, as a count; none before launch. -/
def CtxState.executedTicks (x : CtxState) : Nat := if x.executed then x.stime + 1 else x.stime

/-- Whether a departure has departed all it will. -/
def Depart.complete (d : Depart) : Bool := d.begun && decide (d.live ≤ d.done)

/-- Whether a landing or relay instance has had all its units. -/
def Arrive.complete (w : Arrive) : Bool := decide (w.live ≤ w.done)

/-- Inserts an arrival by its planned tick. -/
def insertArrive (w : Arrive) : List Arrive → List Arrive
  | [] => [w]
  | x :: t => if w.t < x.t then w :: x :: t else x :: insertArrive w t

/-- The instance of entry j of a repetition, put into the context. -/
def State.addInstance (s : State) (c : Nat) (p : Place) (j : Nat) : State :=
  let g := s.seg c p.bank p.seg
  let e := s.mr c p.bank j
  let t := p.t0 + e.toff
  if e.role = 0 then
    let d : Depart := ⟨p.bank, j, p.rep, t, (e.gen + p.rep + p.step.toNat) % 256, e.shift p.rep g.srcInc, e.len, false, 0, 0, [], false, []⟩
    s.onCtx c (fun x => { x with departs := x.departs ++ [d] })
  else
    let w : Arrive := ⟨p.bank, j, e.arrPort, p.rep, t, e.shift p.rep g.landInc, 0, e.len, 0, false, []⟩
    s.onCtx c (fun x => { x with walk := insertArrive w x.walk })

/-- The entries of a repetition with T in [lo, hi) that a test admits. -/
def State.entriesIn (s : State) (c : Nat) (p : Place) (lo hi : Nat) (ok : MrEntry → Nat → Bool) : List Nat :=
  let g := s.seg c p.bank p.seg
  ((List.range g.count).map (fun j => g.first + j)).filter (fun j =>
    let e := s.mr c p.bank j
    decide (lo ≤ p.t0 + e.toff) && decide (p.t0 + e.toff < hi) && ok e (p.t0 + e.toff))

/-- Old-bank arrivals with T at or after an armed switch whose origin began before it (R327). -/
def State.keptArrivals (s : State) (c hi : Nat) : State :=
  match (s.ctx c).switch with
  | none => s
  | some (sigma, _) =>
    ((s.known c false hi).1).foldl (fun s p =>
      let js := s.entriesIn c p sigma hi (fun e t => e.role != 0 && decide (t < sigma + e.lat))
      js.foldl (fun s j =>
        let t := p.t0 + (s.mr c p.bank j).toff
        if (s.ctx c).walk.any (fun w => w.bank == p.bank && w.entry == j && w.t == t) then s else s.addInstance c p j) s) s

/-- Instances of the module that are active or due: those a context has counted and that are not complete (R313). -/
def State.activeInstances (s : State) : Nat :=
  (allCtxs.map (fun c =>
    let x := s.ctx c
    (x.departs.filter (fun d => !d.complete && decide (d.t < x.dueTo) && (d.begun || !s.superseded c d.bank d.t))).length +
      (x.walk.filter (fun w => !w.complete && decide (w.t < x.dueTo))).length)).sum

/-- A fault of the milk-run, relay and landing logic: the port is the unit, the milk-run index the entry (R320). Its bank is never drained
(R328). -/
def State.runFault (s : State) (c code kind bank entry port index planned second rep : Nat) : State :=
  (s.onCtx c (fun x => { x with badBanks := (bank :: x.badBanks).eraseDups })).fault c ⟨code, srcPort port, entry,
    runDetail kind port bank (s.activeBank c) index planned (s.mr c bank entry).peer second rep, false⟩

/-- The port of a departure's faults: the first it takes. -/
def MrEntry.faultPort (e : MrEntry) : Nat := e.outPorts.headD e.port

/-- Engine capacity: every instance beyond 4,096 that comes within L + 64 ticks is a fault of its own, and is not kept (R313; DEDUCED, log entry 113). -/
def State.checkCapacity (s : State) (c hi : Nat) : State :=
  let x := s.ctx c
  let new := (x.departs.filter (fun d => decide (x.dueTo ≤ d.t) && decide (d.t < hi) && !s.superseded c d.bank d.t)).map (fun d =>
      (d.bank, d.entry, (s.mr c d.bank d.entry).faultPort, d.t, d.k)) ++
    (x.walk.filter (fun w => decide (x.dueTo ≤ w.t) && decide (w.t < hi))).map (fun w => (w.bank, w.entry, w.port, w.t, w.k))
  let s := s.onCtx c (fun x => { x with dueTo := max x.dueTo hi })
  let exceeds := min new.length (s.activeInstances - s.obj Obj.engineInstances)
  let excess := new.drop (new.length - exceeds)
  let kept := fun (bank entry t : Nat) => !excess.any (fun i => i.1 == bank && i.2.1 == entry && i.2.2.2.1 == t)
  let s := s.onCtx c (fun x => { x with departs := x.departs.filter (fun d => kept d.bank d.entry d.t), walk := x.walk.filter (fun w => kept w.bank w.entry w.t) })
  excess.foldl (fun s i => s.runFault c 0x1001 0x13 i.1 i.2.1 i.2.2.1 0 i.2.2.2.1 0 i.2.2.2.2) s

/-- Creates what the plan gives up to a tick: departures, landings, relays, and the stream runs of the repetitions that begin. -/
def State.createInstances (s : State) (c hi : Nat) : State :=
  let lo := (s.ctx c).createdTo
  let (places, und) := s.known c true hi
  let hi' := match und with | some b => min hi b | none => hi
  let s := places.foldl (fun s p =>
    let s := if lo ≤ p.t0 ∧ p.t0 < hi' then s.startRuns c p else s
    (s.entriesIn c p lo hi' (fun _ _ => true)).foldl (fun s j => s.addInstance c p j) s) s
  let s := s.onCtx c (fun x => { x with createdTo := max x.createdTo hi' })
  s.keptArrivals c hi

/-! ### Readiness (01 R46; 07 R273; 08 R309) -/

/-- The quantum an object gives, L where it is zero (01 R67). -/
def State.quantum (s : State) (c key : Nat) : Nat := if s.obj key = 0 then s.lead c else s.obj key

/-- Whether the page or slot of a departure's unit 0 stands at the generation it expects. -/
def State.ready (s : State) (c : Nat) (d : Depart) : Bool :=
  let e := s.mr c d.bank d.entry
  if e.slot then
    match vatOfId e.svat with
    | some v => (Tab.get (fun _ => (0 : Byte)) (s.vat v).slotGen (e.src % 16)).toNat == d.expect
    | none => false
  else (s.pageGen (s.srcAddr c e d.inc 0 / 4096)).toNat == d.expect

/-- Whether a late source faults instead of holding: fixed-clock mode with policy FAULT. -/
def State.lateFaults (s : State) (c : Nat) : Bool := !s.adaptive && s.obj (Obj.fixedLatePolicy c) == 1

/-- A source is late for a tick: a hold of cause 3 at that tick. -/
def State.lateHold (s : State) (c t : Nat) : State := s.raiseHold c t (s.quantum c (Obj.readyQuantum c)) 3 false (some (.lateVat t))

/-- The readiness checks of every departure and gated stream whose tick comes before `hi` and has not been checked. -/
def State.checkReady (s : State) (c hi : Nat) : State :=
  let x := s.ctx c
  let due := x.departs.filter (fun d => decide (x.checkedTo ≤ d.t) && decide (d.t < hi) && !s.superseded c d.bank d.t)
  let s := due.foldl (fun s d =>
    if s.ready c d then s
    else if s.lateFaults c then
      let e := s.mr c d.bank d.entry
      s.runFault c 0x1001 0x11 d.bank d.entry e.faultPort 0 d.t 0 d.k
    else s.lateHold c d.t) s
  let runs := (List.range (hi - x.checkedTo)).flatMap (fun i => (s.unreadyRuns c (x.checkedTo + i)).map (fun e => (e.1, e.2, x.checkedTo + i)))
  let s := runs.foldl (fun s e =>
    if s.lateFaults c then
      s.fault c ⟨0x1001, srcVat e.2.1, e.1.idx, runDetail 0x11 0 e.1.bank (s.activeBank c) 0 e.2.2 0 0 e.1.k, false⟩
    else s.lateHold c e.2.2) s
  s.onCtx c (fun x => { x with checkedTo := max x.checkedTo hi })

/-- Whether something that begins at a tick still waits for its vat. -/
def State.unreadyAt (s : State) (c t : Nat) : Bool :=
  (s.ctx c).departs.any (fun d => d.t == t && !d.begun && !s.superseded c d.bank t && !s.ready c d) || !(s.unreadyRuns c t).isEmpty

/-! ### The selector check (01 R28, R45, R47) -/

/-- Adds to the late-selector hold ticks of a boundary; beyond SELECT_LATE_LIMIT, in ns at 2.56 ns a tick, the job faults (R47). -/
def State.addLate (s : State) (c boundary n : Nat) : State :=
  let old := (s.ctx c).lateSel
  let s := s.onCtx c (fun x => { x with lateSel := old + n })
  let exceeds := fun (k : Nat) => decide (s.obj (Obj.selectLateLimit c) * 100 < k * 256)
  if exceeds (old + n) && !exceeds old then
    s.fault c ⟨0x1006, srcSched c, 0, runDetail 0x17 0 0 0 0 boundary 0 0 0, false⟩
  else s

/-- The selector check: a boundary whose choice is missing L ticks before it raises a hold of cause 5 at its tick. -/
def State.checkLate (s : State) (c hi : Nat) : State :=
  match (s.known c true hi).2 with
  | none => s
  | some b =>
    if hi ≤ b ∨ (s.ctx c).raised.any (fun e => e.2 == .lateSelector b) then s
    else
      let q := s.quantum c (Obj.selectQuantum c)
      (s.raiseHold c b q 5 false (some (.lateSelector b))).addLate c b (encodable q)

/-- What the module does ahead of time at the end of a tick: kept selectors whose segment is now known, budget selectors, instances, capacity,
readiness, missing selectors. -/
def State.lookAhead (s : State) (c : Nat) : State :=
  if (s.ctx c).job != .running then s
  else
    let s := (s.checkSelectors c).emitBudget c
    let n := (s.ctx c).executedTicks
    let l := s.lead c
    let s := s.createInstances c (n + l + 255)
    let s := s.checkCapacity c (min (n + l + 64) (s.ctx c).createdTo)
    let s := s.checkReady c (min (n + l) (s.ctx c).createdTo)
    s.checkLate c (n + l)

/-! ### Fencing (R333-R335) -/

/-- The fenced LNID that suppresses a departure's branch on a port (DEDUCED, log entry 117). -/
def State.fencedBy (s : State) (c : Nat) (e : MrEntry) (bank p : Nat) : Option Nat :=
  if e.mcast = 1 then
    (List.range (s.obj (Obj.routeCount c))).find? (fun l =>
      let r := s.routeEntry c (s.activeBank c) l
      routeV r && !routeSelf r && routePnid r == (s.port p).peer.toNat && s.fenced c l)
  else if e.mcast = 2 then none
  else if s.fenced c e.peer then some e.peer
  else
    let r := s.routeEntry c bank e.peer
    if routeRv r && routeRport r == p && !bitOf (routeDports r) p && s.fenced c (routeRlnid r) then some (routeRlnid r) else none

/-- n suppressed units towards a fenced LNID: counted, and logged at the first suppression, then at most once a second (R335). -/
def State.suppress (s : State) (c l n : Nat) : State :=
  let s := s.bump64 (Obj.fencedUnits c) n
  let x := s.ctx c
  let rest := x.fenceSeen.filter (fun e => e.1 != l)
  let note := fun (s : State) (k : Nat) => s.log (srcFence l) 0x0018 (leBytes 1 c ++ zeros 3 ++ leBytes 8 k)
  match x.fenceSeen.find? (fun e => e.1 == l) with
  | none => note (s.setCtx c { x with fenceSeen := rest ++ [(l, 0, s.times.grid)] }) n
  | some (_, k, g) =>
    if g + ticksPerSecond ≤ s.times.grid then note (s.setCtx c { x with fenceSeen := rest ++ [(l, 0, s.times.grid)] }) (k + n)
    else s.setCtx c { x with fenceSeen := rest ++ [(l, k + n, g)] }

/-! ### Departures (R310-R312, R323, R324; 04 R148-R151) -/

/-- Bytes 0-239 of a departure's unit, read from its source now. -/
def State.readUnit (s : State) (c : Nat) (d : Depart) (i : Nat) : List Byte :=
  s.sramRead (s.srcAddr c (s.mr c d.bank d.entry) d.inc i) 240

/-- Whether a departure's source was late at its check: units fetched before its tick are fetched again (DEDUCED, log entry 33). -/
def State.wasLate (s : State) (c t : Nat) : Bool := (s.ctx c).raised.any (fun e => e.2 == .lateVat t)

/-- Replaces departure number i of a context. -/
def State.setDepart (s : State) (c i : Nat) (d : Depart) : State := s.onCtx c (fun x => { x with departs := x.departs.set i d })

/-- Units of a slot source whose fetch is due by a tick: unit i at T + w i - VFETCH_LEAD (02 R87). -/
def State.prefetch (s : State) (c i t : Nat) : State :=
  match (s.ctx c).departs[i]? with
  | none => s
  | some d =>
    let e := s.mr c d.bank d.entry
    if !e.slot || d.complete || (s.wasLate c d.t && decide (t < d.t)) then s
    else
      let due := (List.range d.live).filter (fun j => decide (d.read ≤ j) && decide (d.t + e.depStep * j ≤ t + s.obj Obj.vfetchLead))
      s.setDepart c i { d with read := d.read + due.length, buf := d.buf ++ due.map (s.readUnit c d) }

/-- Reason a fill word is invalid: a reserved field, or LIVE out of range (R148, R149). -/
def fillBad (w len : Nat) : Option Nat :=
  if fld w 48 16 ≠ 0 ∨ fld w 34 2 ≠ 0 then some 1 else if w % 65536 = 0 ∨ len < w % 65536 then some 2 else none

/-- The sender's signal: every unit has been read from its source and is in the link's replay buffer (R312; DEDUCED, log entry 88). -/
def State.signalRead (s : State) (c i : Nat) : State :=
  match (s.ctx c).departs[i]? with
  | none => s
  | some d =>
    let e := s.mr c d.bank d.entry
    if e.syncop = 2 ∧ !d.signal ∧ d.complete ∧ d.live ≠ 0 then
      let s := s.setDepart c i { d with signal := true }
      (s.syncAdd c e.sync ⟨srcPort e.faultPort, d.entry, 7, (s.ctx c).lnid.toNat, none⟩ 1).2
    else s

/-- The tick of unit 0: the length of a dry-eligible entry is read from its fill word, and fenced branches are left out. -/
def State.startDepart (s : State) (c i t : Nat) : State :=
  match (s.ctx c).departs[i]? with
  | none => s
  | some d =>
    if d.begun || d.t != t then s
    else
      let e := s.mr c d.bank d.entry
      let unit0 := match d.buf with | u :: _ => u | [] => s.readUnit c d 0
      let w := leAt unit0 0 8
      match if e.dry then fillBad w e.len else none with
      | some reason =>
        let s := s.setDepart c i { d with begun := true, live := 0 }
        s.fault c ⟨0x2005, srcPort e.faultPort, d.entry,
          leBytes 6 (s.srcAddr c e d.inc 0) ++ [11, BitVec.ofNat 8 reason] ++ zeros 4 ++ unit0.take 8, false⟩
      | none =>
        let live := if e.dry then w % 65536 else e.len
        let fenced := e.outPorts.filterMap (fun p => (s.fencedBy c e d.bank p).map (fun l => (p, l)))
        let s := s.setDepart c i { d with begun := true, live := live, fenced := fenced }
        let s := fenced.foldl (fun s f => s.suppress c f.2 live) s
        (e.outPorts.filter (fun p => fenced.all (fun f => f.1 != p))).foldl (fun s p => s.bump64 (Obj.dryUnits p) (e.len - live)) s

/-- Whether a departure takes a port on a tick: it is not suppressed there, and a live unit occupies it. -/
def State.departClaims (s : State) (c p t : Nat) (d : Depart) : Bool :=
  let e := s.mr c d.bank d.entry
  e.outPorts.contains p && d.fenced.all (fun f => f.1 != p) && slotTicks d.t e.depStep d.live t

/-- Units an instance expects so far: of a dry-eligible entry only unit 0 until it has come. -/
def Arrive.expected (w : Arrive) (e : MrEntry) : Nat := if e.dry && w.done == 0 then min 1 w.live else w.live

/-- Whether a waiting unit is one of an instance. -/
def RelayUnit.of (r : RelayUnit) (w : Arrive) : Bool := r.bank == w.bank && r.entry == w.entry && r.k == w.k

/-- Whether a relay forwards nothing: FENCE held its PEER's bit when its first unit was to leave, or holds it before that (R333, R334). -/
def State.relayFenced (s : State) (c : Nat) (w : Arrive) : Bool :=
  w.fenced || (s.fenced c (s.mr c w.bank w.entry).peer && (w.done == 0 || (s.ctx c).relays.any (fun r => r.of w && r.index == 0)))

/-- Planned out tick of a relay's unit (R321). -/
def State.outTick (s : State) (c : Nat) (w : Arrive) (i : Nat) : Nat := w.t + (s.mr c w.bank w.entry).delta + unitStep w.port * i

/-- Whether a relay plans a unit on a port and tick. -/
def State.relayClaims (s : State) (c p t : Nat) (w : Arrive) : Bool :=
  let e := s.mr c w.bank w.entry
  let a := s.outTick c w 0
  e.role == 2 && e.port == p && !s.relayFenced c w && decide (a ≤ t) && decide ((t - a) % unitStep w.port = 0) &&
    decide ((t - a) / unitStep w.port < w.expected e)

/-- Whether a relay still awaits a unit that was to leave on a port before a tick. -/
def State.awaits (s : State) (c p t : Nat) (w : Arrive) : Bool :=
  let e := s.mr c w.bank w.entry
  e.role == 2 && e.port == p && !s.relayFenced c w &&
    (List.range (w.expected e)).any (fun i => decide (w.done ≤ i) && !w.lost.contains i && decide (s.outTick c w i < t))

/-- Whether a unit that a port forms for a tick waits behind a late relayed one: units leave in plan order (R322). -/
def State.behind (s : State) (c p t : Nat) : Bool :=
  (s.ctx c).relays.any (fun r => r.port == p && decide (r.planned < t) && decide (s.times.grid < r.ready)) || (s.ctx c).walk.any (s.awaits c p t)

/-- The entry that takes a port on one of n ticks from t before an instance of another entry and tick does: the earlier in table order (R311). -/
def State.winner (s : State) (c p t n entry start : Nat) : Option Nat :=
  let x := s.ctx c
  let ahead := fun (e s' : Nat) => decide (e < entry) || (e == entry && decide (s' < start))
  let ticks := (List.range n).map (fun i => t + i)
  let ds := (x.departs.filter (fun d => ahead d.entry d.t && ticks.any (fun u => s.departClaims c p u d))).map (fun d => d.entry)
  let ws := (x.walk.filter (fun w => ahead w.entry w.t && ticks.any (fun u => s.relayClaims c p u w))).map (fun w => w.entry)
  (ds ++ ws).min?

/-- The unit of a departure that is due on a tick. Answers what left, for the comparator: port and payload. -/
def State.departUnit (s : State) (c i t : Nat) : State × List (Nat × List Byte) :=
  match (s.ctx c).departs[i]? with
  | none => (s, [])
  | some d =>
    let e := s.mr c d.bank d.entry
    if !d.begun || decide (d.live ≤ d.done) || d.t + e.depStep * d.done != t then (s, [])
    else
      let data := match d.buf with | u :: _ => u | [] => s.readUnit c d d.done
      let n := d.done
      let last := e.last && n + 1 == d.live
      let s := s.setDepart c i { d with done := n + 1, read := max d.read (n + 1), buf := d.buf.drop 1 }
      let out := e.outPorts.filter (fun p => d.fenced.all (fun f => f.1 != p))
      out.foldl (fun (a : State × List (Nat × List Byte)) p =>
        match a.1.winner c p t e.depStep d.entry d.t with
        | some second => (a.1.runFault c 0x1002 0x20 d.bank d.entry p n t second d.k, a.2)
        | none =>
          let s := if a.1.behind c p t then a.1.onCtx c (fun x => { x with
              relays := x.relays ++ [⟨p, t, a.1.times.grid, d.bank, d.entry, d.k, n, d.live, last, data⟩] })
            else a.1.sendData p d.bank last data
          (s.bump64 (Obj.departedUnits c) 1, a.2 ++ [(p, data)])) (s, [])

/-- The comparator signs what a context departed on a tick, in port order, on any port but X1 (11 R430). -/
def State.signUnits (s : State) (c : Nat) (l : List (Nat × List Byte)) : State :=
  if s.signs c then
    let ordered := (List.range 33).flatMap (fun p => l.filter (fun e => e.1 == p))
    let cur := s.lock.cur
    { s with lock := { s.lock with cur := { cur with
        ps := ordered.foldl (fun r e => crc64Run r e.2) cur.ps, units := cur.units + BitVec.ofNat 32 ordered.length } } }
  else s

/-- STIME as a relay counts it: it runs on through a hold (R40). -/
def CtxState.virtual (x : CtxState) : Nat :=
  match x.hold with
  | some n => x.stime + n.elapsed
  | none => if x.job = .ended then x.stime + x.tail else x.stime

/-- A unit leaves its port. With a relay's first unit FENCE decides whether its PEER is fenced: then the instance forwards nothing (R333-R335). -/
def State.leave (s : State) (c : Nat) (r : RelayUnit) : State :=
  let e := s.mr c r.bank r.entry
  if e.role ≠ 2 then s.sendData r.port r.bank r.last r.pay
  else if r.index = 0 ∧ s.fenced c e.peer then
    (s.onCtx c (fun x => { x with
      relays := x.relays.filter (fun u => !(u.bank == r.bank && u.entry == r.entry && u.k == r.k)),
      walk := x.walk.map (fun w => if r.of w then { w with fenced := true } else w) })).suppress c e.peer r.live
  else (s.sendData r.port r.bank r.last r.pay).bump64 (Obj.relayedUnits c) 1

/-- The waiting units of a port that may leave: in plan order, each once it is ready and nothing planned before it is awaited (R322). -/
def State.leaving (s : State) (c : Nat) : List RelayUnit :=
  (s.ctx c).relays.filter (fun r => decide (r.ready ≤ s.times.grid) && !s.behind c r.port r.planned)

/-- Puts a waiting unit into plan order. -/
def insertRelay (r : RelayUnit) : List RelayUnit → List RelayUnit
  | [] => [r]
  | x :: t => if r.planned < x.planned then r :: x :: t else x :: insertRelay r t

/-- The units whose turn it is leave on their ports. -/
def State.relayTick (s : State) (c : Nat) : State :=
  let go := (s.leaving c).foldl (fun l r => insertRelay r l) []
  go.foldl (fun s r => if (s.ctx c).relays.contains r then
      (s.onCtx c (fun x => { x with relays := x.relays.erase r })).leave c r
    else s) s

/-- Relay units whose planned out tick is this one, on a port that an earlier entry takes then: a collision, and the unit does not leave (R311). -/
def State.relayCollide (s : State) (c t : Nat) : State :=
  (List.range (s.ctx c).walk.length).foldl (fun s n =>
    match (s.ctx c).walk[n]? with
    | none => s
    | some w =>
      let e := s.mr c w.bank w.entry
      if !s.relayClaims c e.port t w then s
      else match s.winner c e.port t 1 w.entry w.t with
        | none => s
        | some second =>
          let i := (t - s.outTick c w 0) / unitStep w.port
          (s.onCtx c (fun x => { x with
            walk := x.walk.set n { w with lost := w.lost ++ [i] },
            relays := x.relays.filter (fun r => !(r.of w && r.index == i)) })).runFault c 0x1002 0x20 w.bank w.entry e.port i t second w.k) s

/-- Departures and relays of a tick. `start` says that instances may begin. Instances stay until their last planned tick has passed. -/
def State.departTick (s : State) (c t : Nat) (start : Bool) : State :=
  let ids := List.range (s.ctx c).departs.length
  let s := ids.foldl (fun s i => s.prefetch c i t) s
  let s := if start then ids.foldl (fun s i => s.startDepart c i t) s else s
  let s := (s.relayCollide c t).relayTick c
  let (s, out) := ids.foldl (fun (a : State × List (Nat × List Byte)) i =>
    let (s, o) := a.1.departUnit c i t
    (s.signalRead c i, a.2 ++ o)) (s, [])
  let s := s.signUnits c out
  s.onCtx c (fun x => { x with departs := x.departs.filter (fun d =>
    let e := s.mr c d.bank d.entry
    !(d.complete && decide (d.t + e.depStep * e.len ≤ t + 1))) })

/-! ### Deadlines (01 R50; 08 R317) -/

/-- Reports the units of a context's landings whose deadline lies before a tick, each once. -/
def State.checkDeadlines (s : State) (c t : Nat) : State :=
  (List.range (s.ctx c).walk.length).foldl (fun s i =>
    match (s.ctx c).walk[i]? with
    | none => s
    | some w =>
      let e := s.mr c w.bank w.entry
      if e.role ≠ 1 then s
      else
        let from_ := max w.done w.missed
        let late := (List.range (w.expected e)).filter (fun j => decide (from_ ≤ j) && decide (w.t + unitStep w.port * j + e.slack < t))
        let s := s.onCtx c (fun x => { x with walk := x.walk.set i { w with missed := max w.missed (from_ + late.length) } })
        late.foldl (fun s j => s.runFault c 0x1001 0x10 w.bank w.entry w.port j (w.t + unitStep w.port * j) 0 w.k) s) s

/-! ### Draining (R327, R328) -/

/-- Instances of a context's walk that are complete and no longer reserve a tick leave it. -/
def State.sweepWalk (s : State) (c : Nat) : State :=
  s.onCtx c (fun x => { x with walk := x.walk.filter (fun w =>
    let e := s.mr c w.bank w.entry
    !(w.complete && (e.role == 1 || decide (w.t + e.delta + unitStep w.port * e.len ≤ x.stime + x.tail)))) })

/-- A DRAINING bank whose kept instances have all completed becomes LOADED, but not one with a fault. -/
def State.checkDrained (s : State) (c : Nat) : State :=
  let x := s.ctx c
  [0, 1].foldl (fun s b =>
    if x.bank b = .draining ∧ !x.badBanks.contains b ∧ x.departs.all (fun d => d.bank != b || d.complete) ∧ x.walk.all (fun w => w.bank != b || w.complete) ∧
        x.relays.all (fun r => r.bank != b) then
      (s.onCtx c (fun x => x.setBank b .loaded)).log (srcSched c) 0x0017 (leBytes 6 x.sigma ++ leBytes 1 (1 - b + 128))
    else s) s

end Sys2Proof.Machine
end

