-- ==== Sys2Proof/Machine/Lock.lean ====
section
/-! DEFINITION. Lock-step comparison: the signatures of a phase, the signature unit, and the comparison (11 R429-R431). -/
namespace Sys2Proof.Machine
open Sys2Proof

/-- The payload of a signature unit (R430). -/
def Signature.bytes (g : Signature) : List Byte :=
  leBytes 8 g.step.toNat ++ leBytes 8 g.ps.toNat ++ leBytes 8 g.ds.toNat ++ leBytes 4 g.units.toNat ++ leBytes 4 g.grans.toNat

/-- A signature from a unit's payload. -/
def Signature.ofBytes (b : List Byte) : Signature :=
  ⟨BitVec.ofNat 64 (leAt b 0 8), BitVec.ofNat 64 (leAt b 8 8), BitVec.ofNat 64 (leAt b 16 8), BitVec.ofNat 32 (leAt b 24 4),
    BitVec.ofNat 32 (leAt b 28 4)⟩

/-- The cause of a divergence of two signatures of one phase, if they differ (R431). -/
def Signature.differs (a b : Signature) : Option Nat :=
  if a.ps ≠ b.ps ∧ a.ds ≠ b.ds then some 3 else if a.ps ≠ b.ps then some 1 else if a.ds ≠ b.ds then some 2
  else if a.units ≠ b.units ∨ a.grans ≠ b.grans then some 6 else none

/-- Compares own phases with those of the peer that have come, in step order; a matched phase is counted (R431). -/
def State.compareStep (s : State) (own : Signature) : State :=
  match s.lock.peer.find? (fun p => p.step == own.step) with
  | none => s
  | some p =>
    let s := { s with lock := { s.lock with own := s.lock.own.filter (fun x => x.step != own.step),
                                            peer := s.lock.peer.filter (fun x => x.step != own.step) } }
    match own.differs p with
    | none => s.bump64 Obj.lockstepPhases 1
    | some cause => if cause = 2 then s.diverge 2 own.step own.ds p.ds else s.diverge cause own.step own.ps p.ps

/-- The same for every own phase. -/
def State.comparePhases (s : State) : State := s.lock.own.foldl State.compareStep s

/-- A phase closes at a tick: its signatures are formed, sent on X1 and kept for the comparison; more than LOCKSTEP_DEPTH unmatched phases are a
divergence (R430, R431). -/
def State.closePhase (s : State) (c t : Nat) : State :=
  if !s.signs c then s
  else
    let mine := s.lock.grans.filter (fun g => decide (s.slotTick g.1 < t))
    let cur := s.lock.cur
    let g : Signature := ⟨(s.ctx c).step, ~~~ cur.ps, ~~~ (mine.foldl (fun r e => crc64Run r e.2.2) (BitVec.allOnes 64)), cur.units,
      BitVec.ofNat 32 mine.length⟩
    let later := s.lock.grans.filter (fun g => !decide (s.slotTick g.1 < t))
    let s : State := { s with lock := { s.lock with cur := Signature.reset, grans := later, own := s.lock.own ++ [g] } }
    let s := if s.obj Obj.lockstepTrace = 1 then s.log srcLock 0x0080 (leBytes 8 g.step.toNat ++ leBytes 8 g.ps.toNat) else s
    let s := (s.sendData 33 0 false g.bytes).comparePhases
    match s.lock.own with
    | o :: _ => if s.obj Obj.lockstepDepth ≤ s.lock.own.length then s.diverge 4 o.step o.ps 0 else s
    | [] => s

end Sys2Proof.Machine
end

