-- ==== Sys2Proof/Machine/Votes.lean ====
section
/-! DEFINITION. Power domains: vote slots, targets, rises, and the order in which domains move (12 R455-R461). -/
namespace Sys2Proof.Machine
open Sys2Proof

/-! ### Domains and levels (R455, R467) -/

/-- The code of a level: a greater one is less awake. -/
def Level.code : Level → Nat
  | .run => 0
  | .idle => 1
  | .sleep => 2
  | .deep => 3

/-- The level of a code. -/
def levelOf (n : Nat) : Level := if n = 0 then .run else if n = 1 then .idle else if n = 2 then .sleep else .deep

/-- The number of a domain. -/
def domainCode : Domain → Nat
  | .compute => 0
  | .fabric => 1
  | .memory => 2
  | .host => 3

/-- A domain's state. -/
def State.domain (s : State) : Domain → DomainState
  | .compute => s.power.compute
  | .fabric => s.power.fabric
  | .memory => s.power.memory
  | .host => s.power.host

/-- Replaces a domain's state. -/
def State.setDomain (s : State) (d : Domain) (x : DomainState) : State :=
  match d with
  | .compute => { s with power := { s.power with compute := x } }
  | .fabric => { s with power := { s.power with fabric := x } }
  | .memory => { s with power := { s.power with memory := x } }
  | .host => { s with power := { s.power with host := x } }

/-- Whether a domain is on its way down (R460). -/
def DomainState.descending (x : DomainState) : Bool :=
  match x.moving with
  | some l => decide (x.level.code < l.code)
  | none => false

/-! ### Vote words (R457, R458) -/

/-- A vote word from its client and floors; 0xF is no floor. -/
def voteWord (client compute fabric memory host : Nat) : W32 :=
  BitVec.ofNat 32 (2 ^ 31 + client * 2 ^ 16 + host * 2 ^ 12 + memory * 2 ^ 8 + fabric * 2 ^ 4 + compute)

/-- Whether the active bank of a running context holds a relay entry. -/
def State.relays (s : State) : Bool :=
  allCtxs.any (fun c => (s.ctx c).job == .running &&
    (List.range (s.obj (Obj.mrCount c))).any (fun i => (s.mr c (s.activeBank c) i).role == 2))

/-- Whether the banks of a context hold a departure or landing entry. -/
def State.movesData (s : State) (c : Nat) : Bool :=
  [0, 1].any (fun b => (s.ctx c).bank b != .empty && (List.range (s.obj (Obj.mrCount c))).any (fun i => decide ((s.mr c b i).role < 2)))

/-- The vote of a context. -/
def State.ctxVote (s : State) (c : Nat) : W32 :=
  if (s.ctx c).busy then
    voteWord c (if (List.range 320).any (s.assigned c) then 0 else 0xF) (if s.movesData c then 0 else 1)
      (if (List.range 512).any (fun i => bitOf (s.domLe (Obj.frameMap c) (4 * i) 4) 31) then 0 else 0xF) 0xF
  else 0

/-- Whether the module holds a request not yet answered (slot 22): one it serves now, or one of an engine slot. -/
def State.holdsRequest (s : State) : Bool := s.power.held.isSome || s.host.engines.any (fun e => e.2.busy)

/-- The vote of held requests: FABRIC and the domain addressed (R458). -/
def State.heldVote (s : State) : W32 :=
  let f := fun (d : Domain) => if s.power.held = some d then 1 else 0xF
  voteWord clNone (f .compute) 1 (f .memory) (f .host)

/-- The owner of an X port that holds slot 23: lock-step, storage attach or a bridge. -/
def State.xClient (s : State) : Option Nat :=
  ([s.obj (Obj.xOwner 0), s.obj (Obj.xOwner 1)]).find? (fun o => o == clLock || o == clStorage || o == clBridge)

/-- The vote word of a slot; zero where none stands. R433 has no client code for slots 18, 19 and 22: they show none (DESIGN CHOICE, log entry 47). -/
def State.vote (s : State) (n : Nat) : W32 :=
  if n < 16 then s.ctxVote n
  else match n with
    | 16 => Tab.get (fun _ => 0) s.power.votes 16
    | 17 =>
      if s.power.wakeHold then voteWord clMp 0xF 1 0xF 1
      else if s.power.busyMp then voteWord clMp 0xF 1 0xF 0xF else 0
    | 18 => if s.relays then voteWord clNone 0xF 0 0xF 0xF else 0
    | 19 => if s.skim.reqs.isEmpty && s.skim.waiting.isEmpty then 0 else voteWord clNone 0xF 1 0xF 0xF
    | 20 => Tab.get (fun _ => 0) s.power.votes 20
    | 21 => Tab.get (fun _ => 0) s.power.votes 21
    | 22 => if s.holdsRequest then s.heldVote else 0
    | 23 => match s.xClient with
      | some o => voteWord o 0xF 1 0xF 0xF
      | none => 0
    | _ => 0

/-- Whether a slot's vote stands. -/
def State.stands (s : State) (n : Nat) : Bool := bitOf (s.vote n).toNat 31

/-- The standing slots, one bit each (R467). -/
def State.standing (s : State) : Nat := (List.range 24).foldl (fun m n => if s.stands n then m + 2 ^ n else m) 0

/-! ### Targets (R459) -/

/-- The most awake of a domain's floor and its votes, before the constraints; `at_` is the field's bit in a vote word. -/
def State.wanted (s : State) (votes : List W32) (floor at_ : Nat) : Nat :=
  votes.foldl (fun m w => if bitOf w.toNat 31 then min m (fld w.toNat at_ 4) else m) (s.obj (Obj.policyFloor floor))

/-- The target of every domain: COMPUTE, FABRIC, MEMORY, HOST. -/
def State.targets (s : State) : Nat × Nat × Nat × Nat :=
  let votes := (List.range 24).map s.vote
  let c := s.wanted votes 0 0
  let m := min (s.wanted votes 2 8) c
  let h := s.wanted votes 3 12
  (c, min (min (s.wanted votes 1 4) m) h, m, h)

/-- The target of a domain. -/
def State.target (s : State) (d : Domain) : Nat :=
  let (c, f, m, h) := s.targets
  match d with
  | .compute => c
  | .fabric => f
  | .memory => m
  | .host => h

/-- Whether a domain rises, or is to rise when its descent completes. -/
def State.rising (s : State) (d : Domain) : Bool :=
  let x := s.domain d
  match x.moving with
  | some l => decide (l.code < x.level.code) || decide (s.target d < l.code)
  | none => decide (s.target d < x.level.code)

/-- Whether a domain may rise: those that must be at least as awake are so already, and of domains that rise together FABRIC is up before MEMORY and
HOST, and these before COMPUTE (R455, R459). -/
def State.mayRise (s : State) (d : Domain) (lv : Nat) : Bool :=
  let ok := fun (x : DomainState) => decide (x.level.code ≤ lv) && !x.descending
  match d with
  | .fabric => true
  | .memory => ok s.power.fabric && !s.rising .fabric
  | .host => ok s.power.fabric && !s.rising .fabric
  | .compute => ok s.power.fabric && ok s.power.memory && !s.rising .fabric && !s.rising .memory && !s.rising .host

/-- Begins the rise of a domain whose target is more awake. -/
def State.rise (s : State) (d : Domain) : State :=
  let x := s.domain d
  let t := s.target d
  if x.moving.isNone ∧ t < x.level.code ∧ s.mayRise d t then s.setDomain d { x with moving := some (levelOf t) } else s

/-- A fall that waits for its turn is given up where the target no longer lies below (R459). -/
def State.dropDue (s : State) (d : Domain) : State :=
  let x := s.domain d
  if x.due && decide (s.target d ≤ x.level.code) then s.setDomain d { x with due := false } else s

/-- Begins every rise that is due (DEDUCED, log entry 48). -/
def State.settlePower (s : State) : State :=
  let still := fun (x : DomainState) => x.level == .run && !x.due
  if still s.power.fabric && still s.power.compute && still s.power.memory && still s.power.host then s
  else
    let s := (((s.dropDue .fabric).dropDue .memory).dropDue .host).dropDue .compute
    (((s.rise .fabric).rise .memory).rise .host).rise .compute

/-- Whether the domains that may not be more awake have fallen, and of domains that fall together COMPUTE before MEMORY and HOST, and FABRIC
last (R455, R459). -/
def State.mayFall (s : State) (d : Domain) (lv : Nat) : Bool :=
  let ok := fun (x : DomainState) => decide (lv ≤ x.level.code) && (match x.moving with | some l => decide (lv ≤ l.code) | none => true)
  match d with
  | .compute => true
  | .memory => ok s.power.compute
  | .host => ok s.power.compute || !(s.power.compute.due || s.power.compute.descending)
  | .fabric => ok s.power.compute && ok s.power.memory && ok s.power.host

/-- Whether a fall of one level may begin: FLOOR_DELAY has passed, the target lies below, it is the domain's turn, and no held request waits for an
answer (R459, R460). -/
def State.fallDue (s : State) (d : Domain) : Bool :=
  let x := s.domain d
  x.due && x.moving.isNone && decide (x.level.code < s.target d) && s.mayFall d (x.level.code + 1) && !s.holdsRequest

end Sys2Proof.Machine
end

