-- ==== Sys2Proof/Machine/Tick.lean ====
section
/-! DEFINITION. One grid tick: the time bases, the schedule clock of every context with its passages, holds, soft resume and job end, the ports, the
event queues of the vats and the records bound for remote host queues (01 R11-R53; 08 R301, R326-R331; 13 R487-R490). -/
namespace Sys2Proof.Machine
open Sys2Proof

/-! ### Passages (01 R23-R25; 08 R301, R326-R331) -/

/-- The step counter advances at a tick: the boundary is remembered, the selector of the step that ends is used up (R24, R191, R326). -/
def State.nextStep (s : State) (c t : Nat) : State :=
  let s := s.closePhase c t
  s.onCtx c (fun x => { x with
    step := x.step + 1, crossed := x.crossed + 1, boundaries := ((t, x.step + 1) :: x.boundaries).take 16, lateSel := 0,
    selectors := x.selectors.filter (fun e => e.step != x.step.setWidth 32) })

/-- LNID of the module in a bank: its SELF entry (R294). -/
def State.selfLnid (s : State) (c b : Nat) : Nat := ((List.range (s.obj (Obj.routeCount c))).find? (fun l => routeSelf (s.routeEntry c b l))).getD 0

/-- An epoch switch takes effect at a tick (R326, R327, R331). -/
def State.takeSwitch (s : State) (c t : Nat) : State :=
  let old := s.activeBank c
  let new := 1 - old
  let changed := (List.range (s.obj (Obj.routeCount c))).filter (fun l =>
    s.fenced c l && routePnid (s.routeEntry c old l) != routePnid (s.routeEntry c new l))
  let s := changed.foldl (fun s l =>
    s.setDom (Obj.fence c) (l / 8) [BitVec.ofNat 8 (s.domLe (Obj.fence c) (l / 8) 1 - 2 ^ (l % 8))]) s
  let s := s.nextStep c t
  let s := s.onCtx c (fun x =>
    let x := (x.setBank old .draining).setBank new .active
    { x with switch := none, sigma := t, lnid := BitVec.ofNat 12 (s.selfLnid c new),
             departs := x.departs.filter (fun d => d.bank != old || d.begun || decide (d.t < t)),
             walk := x.walk.filter (fun w => w.bank != old || decide (w.t < t + (s.mr c old w.entry).lat)) })
  let s := { s with mem := { s.mem with streams := s.mem.streams.filter (fun r =>
    !(r.ctx == c && r.bank == old && !r.begun && decide (t ≤ r.ts))) } }
  (s.setObj (Obj.activeBank c) new).log (srcSched c) 0x0017 (leBytes 6 t ++ leBytes 1 new)

/-- The leader of a retrain whose context will not freeze at its start names an FTIME instant instead (09 R349). -/
def State.abandonRetrain (s : State) (c : Nat) : State :=
  allPorts.foldl (fun s p => match (s.port p).retrain with
    | some r => if r.jobn = some (BitVec.ofNat 4 (s.jobn c)) ∧ r.lead then
        s.stirPort p (fun x => { x with retrain := some ⟨true, none, gridUp (s.times.ftime.toNat + 64 * 16)⟩, wantRetrain := true })
      else s
    | none => s) s

/-- Job end: nothing new begins, STIME stops, what has begun goes on (R301). -/
def State.endJob (s : State) (c t : Nat) : State :=
  let s := s.closePhase c t
  let s := (s.onCtx c (fun x => { x with
    job := .ended, place := none, executed := true, tail := 0, departs := x.departs.filter (fun d => d.begun) })).abandonRetrain c
  let s := { s with mem := { s.mem with streams := s.mem.streams.filter (fun r => r.ctx != c || r.begun) } }
  (s.log (srcSched c) 0x0016 (leBytes 6 t)).settleIslands

/-- What the schedule passes at the beginning of a tick: nothing, a further repetition, a boundary, a switch or the job's end. -/
def State.passTick (s : State) (c t : Nat) : State :=
  match (s.ctx c).place with
  | none => s
  | some p =>
    if s.placeEnd c true p ≠ t then s
    else match s.nextPlace c true p with
      | .place q .within => s.onCtx c (fun x => { x with place := some q })
      | .place q (.boundary j) =>
        let s := (s.nextStep c t).onCtx c (fun x => { x with place := some q })
        if (s.seg c p.bank p.seg).selsrc = 1 then s.setVariant c j t else s
      | .place q .switch => (s.takeSwitch c t).onCtx c (fun x => { x with place := some q })
      | .ended => s.endJob c t
      | .undecided => s

/-- Whether a tick cannot execute because the boundary it begins has no choice yet (DEDUCED, log entry 35). -/
def State.blocked (s : State) (c t : Nat) : Bool :=
  match (s.ctx c).place with
  | some p => s.placeEnd c true p == t && (match s.nextPlace c true p with | .undecided => true | _ => false)
  | none => false

/-! ### A tick executes (R13, R40) -/

/-- The throttle hold of the power governor (12 R448). -/
def State.throttle (s : State) (c t : Nat) : State :=
  let l := s.lead c
  if s.power.theta ≠ 0 ∧ (t + l) % s.obj Obj.throttleFrame = 0 then s.raiseHold c (t + l) (24 * s.power.theta) 4 true none else s

/-- Executes the tick STIME shows. At a job's end what has begun goes on with the same tick (R301). -/
def State.runStime (s : State) (c : Nat) : State :=
  let t := (s.ctx c).stime
  if s.blocked c t then s
  else
    let s := s.passTick c t
    if (s.ctx c).job ≠ .running then ((s.fetchRuns c t).departTick c t false).sweepWalk c |>.checkDrained c
    else
      let s := (s.onCtx c (fun x => { x with executed := true })).countRefresh c
      let s := (s.beginRuns c t).fetchRuns c t
      let s := s.departTick c t true
      let s := ((s.checkDeadlines c t).throttle c t).lookAhead c
      (s.sweepWalk c).checkDrained c

/-! ### Holds (R34, R38, R40-R43, R51-R53, R592) -/

/-- The records of a context that start at a tick. -/
def CtxState.recordsAt (x : CtxState) (t : Nat) : List HoldRec := x.holds.filter (fun h => h.start == t)

/-- The longest of some records: of equal ones that of the lowest ORIGIN (R53). -/
def longestRec : List HoldRec → Option HoldRec
  | [] => none
  | h :: t => match longestRec t with
    | none => some h
    | some k => if longer k.dur h.dur ∨ (¬ longer h.dur k.dur ∧ k.origin.toNat < h.origin.toNat) then some k else some h

/-- Logs a hold: the event, and the same record in HOLD_LOG, which keeps 256 (R53, R67). -/
def State.logHold (s : State) (c start len : Nat) (soft indef : Bool) : State :=
  let l := (s.ctx c).recordsAt start
  let causes := l.foldl (fun m h => m ||| BitVec.ofNat 8 (2 ^ h.cause)) (0 : Byte)
  let origin := match longestRec l with | some h => h.origin.toNat | none => 0
  let flags := b2n (l.any (fun h => h.power)) + 2 * b2n soft + 4 * b2n indef
  let detail := leBytes 6 start ++ leBytes 4 len ++ leBytes 1 causes.toNat ++ leBytes 1 flags ++ leBytes 2 origin ++ leBytes 2 l.length
  let seq := Tab.get (fun _ => (0 : W32)) s.events.seqs (srcSched c)
  let e : Event := ⟨BitVec.ofNat 16 (srcSched c), 0x0010, seq, s.times.ftime, padTo 16 detail, none⟩
  let s := s.onCtx c (fun x => { x with holdLog := (x.holdLog ++ [e]).drop (x.holdLog.length + 1 - 256) })
  s.log (srcSched c) 0x0010 detail

/-- An indefinite hold is logged when it begins (R416). -/
def State.logIndef (s : State) (c : Nat) : State :=
  match (s.ctx c).hold with
  | some n =>
    if n.indef && !n.logged then
      (s.onCtx c (fun x => { x with hold := some { n with logged := true } })).logHold c n.start 0 false true
    else s
  | none => s

/-- The vats of a context stop where they are: a power fail stops the C-dies at the hold's start (12 R452). -/
def State.stopVats (s : State) (c : Nat) : State :=
  ((List.range 320).filter (fun v => s.vatCtx v == some c && !(s.vat v).gated)).foldl (fun s v => s.onVat v (fun x => { x with gated := true })) s

/-- A grid tick that a hold takes: THROTTLE_TICKS, HOLD_LIMIT, open rows, a power fail (R43; 07 R269; 12 R449, R452). -/
def State.heldTick (s : State) (c : Nat) : State :=
  match (s.ctx c).hold with
  | none => s
  | some n =>
    let x := s.ctx c
    let s := if bitOf n.causes.toNat 4 then s.bump64 (Obj.throttleTicks c) 1 else s
    let dies := [0, 1].filter (fun d => s.obj (Obj.streamOwner d) == c && !s.mem.closed.any (fun e => e.1 == d))
    let s := if n.indef || decide (s.obj Obj.rowKeep < n.total) then dies.foldl State.precharge s else s
    let s := if n.indef && s.power.fail != .none then s.stopVats c else s
    let s := s.logIndef c
    if !x.exempt && !x.limitHit && decide (s.obj (Obj.holdLimit c) * 100000 < (x.chain + n.elapsed + 1) * 256) then
      (s.onCtx c (fun x => { x with limitHit := true })).fault c (holdLimitInfo (srcSched c) 1 n.start)
    else s

/-- STIME freezes: the union of the records of its tick, at least the relay span long (R38). -/
def State.freeze (s : State) (c : Nat) : State :=
  let x := s.ctx c
  let l := x.recordsAt x.stime
  let total := l.foldl (fun m h => max m (h.dur.getD 0)) (s.obj (Obj.relaySpan c))
  let causes := l.foldl (fun m h => m ||| BitVec.ofNat 8 (2 ^ h.cause)) (0 : Byte)
  let origin := match longestRec l with | some h => h.origin | none => 0
  let n : HoldNow := ⟨x.stime, total, l.any (fun h => h.dur.isNone), l.any (fun h => h.power), causes, origin, l.length, 0, false⟩
  let s := s.setCtx c { x with hold := some n, exempt := x.exempt || l.any (fun h => decide (6 ≤ h.cause)) }
  (s.heldTick c).relayTick c

/-- The tick STIME shows begins: it freezes if a record names it, and otherwise executes. -/
def State.beginTick (s : State) (c : Nat) : State :=
  if ((s.ctx c).recordsAt (s.ctx c).stime).isEmpty then s.runStime c else s.freeze c

/-- STIME steps to the next tick, once the one it shows has executed. -/
def State.stepStime (s : State) (c : Nat) : State :=
  s.onCtx c (fun x => if x.executed then { x with stime := x.stime + 1, executed := false } else x)

/-- Whether a record continues the hold of a start: it names the next tick, with an origin and cause of the hold's longest records (R592). -/
def CtxState.continues (x : CtxState) (start : Nat) : Bool :=
  (x.recordsAt start).any (fun h => h.dur == some longestHold && (x.recordsAt (start + 1)).any (fun k => k.origin == h.origin && k.cause == h.cause))

/-- The release of the hold in force: it is logged, its records leave the table, islands run again, tick S executes (R34, R40, R51-R53, R592). -/
def State.release (s : State) (c : Nat) : State :=
  match (s.ctx c).hold with
  | none => s
  | some n =>
    let len := n.elapsed
    let soft := decide (1562 < len)
    let s := s.logHold c n.start len soft false
    let s := (s.reactivate c).refreshedBy c n.start len
    let s := s.onCtx c (fun x =>
      let on := x.continues n.start
      let x := { x with chain := if on then x.chain + len else 0, exempt := on && x.exempt, limitHit := on && x.limitHit }
      { x with hold := none, holds := x.holds.filter (fun h => h.start != n.start), raised := x.raised.filter (fun e => e.1 != n.start),
               soft := if soft then some ⟨0⟩ else x.soft })
    (s.ungate c).runStime c

/-- A grid tick of a running context: a hold counts on, a soft resume runs or stands, STIME advances (R40, R51, R52). -/
def State.ctxTick (s : State) (c : Nat) : State :=
  let x := s.ctx c
  match x.hold with
  | some n =>
    let s := s.setCtx c { x with hold := some { n with elapsed := n.elapsed + 1 } }
    if !n.indef && decide (n.total ≤ n.elapsed + 1) then s.onCtx c (fun x => { x with deferred := true })
    else (s.heldTick c).relayTick c
  | none =>
    match x.soft with
    | none => (s.stepStime c).beginTick c
    | some r =>
      let pos := r.at_ + 1
      if 3125 ≤ pos then ((s.onCtx c (fun x => { x with soft := none })).stepStime c).beginTick c
      else
        let s := (s.onCtx c (fun x => { x with soft := some ⟨pos⟩ })).stepStime c
        if pos % 125 = 0 then s.onCtx c (fun x => { x with deferred := true })
        else if pos % 125 < 5 * (pos / 125 + 1) then s.beginTick c
        else s.relayTick c

/-- A grid tick after a job's end: what has begun departs, is relayed and drains (R301). -/
def State.tailTick (s : State) (c : Nat) : State :=
  let x := s.ctx c
  if x.departs.isEmpty && x.relays.isEmpty && x.walk.isEmpty && s.mem.streams.all (fun r => r.ctx != c) then s
  else
    let s := s.onCtx c (fun x => { x with tail := x.tail + 1 })
    let t := x.stime + x.tail + 1
    let s := s.fetchRuns c t
    ((s.departTick c t false).sweepWalk c).checkDrained c

/-- The tick that HOLD_RELEASE or SOFT_RESUME_WINDOW stands for (DEDUCED, log entry 80). -/
def State.resume (s : State) (c : Nat) : State :=
  let s := s.onCtx c (fun x => { x with deferred := false })
  let s := if (s.ctx c).hold.isSome then s.release c else (s.ungate c).beginTick c
  (s.jobPorts c).foldl State.portTick s

/-! ### Time bases (R11, R14, R17, R20, R21) -/

/-- FTIME runs on to its next multiple of 16, 16 units but after a step; a slew is worked off by one unit in 64 F-die cycles. HTIME and ATIME count on (DEDUCED, log entry 74). -/
def State.advanceTime (s : State) : State :=
  let t := s.times
  let h := t.hfrac + 4 * (64 * ((2 ^ 32 : Int) + t.hrate.toInt)).toNat
  let a := t.afrac + 256
  let slew := if (t.grid + 1) % 16 = 0 then (if 0 < t.slew then t.slew - 1 else if t.slew < 0 then t.slew + 1 else 0) else t.slew
  let t := { t with ftime := BitVec.ofNat 64 (t.ftime.toNat / 16 * 16 + 16), grid := t.grid + 1, hfrac := h % (100 * 2 ^ 32), afrac := a % 100000, slew := slew }
  { s with times := { t with htime := t.htime + BitVec.ofNat 64 (h / (100 * 2 ^ 32)), atime := t.atime + BitVec.ofNat 48 (a / 100000) } }

/-! ### Records bound for remote queues (13 R487-R490) -/

/-- Where a queue's records leave to: an X port with a bridge, or the proxy. -/
def State.remoteHome (s : State) (q : Nat) : Option (Nat × Nat) :=
  let home := s.obj Obj.proxyHome
  if bitOf (s.obj Obj.bridgeQueues) q then
    ([0, 1].find? (fun i => s.obj (Obj.xOwner i) == clBridge)).map (fun i => (32 + i, (s.port (32 + i)).peer.toNat % 512))
  else if s.host.linkUp || decide (512 ≤ home) then none
  else some (s.nextHop home, home)

/-- The oldest record bound for a queue before which no record of its source waits for an acknowledgement: one source's records are acknowledged in
SEQ order, whichever queues they go to (R488). -/
def State.nextRecord (s : State) (q : Nat) : Option Event :=
  s.events.ring.find? (fun e => e.queue == some q &&
    match s.events.ring.find? (fun f => f.source == e.source && (match f.queue with | some k => (s.remoteHome k).isSome | none => false)) with
    | some f => f.seq == e.seq
    | none => true)

/-- Sends the next record bound for a remote queue, one at a time (R488). -/
def State.pumpQueue (s : State) (q : Nat) : State :=
  if s.events.mute || s.skim.reqs.any (fun r => match r.issuer with | .event k _ _ => k == q | _ => false) ||
      s.skim.waiting.any (fun r => match r.1 with | .event k _ _ => k == q | _ => false) then s
  else match s.remoteHome q, s.nextRecord q with
    | some (p, dst), some e =>
      if s.portQueues p then
        s.issueOn p (.event q e.source e.seq) (mkMsg 0x10 false 0 0 0 s.pnid dst (padTo 48 (e.bytes ++ leBytes 1 q)))
      else s
    | _, _ => s

/-- The same for every queue (DEDUCED, log entry 83). -/
def State.pump (s : State) : State := (List.range 8).foldl State.pumpQueue s

/-! ### GRID_TICK -/

/-- Ticks that HOLD_RELEASE or SOFT_RESUME_WINDOW should have run and did not run now, before the next (DESIGN CHOICE, log entry 36). -/
def State.settleTicks (s : State) : State := allCtxs.foldl (fun s c => if (s.ctx c).deferred then s.resume c else s) s

/-- One grid tick of every context (DEDUCED, log entry 79). -/
def State.ctxTicks (s : State) : State :=
  allCtxs.foldl (fun s c =>
    match (s.ctx c).job with
    | .running => s.ctxTick c
    | .ended => s.tailTick c
    | _ => s) s

/-- One grid tick of every port whose context does not wait for its own command. -/
def State.portTicks (s : State) : State :=
  allPorts.foldl (fun s p => match s.portCtx p with
    | some c => if (s.ctx c).deferred then s else s.portTick p
    | none => s.portTick p) s

/-- The vats' event queues drain, in vat order (05 R189; DEDUCED, log entry 69). -/
def State.drainVats (s : State) : State := (s.vats.map (fun e => e.1)).foldl State.drainEvents s

/-- The module is in DEEP or OFF, or a power fail has taken its links: its pins and links are dead. -/
def State.dark (s : State) : Bool := s.power.off || s.power.saved || s.power.fail == .committed

/-- ATIME alone counts on: it runs through DEEP (R21; 12 R464). -/
def State.advanceAtime (s : State) : State :=
  let t := s.times
  let a := t.afrac + 256
  { s with times := { t with afrac := a % 100000, atime := t.atime + BitVec.ofNat 48 (a / 100000) } }

/-- HOLD_RELEASE: the hold's duration has expired; tick S executes. -/
def execHoldRelease (c : CtxId) (s : State) : Host.Outcome State Fault Refusal :=
  answer s (if (s.ctx c).deferred && (s.ctx c).hold.isSome then s.resume c else s)

/-- SOFT_RESUME_WINDOW: the next window of a soft resume begins and STIME runs. -/
def execSoftResumeWindow (c : CtxId) (s : State) : Host.Outcome State Fault Refusal :=
  answer s (if (s.ctx c).deferred && (s.ctx c).hold.isNone then s.resume c else s)

end Sys2Proof.Machine
end

