-- ==== Sys2Proof/Machine/HoldIn.lean ====
section
/-! DEFINITION. Hold requests that arrive, and the extension of this module's own holds (01 R29-R32, R36, R39, R44, R45, R592). -/
namespace Sys2Proof.Machine
open Sys2Proof

/-- The start tick a START field names: the value congruent to it modulo 1,024 in [now - 256, now + 767] (R32). -/
def reconstruct (now start : Nat) : Int := (now : Int) - 256 + ((start : Int) - ((now : Int) - 256)) % 1024

/-- A request before launch may name a tick below 0; it is kept as its value modulo 2^48 and judged at launch (R39). -/
def preLaunchStart (start : Nat) : Nat := wrap 48 (reconstruct 0 start)

/-- Whether a request for a tick is late: the tick has passed, or has begun. During a hold at the tick only an extension, whose key stands in the
table, is in time (R31, R39). -/
def CtxState.lateFor (x : CtxState) (t : Int) (origin : BitVec 12) : Bool :=
  decide (t < x.stime) || (decide (t = x.stime) &&
    (x.executed || (x.hold.isSome && !x.holds.any (fun h => h.origin == origin && h.start == x.stime))))

/-- The record of a hold field with a start. -/
def fieldRec (f start : Nat) : HoldRec :=
  ⟨BitVec.ofNat 12 (fld f 23 12), start, fieldsDur (fld f 10 7) (fld f 17 2), fld f 20 3, bitOf f 19⟩

/-- A request of no job armed or running: counted, and logged at most once a second per port (R36). -/
def State.discardHold (s : State) (p f : Nat) : State :=
  let s := s.bump32 Obj.holdDiscardedCount 1
  let x := s.port p
  if x.discardAt = 0 ∨ x.discardAt - 1 + ticksPerSecond ≤ s.times.grid then
    (s.setPort p { x with discardAt := s.times.grid + 1 }).log (srcPort p) 0x0011 (leBytes 5 f)
  else s

/-- A hold field that arrived on a port. -/
def State.holdArrive (s : State) (p f : Nat) : State :=
  if !bitOf f 39 then s
  else match s.ctxOfJob (fld f 35 4) with
    | none => s.discardHold p f
    | some c =>
      let x := s.ctx c
      if fld f 10 7 = 0 then s.log (srcSched c) 0x0011 (leBytes 5 f)
      else if x.job = .armed then s.acceptHold c (fieldRec f (preLaunchStart (fld f 0 10))) (some p)
      else
        let t := reconstruct x.stime (fld f 0 10)
        if x.lateFor t (BitVec.ofNat 12 (fld f 23 12)) then s.fault c (schedMiss (srcSched c) 0x14)
        else s.acceptHold c (fieldRec f t.toNat) (some p)

/-- HOLD_REQUEST: a hold field arrives in a flow unit header on a port. -/
def execHoldRequest (p : PortId) (f : BitVec 40) (s : State) : Host.Outcome State Fault Refusal := answer s (s.holdArrive p f.toNat)

/-! ### Extension (R31, R44, R45, R592) -/

/-- Length of the union of the records of a tick, as it would be applied (R38); none is indefinite. -/
def State.unionLen (s : State) (c t : Nat) : Option Nat :=
  ((s.ctx c).recordsAt t).foldl (fun m h => match m, h.dur with
    | some a, some b => some (max a b)
    | _, _ => none) (some (s.obj (Obj.relaySpan c)))

/-- Grid ticks until the release of the hold of a start, where they are known: the freeze comes S - STIME ticks on, later by what remains of a
hold in force. -/
def State.untilRelease (s : State) (c t : Nat) : Option Nat :=
  let x := s.ctx c
  match x.hold with
  | some n =>
    if n.indef then none
    else if n.start = t then some (n.total - n.elapsed)
    else (s.unionLen c t).map (fun d => n.total - n.elapsed + (t - x.stime) + d)
  | none => (s.unionLen c t).map (fun d => t - x.stime + d)

/-- The amount a raiser still needs at its check, in grid ticks; 0 for none (R45). -/
def State.stillNeeds (s : State) (c : Nat) : Raiser → Nat
  | .replay p => s.backlogTicks p
  | .discarding p => if (s.port p).discarding then s.obj (Obj.replayRtt p) else 0
  | .bufferFull p => ((s.port p).buffer.length - 64) * unitStep p
  | .lateVat t => if s.unreadyAt c t then s.quantum c (Obj.readyQuantum c) else 0
  | .lateSelector b => if (s.known c true b).2 = some b then s.quantum c (Obj.selectQuantum c) else 0
  | .debugger => if s.obj (Obj.debugStop c) = 1 then 4096 else 0
  | .retrain p => if (s.port p).link = .active then s.backlogTicks p else s.lead c

/-- The cause of a raiser's hold. -/
def Raiser.cause : Raiser → Nat
  | .replay _ => 0
  | .discarding _ => 0
  | .bufferFull _ => 1
  | .lateVat _ => 3
  | .lateSelector _ => 5
  | .debugger => 6
  | .retrain _ => 0

/-- Whether this module's record of a start is a power hold. -/
def State.ownPower (s : State) (c t : Nat) : Bool := ((s.ctx c).recordsAt t).any (fun h => h.origin == (s.ctx c).lnid && h.power)

/-- The duration of this module's own record of a start; none where it has no finite one. -/
def State.ownLen (s : State) (c t : Nat) : Option Nat :=
  (((s.ctx c).recordsAt t).find? (fun h => h.origin == (s.ctx c).lnid)).bind (fun h => h.dur)

/-- A raiser lengthens its record of a start, `len` long, by an amount; past the longest finite duration it continues it one tick later (R45,
R592; DEDUCED, log entry 109). -/
def State.extendBy (s : State) (c t len n : Nat) (w : Raiser) : State :=
  let power := s.ownPower c t
  let s := s.raiseHold c t (len + encodable n) w.cause power (some w)
  let s := if longestHold < len + n then s.raiseHold c (t + 1) (len + n - longestHold) w.cause power (some w) else s
  match w with
  | .lateSelector b => s.addLate c b (encodable n)
  | _ => s

/-- EXTENSION_CHECK: every record this module raised whose release is L ticks away is lengthened by what it still needs. The releases and the
durations are those before any record is lengthened. -/
def execExtensionCheck (c : CtxId) (s : State) : Host.Outcome State Fault Refusal :=
  let due := (s.ctx c).raised.filter (fun e => s.untilRelease c e.1 == some (s.lead c))
  answer s (due.foldl (fun t e => match s.ownLen c e.1 with
    | some len => if s.stillNeeds c e.2 = 0 then t else t.extendBy c e.1 len (s.stillNeeds c e.2) e.2
    | none => t) s)

/-! ### Selectors that arrive (R27, R28) -/

/-- A selector's message, once it is taken in: its step, its value, and what follows from knowing the chain further. -/
def State.selectorIn (s : State) (c : Nat) (m : SkimMsg) : State :=
  (s.keepSelector c (BitVec.ofNat 32 (leAt m.body 0 4)) (leAt m.body 4 1 % 16)).lookAhead c

end Sys2Proof.Machine
end

