-- ==== Sys2Proof/Machine/Land.lean ====
section
/-! DEFINITION. Arriving scheduled units: their instance, landing by kind, relaying, and the receiver's signal (03 R119-R121; 08 R315-R322, R329,
R334; 09 R366). -/
namespace Sys2Proof.Machine
open Sys2Proof

/-! ### Writing (R316, R366; 03 R119) -/

/-- The partials of a payload as signed values: 15 full of 16 bytes, or 30 compact of 8. -/
def partials (compact : Bool) (pay : List Byte) : List Int :=
  if compact then (List.range 30).map (fun j => sgn 64 (leAt pay (8 * j) 8)) else (List.range 15).map (fun j => sgn 128 (leAt pay (16 * j) 16))

/-- Adds a payload's partials into consecutive cells. -/
def State.landChurn (s : State) (addr : Nat) (compact : Bool) (pay : List Byte) : State :=
  let vs := partials compact pay
  (List.range vs.length).foldl (fun s j => s.cellAdd (addr / 16 + j) (vs.getD j 0)) s

/-- A pail landing that writes the first byte of a page takes a credit; a shortfall is PAIL_OVERRUN and changes nothing. -/
def State.landCredit (s : State) (c : Nat) (w : Arrive) (i addr planned : Nat) : State :=
  let vid := s.obj (Obj.pailCreditVid w.port)
  if addr % 4096 ≠ 0 ∨ vid = 0xFFFF then s
  else match s.pailCredit c (vid % 4096) ⟨srcPort w.port, w.entry, 6, (s.ctx c).lnid.toNat, none⟩ with
    | (true, s) => s
    | (false, s) => s.runFault c 0x1005 0x50 w.bank w.entry w.port i planned 0 w.k

/-- Writes a unit by its landing kind: pail SRAM, a vat's SRAM, or additions into churn cells. Of the events of one F-die cycle on one cell each acts
when its command comes (03 R120; DEDUCED, log entry 129). -/
def State.landWrite (s : State) (c : Nat) (w : Arrive) (i planned : Nat) (pay : List Byte) : State :=
  let e := s.mr c w.bank w.entry
  let addr := landAddr e w.inc i
  let s : State := if e.lkind = 0 then (s.landCredit c w i addr planned).pailWrite addr pay
    else if e.lkind = 1 then s.sramWrite addr pay
    else s.landChurn addr e.compact pay
  s.bump64 (Obj.landedUnits c) 1

/-! ### The instance's next unit (R50, R315, R317, R319) -/

/-- Replaces an instance of a context's walk. -/
def State.setArrive (s : State) (c n : Nat) (w : Arrive) : State := s.onCtx c (fun x => { x with walk := x.walk.set n w })

/-- Number of the earliest incomplete instance of a bank's walk at a port. -/
def CtxState.nextArrive (x : CtxState) (bank p : Nat) : Option Nat :=
  (List.range x.walk.length).find? (fun n => match x.walk[n]? with
    | some w => w.bank == bank && w.port == p && !w.complete
    | none => false)

/-- The live units of an instance, as its unit 0 gives them: LIVE of the fill word of a dry-eligible entry, at least 1 and at most LEN. -/
def MrEntry.liveOf (e : MrEntry) (pay : List Byte) : Nat := if e.dry then max 1 (min (leAt pay 0 8 % 65536) e.len) else e.len

/-- Reports a landed unit whose deadline has passed, once. -/
def State.landLate (s : State) (c n i planned : Nat) : State :=
  match (s.ctx c).walk[n]? with
  | none => s
  | some w =>
    let e := s.mr c w.bank w.entry
    if e.role = 1 ∧ w.missed ≤ i ∧ planned + e.slack < (s.ctx c).stime then
      (s.setArrive c n { w with missed := i + 1 }).runFault c 0x1001 0x10 w.bank w.entry w.port i planned 0 w.k
    else s

/-- A relay takes in a unit: it leaves on the later of its planned out tick and the tick on which it is ready (DEDUCED, log entry 77), unless its
PEER was fenced when its first unit was to leave or another entry took its tick. -/
def State.relayIn (s : State) (c : Nat) (w : Arrive) (i : Nat) (last : Bool) (pay : List Byte) : State :=
  let e := s.mr c w.bank w.entry
  if w.fenced || w.lost.contains i then s
  else
    let planned := s.outTick c w i
    let now := (s.ctx c).virtual
    let wait := max (s.relayCut w.port) (planned - now)
    let lag := now + wait - planned
    let s := if s.obj (Obj.relayLagMax c) < lag then s.setObj (Obj.relayLagMax c) (min lag 65535) else s
    s.onCtx c (fun x => { x with relays := x.relays ++ [⟨e.port, planned, s.times.grid + wait, w.bank, w.entry, w.k, i, w.live, last, pay⟩] })

/-- What unit 0 decides for its instance: the live units. -/
def State.startArrive (s : State) (c n : Nat) (pay : List Byte) : State :=
  match (s.ctx c).walk[n]? with
  | none => s
  | some w =>
    if w.done ≠ 0 then s
    else
      let e := s.mr c w.bank w.entry
      s.setArrive c n { w with live := e.liveOf pay }

/-- An instance counts a unit as its next. -/
def State.takeUnit (s : State) (c n : Nat) (last : Bool) (pay : List Byte) : State :=
  let s := s.startArrive c n pay
  match (s.ctx c).walk[n]? with
  | none => s
  | some w =>
    let e := s.mr c w.bank w.entry
    let i := w.done
    let planned := w.t + unitStep w.port * i
    let s := s.setArrive c n { w with done := i + 1 }
    let s := if last ≠ (e.last && i + 1 == w.live) then s.runFault c 0x1003 0x32 w.bank w.entry w.port i planned 0 w.k else s
    let s := s.landLate c n i planned
    let s := if e.role = 1 then s.landWrite c w i planned pay else s.relayIn c w i last pay
    if e.role = 1 ∧ e.syncop = 1 ∧ i + 1 = w.live then s.onCtx c (fun x => { x with signals := x.signals ++ [⟨e.sync, w.port, w.entry⟩] }) else s

/-- A TC0 unit that passed its CRC: given to the earliest incomplete instance of the walk of the bank it names. On a port no context owns it is
discarded (DEDUCED, log entry 37). -/
def State.landUnit (s : State) (p bank : Nat) (last : Bool) (pay : List Byte) : State :=
  match s.portCtx p with
  | none => s
  | some c =>
    let x := s.ctx c
    let st := x.bank bank
    let lost := fun (s : State) (code kind : Nat) => s.fault c ⟨code, srcPort p, 0, runDetail kind p bank (s.activeBank c) 0 0 0 0 0, false⟩
    match x.nextArrive bank p with
    | some n =>
      if st = .active ∨ st = .draining then ((s.takeUnit c n last pay).sweepWalk c).checkDrained c else lost s 0x1004 0x40
    | none => if st = .active then lost s 0x1003 0x31 else lost s 0x1004 0x40

/-! ### The receiver's signal (R318) -/

/-- LANDING_COMPLETE: the oldest landing that is written applies its signal. -/
def execLandingComplete (c : CtxId) (s : State) : Host.Outcome State Fault Refusal :=
  answer s (match (s.ctx c).signals with
    | [] => s
    | g :: rest => ((s.onCtx c (fun x => { x with signals := rest })).syncAdd c g.vid ⟨srcPort g.port, g.entry, 6, (s.ctx c).lnid.toNat, none⟩ 1).2)

end Sys2Proof.Machine
end

