-- ==== Sys2Proof/Machine/Launch.lean ====
section
/-! DEFINITION. Context budgets and reports (12 R441-R446), the launch of a job (01 R39, R55-R57; 05 R173), and compare units with their pins
(01 R58-R66; 16 R572). -/
namespace Sys2Proof.Machine
open Sys2Proof

/-! ### Budgets and reports (12 R441, R444, R445) -/

/-- B_c of a context (DEDUCED, log entry 116). -/
def State.ctxBudget (s : State) (c : Nat) : Nat := (s.obj Obj.budgetEffective - s.obj Obj.runBase) * s.obj (Obj.budgetShare c) / 100

/-- Number of variants of a context. -/
def State.variants (s : State) (c : Nat) : Nat := s.domLen (Obj.variantTable c) / 16

/-- vb: the highest variant whose planned power is within the budget, or 0. -/
def State.bestVariant (s : State) (c : Nat) : Nat :=
  (List.range (s.variants c)).foldl (fun m j => if (s.variantRec c j).1 ≤ s.ctxBudget c then j else m) 0

/-- The dictionary request body of a report: a WRITE of BUDGET_REPORT with JOBREL (14 R518). -/
def reportBody (lnid pv : Nat) : List Byte :=
  padTo 32 ([2, 4] ++ leBytes 2 0x2110 ++ [7, 1, 0, 0] ++ zeros 8 ++ leBytes 2 lnid ++ leBytes 1 pv)

/-- Sends report(c, pv) to the leader; the leader applies its own. -/
def State.sendReport (s : State) (c : Nat) : State :=
  let x := s.ctx c
  let s := s.setCtx c { x with owedReport := false, quiet := 0, hot := 0 }
  match s.leader c with
  | none => s
  | some l =>
    if l = x.lnid.toNat then
      s.onCtx c (fun x => { x with reports := Tab.set (fun _ => s.obj (Obj.launchVariant c)) x.reports l x.permitted })
    else
      let dst := routePnid (s.routeEntry c (s.activeBank c) l)
      s.issueRequest (.report c) (mkMsg 0x04 false (s.jobn c) 0 0 s.pnid dst
        ([8, 32, 0x13, 0] ++ zeros 12 ++ reportBody x.lnid.toNat x.permitted))

/-! ### Launch -/

/-- The entry address of a vat in a context, if its image gives one (13 R497). -/
def State.vatEntry (s : State) (c v : Nat) : Option Nat :=
  let e := s.domLe (Obj.vatEntry c) (4 * v) 4
  if bitOf e 31 then some (e % 2 ^ 21) else none

/-- A vat as a launch starts it (05 R173). -/
def VatState.launched (x : VatState) (entry : Option Nat) : VatState :=
  let y := { x with sreg := [], areg := [], preg := [], pc := BitVec.ofNat 48 (entry.getD 0), stopped := false, step := 0, trel := 0, lstat := 0 }
  let y := { y with run := if entry.isSome then .issuing else .halted, cyc := 0, cycHi := 0, loops := [], nextAge := 0, marks := [], syncq := [] }
  { y with results := [], stimes := [], notices := [], echoes := [], remote := 0, satCnt := 0 }

/-- Starts the vats of a context. -/
def State.launchVats (s : State) (c : Nat) : State :=
  let s := ((List.range 320).filter (fun v => s.assigned c v)).foldl (fun s v => s.onVat v (fun x => x.launched (s.vatEntry c v))) s
  { s with vatsRan := true }

/-- Slot numbering and what the controller knows of its banks start anew on the dies a context owns (07 R262). -/
def State.launchDram (s : State) (c : Nat) : State :=
  let own := fun (ch : Nat) => s.obj (Obj.streamOwner (ch / 32)) == c
  { s with mem := { s.mem with
    slots := Tab.erase own s.mem.slots, banks := Tab.erase (fun k => own (k / 32)) s.mem.banks, acts := Tab.erase (fun k => own (k / 2)) s.mem.acts,
    lastRd := Tab.erase own s.mem.lastRd, lastWr := Tab.erase own s.mem.lastWr } }

/-- Judges the requests that came before launch: those that name a tick below 0 are late (R39). -/
def State.judgeHolds (s : State) (c : Nat) : State :=
  let early := fun (h : HoldRec) => decide (2 ^ 47 ≤ h.start)
  let late := (s.ctx c).holds.filter early
  let s := s.onCtx c (fun x => { x with holds := x.holds.filter (fun h => !early h) })
  late.foldl (fun s _ => s.fault c (schedMiss (srcSched c) 0x14)) s

/-- The job of a context launches: STIME 0 on this grid tick. Checks whose tick would lie before launch are made now (DEDUCED, log entry 38; DEDUCED, log entry 95). No job reaches SRAM
that has not been cleared: a launch finds the clear complete (02 R590; DEDUCED, log entry 128). -/
def State.launch (s : State) (c : Nat) : State :=
  let x := s.ctx c
  if x.job ≠ .armed ∨ x.failed then s
  else
    let x := { x with job := .running, launchAt := some s.times.ftime, stime := 0, executed := false, step := 0, boundaries := [], crossed := 0 }
    let x := { x with place := some ⟨s.activeBank c, s.obj (Obj.entrySeg c), 0, 0, 0⟩, checkedTo := 0, createdTo := 0, dueTo := 0, tail := 0 }
    let s := if s.host.sram then s else s.clearSram
    let s := (s.setCtx c x).log (srcSched c) 0x0015 (leBytes 8 s.times.ftime.toNat)
    let j := s.obj (Obj.launchVariant c)
    let (_, c0, c1, f) := s.variantRec c j
    let s := s.onCtx c (fun x => { x with variant := j, ceil0 := c0, ceil1 := c1, freq := f, grace := [], permitted := min j (s.bestVariant c) })
    let s := ((s.launchVats c).launchDram c).settleIslands
    let s := ((s.sendReport c).judgeHolds c).lookAhead c
    s.beginTick c

/-! ### Compare units (R58-R60, R64) -/

/-- A field of CMP_CTRL. -/
def Compare.f (u : Compare) (lo n : Nat) : Nat := fld u.ctrl.toNat lo n
/-- EN. -/
def Compare.en (u : Compare) : Bool := bitOf u.ctrl.toNat 31
/-- BASE. -/
def Compare.base (u : Compare) : Nat := u.f 29 2
/-- CTX. -/
def Compare.ctx (u : Compare) : Nat := u.f 25 4
/-- MODE. -/
def Compare.mode (u : Compare) : Nat := u.f 23 2
/-- PULSE. -/
def Compare.pulse (u : Compare) : Bool := bitOf u.ctrl.toNat 22
/-- LAUNCH. -/
def Compare.launch (u : Compare) : Bool := bitOf u.ctrl.toNat 21 && u.base == 1
/-- EVENT. -/
def Compare.event (u : Compare) : Bool := bitOf u.ctrl.toNat 20
/-- POL. -/
def Compare.pol (u : Compare) : Bool := bitOf u.ctrl.toNat 17

/-- The value of a unit's base j F-die cycles into a grid tick; four make one (00 R5; R11, R14, R20, R21). -/
def State.baseAt (s : State) (u : Compare) (j : Nat) : Nat :=
  let t := s.times
  match u.base with
  | 0 => (s.stime48 u.ctx).toNat
  | 1 => (t.ftime + BitVec.ofNat 64 (4 * j)).toNat
  | 2 => (t.htime + BitVec.ofNat 64 ((t.hfrac + j * (64 * ((2 ^ 32 : Int) + t.hrate.toInt)).toNat) / (100 * 2 ^ 32))).toNat
  | _ => (t.atime + BitVec.ofNat 48 ((t.afrac + 64 * j) / 100000)).toNat

/-- The value of a unit's base at the grid tick. -/
def State.baseNow (s : State) (u : Compare) : Nat := s.baseAt u 0

/-- Width of a base. -/
def Compare.width (u : Compare) : Nat := if u.base = 0 ∨ u.base = 3 then 48 else 64

/-- How far a base runs on before its next grid tick, while its unit is evaluated every F-die cycle; a launch waits for the grid tick (R56, R58; DEDUCED, log entry 91). -/
def Compare.within (u : Compare) : Nat := if u.launch then 0 else if u.base = 1 then 12 else if u.base = 2 then 2 else 0

/-- Whether a unit's signed difference is zero or positive by the end of the present grid tick. A context's STIME is evaluated on each tick that
executes: not in a hold, nor in the power-hold portion of a soft resume (R40, R51, R58). -/
def State.cmpReached (s : State) (u : Compare) : Bool :=
  let going := u.base != 0 || ((s.ctx u.ctx).job == .running && (s.ctx u.ctx).hold.isNone && (s.ctx u.ctx).executed)
  going && decide (0 ≤ sgn u.width (wrap u.width ((s.baseNow u : Int) + u.within - u.target.toNat)))

/-- The pulse width in F-die cycles, of which 3,125 make two microseconds (R64). -/
def Compare.cycles (u : Compare) : Nat := if bitOf u.ctrl.toNat 16 then ceilDiv (u.f 0 16 * 3125) 2 else u.f 0 16

/-- Drives a TPULSE pin to its active level for the width of the pulse, if the pin has an owner (DEDUCED, log entry 92). -/
def State.pulseOn (s : State) (u : Compare) : State :=
  let pin := u.f 18 2
  if s.obj (Obj.tpulseOwner pin) = clNone ∨ s.dark then s
  else ({ s with times := { s.times with
    pulses := ⟨pin, !u.pol, 4 * s.times.grid + u.cycles⟩ :: s.times.pulses.filter (fun e => e.pin != pin) } }).emit (.pulse pin (!u.pol))

/-- Level of a TPULSE pin: none while it is high-impedance, in DEEP and OFF; active while a pulse is driven; otherwise the inactive level, which
is low without an owner and else as POL of the lowest-numbered unit that drives the pin has it (R64; 16 R572; DEDUCED, log entry 92). -/
def State.pinLevel (s : State) (pin : Nat) : Option Bool :=
  if s.dark then none
  else match s.times.pulses.find? (fun e => e.pin == pin) with
    | some e => some e.level
    | none =>
      if s.obj (Obj.tpulseOwner pin) = clNone then some false
      else match ((List.range 16).map s.cmp).find? (fun u => bitOf u.ctrl.toNat 22 && u.f 18 2 == pin) with
        | some u => some u.pol
        | none => some false

/-- A unit after it has fired: a periodic one adds its period until its target lies ahead, and counts what it skips (R59). -/
def Compare.advance (u : Compare) (now : Nat) : Compare :=
  let u := { u with fired := true }
  let period : Nat := u.period.toNat % 2 ^ u.width
  if u.mode = 1 ∧ period ≠ 0 then
    let passed := sgn u.width (wrap u.width ((now : Int) - u.target.toNat - period))
    let extra : Nat := if 0 ≤ passed then passed.toNat / period + 1 else 0
    { u with target := BitVec.ofNat 64 ((u.target.toNat + (extra + 1) * period) % 2 ^ u.width),
             missed := BitVec.ofNat 16 (min 0xFFFF (u.missed.toNat + extra)) }
  else { u with armed := false }

/-- COMPARE_FIRE: an enabled unit that awaits its target fires, if it has come. MODE 3 neither fires nor captures, and of several LAUNCH units of a
context only the one its arming claimed launches it (DESIGN CHOICE, log entry 127). -/
def execCompareFire (n : Fin 16) (s : State) : Host.Outcome State Fault Refusal :=
  let u := s.cmp n
  answer s (if u.en && u.armed && decide (u.mode < 2) && s.cmpReached u then
      let now := if decide (sgn u.width (wrap u.width ((s.baseNow u : Int) - u.target.toNat)) < 0) then u.target.toNat else s.baseNow u
      let s := s.setCmp n (u.advance now)
      let s := if u.pulse then s.pulseOn u else s
      let s := if u.event then s.log (srcCmp n) 0x0022 ([1] ++ zeros 7 ++ leBytes 8 u.target.toNat) else s
      if u.launch ∧ (s.ctx u.ctx).unit = n.val then s.launch u.ctx else s
    else s)

/-- Captures a TIN edge, j F-die cycles into the grid tick, in a unit's base (R61, R65). -/
def State.capture (s : State) (n j : Nat) : State :=
  let u := s.cmp n
  let now := s.baseAt u j
  let s := s.setCmp n { u with capture := BitVec.ofNat 64 now, captured := true, overrun := u.overrun || u.captured }
  if u.event then s.log (srcCmp n) 0x0022 ([2] ++ zeros 7 ++ leBytes 8 now) else s

/-- TIN_EDGE: every enabled capture unit on the pin whose polarity the edge has. In DEEP and OFF the pin is ignored. The F-die cycle of the edge
within the grid tick is a free value (DEDUCED, log entry 128). -/
def execTinEdge (pin : Fin 2) (rising : Bool) (s : State) : Host.Outcome State Fault Refusal :=
  answer s (if s.dark then s
    else
      let (j, s) := s.takeFree 2
      (List.range 16).foldl (fun s n =>
        let u := s.cmp n
        if u.en && u.mode == 2 && u.f 18 1 == pin.val && u.pol != rising then s.capture n j.toNat else s) s)

/-- TPULSE_END: a pulse ends once its width can have passed; before that nothing happens (R61, R64; DEDUCED, log entry 128). -/
def execTpulseEnd (pin : Fin 4) (s : State) : Host.Outcome State Fault Refusal :=
  answer s (match s.times.pulses.find? (fun e => e.pin == pin.val) with
    | some x =>
      if 4 * s.times.grid + 3 < x.until_ then s
      else ({ s with times := { s.times with pulses := s.times.pulses.filter (fun e => e.pin != pin.val) } }).emit (.pulse pin (!x.level))
    | none => s)

/-! ### Time block registers (R20-R22, R66) -/

/-- Captures every base, and STIME and the step of a context. -/
def State.snap (s : State) (c : Nat) : State :=
  let t := s.times
  let x := s.ctx c
  { s with times := { t with snapCtx := c, snapF := t.ftime, snapH := t.htime, snapA := t.atime.setWidth 64,
                             snapS := (s.stime48 c).setWidth 64, snapN := x.step } }

/-- SNAP_TAKE: a write of SNAP_CTRL. -/
def execSnapTake (w : W32) (s : State) : Host.Outcome State Fault Refusal :=
  answer s (if bitOf w.toNat 0 then s.snap (fld w.toNat 8 4) else s)

/-- PTM_RESPONSE: a TAKE, for the context of the last one (DESIGN CHOICE, log entry 39). -/
def execPtmResponse (s : State) : Host.Outcome State Fault Refusal := answer s (s.snap s.times.snapCtx)

/-- HTIME_STEP: a signed number of nanoseconds, once. -/
def execHtimeStep (ns : W64) (s : State) : Host.Outcome State Fault Refusal :=
  answer s { s with times := { s.times with htime := s.times.htime + ns } }

/-- ATIME_CORRECTION: `err` is by how many microseconds ATIME is ahead. In DEEP and OFF none is made (R21). -/
def execAtimeCorrection (err : Int) (s : State) : Host.Outcome State Fault Refusal :=
  answer s (if s.dark then s else { s with times := { s.times with atime := s.times.atime - BitVec.ofInt 48 err } })

/-- Grid ticks a soft resume's power-hold portion still takes; 0 while STIME runs (R51, R66). -/
def SoftResume.portion (r : SoftResume) : Nat := if r.at_ % 125 < 5 * (r.at_ / 125 + 1) then 0 else 125 - r.at_ % 125

/-- HOLD_STATE of a context (R66). -/
def State.holdState (s : State) (c : Nat) : Nat :=
  let x := s.ctx c
  let soft := b2n x.soft.isSome * 2 ^ 28
  match x.hold with
  | some n => 2 ^ 31 + b2n n.power * 2 ^ 30 + b2n n.indef * 2 ^ 29 + soft + n.causes.toNat * 2 ^ 20 +
      (if n.indef then 0xFFFFF else n.total - n.elapsed)
  | none => match x.soft with
    | some r => if r.portion = 0 then soft else 2 ^ 31 + 2 ^ 30 + soft + r.portion
    | none => 0

end Sys2Proof.Machine
end

