-- ==== Sys2Proof/Machine/Reset.lean ====
section
/-! DEFINITION. Context reset and owner loss (06 R209; 07 R275; 08 R296, R306; 09 R349; 10 R404; 11 R434), the host sync port (10 R400-R403),
debugger writes (10 R406), and the fabric reset (08 R338). -/
namespace Sys2Proof.Machine
open Sys2Proof

/-! ### What was being written is undefined (06 R209; 07 R275) -/

/-- The part of a region inside pail SRAM or a vat's SRAM (DESIGN CHOICE, log entry 115). -/
def State.freeRegion (s : State) (r : Region) : State :=
  let (l, s) := s.freeBytes (min r.2 pailSize)
  s.sramWrite r.1 l

/-- Tile buffers and banks an abandoned instruction was filling. -/
def State.freeTiles (s : State) (v : Nat) (o : EngineOp) : State :=
  if o.op = 0x62 then
    let (d, s) := s.freeBytes 4096
    let (e, s) := s.freeBytes 1280
    s.onVat v (fun x => { x with tiles := Tab.write (fun _ => 0) x.tiles (4096 * mTa o.w) d,
                                 sides := Tab.write (fun _ => 0) x.sides (1280 * mTa o.w) e })
  else if o.op = 0x60 ∨ o.op = 0x61 ∨ o.op = 0x63 then
    let (a, s) := s.freeAccs 1024
    s.onVat v (fun x => { x with acc := Tab.write (fun _ => 0) x.acc (1024 * mWb o.w) a })
  else s

/-- Abandons the engine instructions of a vat and returns its tokens; its sequencer stops. -/
def State.resetVat (s : State) (v : Nat) : State :=
  let begun := (s.vat v).queue.filter (fun q => q.begun)
  let regions := begun.flatMap (fun q => (s.opFoot v q.op).writes)
  let s := begun.foldl (fun s q => s.freeTiles v q.op) s
  let s := regions.foldl State.freeRegion s
  s.onVat v (fun x =>
    let x := { x with queue := [], tokens := 0, run := .halted, marks := [], events := [], syncq := [], results := [], stimes := [] }
    { x with notices := [], echoes := [], remote := 0, gated := false })

/-- Abandons the streams of a context: granules issued still complete, and what a write granule among them leaves in DRAM is undefined. -/
def State.resetStreams (s : State) (c : Nat) : State :=
  let writes := s.mem.issued.filter (fun g => g.ctx == c && !g.read)
  let s := { s with mem := { s.mem with streams := s.mem.streams.filter (fun r => r.ctx != c),
                                        issued := s.mem.issued.map (fun g => if g.ctx = c then { g with live := false } else g) } }
  writes.foldl (fun s g =>
    let (b, s) := s.freeBytes 64
    s.dramWrite g.pa b) s

/-! ### Owners (08 R296; 11 R432, R434) -/

/-- Releases every resource a client holds by an owner field. -/
def State.releaseOwner (s : State) (client : Nat) : State :=
  let fields := (List.range 16).map Obj.cmpOwner ++ (List.range 4).map Obj.tpulseOwner ++ (List.range 2).map Obj.tinOwner ++
    (List.range 8).map Obj.retentionOwner ++ (List.range 34).map Obj.schedOwner ++ (List.range 2).map Obj.streamOwner ++
    (List.range 2).map Obj.xOwner
  fields.foldl (fun s k => if s.obj k = client then s.setObj k clNone else s) s

/-- An active or draining bank returns to LOADED. -/
def settleBank : BankState → BankState
  | .active => .loaded
  | .draining => .loaded
  | b => b

/-- The comparator forgets the phases of its context. -/
def State.clearLock (s : State) : State := { s with lock := ⟨Signature.reset, [], [], []⟩ }

/-- A context after its reset: its job is gone; faults, notices, the hold log, banks and frozen sync state stay. -/
def CtxState.afterReset (x : CtxState) : CtxState :=
  let y := { CtxState.reset with lnid := x.lnid, stime := x.stime, step := x.step, bank0 := settleBank x.bank0, bank1 := settleBank x.bank1 }
  let y := { y with first := x.first, log := x.log, notices := x.notices, holdLog := x.holdLog, sync := x.sync, lossReason := x.lossReason,
                      imageIntlv := x.imageIntlv }
  { y with freezeF := x.freezeF, freezeS := x.freezeS, epochs := x.epochs, measure0 := x.measure0, measure1 := x.measure1, fenceSeen := x.fenceSeen }

/-- CTX_RESET: `reason` is 1 for a reset, 2 for a pre-emption (DEDUCED, log entry 94). -/
def State.resetCtx (s : State) (c reason : Nat) : State :=
  let s := s.abandonRetrain c
  let s := if (s.ctx c).sync = .frozen then s else s.freezeSync c reason
  let vats := (List.range 320).filter (fun v => s.vatCtx v == some c)
  let s := vats.foldl State.resetVat s
  let s := s.resetStreams c
  let s := if (s.ctx c).job = .armed then s.onCmp (s.ctx c).unit (fun u => { u with ctrl := u.ctrl &&& 0x7FFFFFFF, armed := false }) else s
  let s := if s.obj Obj.lockstepEnable = 1 ∧ s.lockCtx = c then s.clearLock else s
  let s := { s with skim := { s.skim with waiting := s.skim.waiting.filter (fun r => match r.1 with | .vat _ k _ _ => k != c | _ => true) } }
  ((s.onCtx c CtxState.afterReset).releaseOwner c).settleIslands

/-- CTX_RESET RESET. -/
def execCtxResetReset (c : CtxId) (s : State) : Host.Outcome State Fault Refusal := answer s (s.resetCtx c 1).ok

/-- CTX_RESET PREEMPT. -/
def execCtxResetPreempt (c : CtxId) (s : State) : Host.Outcome State Fault Refusal := answer s (s.resetCtx c 2).ok

/-! ### The host sync port (10 R400-R403) -/

/-- A host operation refused for its context or counter. -/
def State.spRefused (s : State) : State := { s with sync := { s.sync with refused := true, last := BitVec.ofNat 16 stOwnerLost } }

/-- The source of a host operation of a kind of R391. -/
def State.spSrc (s : State) (c kind : Nat) : SyncSrc := ⟨srcHost, 0, kind, (s.ctx c).lnid.toNat, none⟩

/-- A host operation meets a live context, or is discarded with its flag; a foreign mapping whose owner is gone refuses it. -/
def State.spOp (s : State) (c vid : Nat) (op : State → State) : State :=
  match (s.ctx c).sync with
  | .none => { s with sync := { s.sync with nojob := true, last := BitVec.ofNat 16 stResetting } }
  | .frozen => s.spRefused
  | .live => match s.resolve c vid with
    | .gone _ => s.spRefused
    | _ => op s

/-- Context of an SP_OP word. -/
def spCtx (w : W64) : Nat := fld w.toNat 16 4
/-- Vid of an SP_OP word. -/
def spVid (w : W64) : Nat := fld w.toNat 0 12
/-- ARG of an SP_OP word. -/
def spArg (w : W64) : Nat := fld w.toNat 32 32

/-- A host ADD. -/
def State.spAdd (s : State) (c vid : Nat) (amount : Int) : State := s.spOp c vid (fun s => (s.syncAdd c vid (s.spSrc c 3) amount).2)

/-- A host SET. -/
def State.spSet (s : State) (c vid : Nat) (value : W32) : State := s.spOp c vid (fun s => (s.syncSet c vid (s.spSrc c 4) value).2)

/-- A host ARRIVE. -/
def State.spArrive (s : State) (c vid : Nat) : State :=
  s.spOp c vid (fun s => match s.resolve c vid with
    | .barrier n => s.localArrive c n (s.spSrc c 9)
    | _ => s.syncUnmapped c (s.spSrc c 9) vid 0 .none)

/-- Whether what was asked at a grid tick is DONE by now: it is within 8 F-die cycles, and earlier at a free choice (R390; DESIGN CHOICE, log
entry 126). -/
def State.spDue (s : State) (asked : Nat) : Bool × State :=
  if asked + 3 ≤ s.times.grid then (true, s)
  else
    let (f, s) := s.takeFree 1
    (f == 1, s)

/-- A read request whose DONE is due has it. -/
def State.rdSettle (s : State) : State :=
  match s.sync.rdPend with
  | none => s
  | some t => match s.spDue t with
    | (true, s) => { s with sync := { s.sync with rdDone := true, rdPend := none } }
    | (false, s) => s

/-- The same for a registration. -/
def State.wSettle (s : State) : State :=
  match s.sync.wPend with
  | none => s
  | some t => match s.spDue t with
    | (true, s) => { s with sync := { s.sync with wDone := true, wPend := none } }
    | (false, s) => s

/-- What a read request gives: status and value. -/
def State.spValue (s : State) (c vid : Nat) : Nat × W32 × State :=
  let x := s.ctx c
  if x.sync = .none then (stResetting, 0, s)
  else
    let lost := if x.sync = .frozen then stOwnerLost else stSuccess
    match s.resolve c vid with
    | .counter n => (lost, (s.counter n).value, s)
    | .barrier n => (lost, (s.barrier n).episode, s)
    | .gone n =>
      let (v, s) := s.goneValue n
      (stOwnerLost, v, s)
    | _ => (stRefused, 0, s)

/-- SP_RDREQ: written before the previous one is DONE it sets BUSY and is discarded (R402, R403). -/
def State.spRead (s : State) (c vid : Nat) : State :=
  let s := s.rdSettle
  if s.sync.rdPend.isSome then { s with sync := { s.sync with busy := true } }
  else
    let (st, v, s) := s.spValue c vid
    { s with sync := { s.sync with rdDone := false, rdPend := some s.times.grid, rdStatus := BitVec.ofNat 16 st, rdValue := v } }

/-- The registration an SP_WATCH asks for: a handle, or a status. -/
def State.spRegister (s : State) (w : W64) : Except Nat (BitVec 16) × State :=
  let c := fld w.toNat 16 4
  let vid := fld w.toNat 0 12
  match (s.ctx c).sync with
  | .none => (.error stResetting, s)
  | .frozen => (.error stOwnerLost, s)
  | .live =>
    if fld w.toNat 30 2 = 3 then (.error stRefused, s)
    else match s.resolve c vid with
      | .gone _ => (.error stOwnerLost, s)
      | r => match watchOn r false with
        | none => (.error stRefused, s)
        | some on => s.registerPool on c vid (condOf (fld w.toNat 30 2)) (BitVec.ofNat 32 (fld w.toNat 32 32)) (.queue (fld w.toNat 27 3))

/-- SP_WATCH: written before the previous one is DONE it sets BUSY and is discarded (R402, R403). -/
def State.spWatch (s : State) (w : W64) : State :=
  let s := s.wSettle
  if s.sync.wPend.isSome then { s with sync := { s.sync with busy := true } }
  else
    let (r, s) := s.spRegister w
    let fail := match r with | .ok _ => false | .error _ => true
    let h : BitVec 16 := match r with | .ok h => h | .error st => BitVec.ofNat 16 st
    { s with sync := { s.sync with wDone := false, wPend := some s.times.grid, wFail := fail, wHandle := h } }

/-! ### Debugger writes (10 R406) -/

/-- Logs an accepted debugger write, and counts it (DEDUCED, log entry 93). -/
def State.noteDebug (s : State) (word before after client : Nat) : State :=
  ((s.bump32 Obj.debugSyncWrites 1).log srcDebug 0x0042 (leBytes 2 word ++ leBytes 2 client ++ leBytes 4 before ++ leBytes 4 after)).ok

/-- DEBUG_COUNTER_SET's body: the counter is set and settled; one whose owner is FROZEN is set and notifies nothing. SENSE inverts with a change
(R384). -/
def State.debugSet (s : State) (client : Nat) (body : W64) : State :=
  let word := fld body.toNat 0 16
  let c := fld word 12 4
  let v : W32 := BitVec.ofNat 32 (fld body.toNat 32 32)
  let set := fun (n : Nat) =>
    let k := s.counter n
    let t := s.setCounter n { k with value := v, sense := if v = k.value then k.sense else !k.sense }
    if k.limit.toNat < v.toNat then s.withStatus stRefused
    else (if (s.ctx (n / 4096)).sync = .frozen then t else (t.settle (.counter n)).bump64 (Obj.syncOps c) 1).noteDebug word k.value.toNat v.toNat client
  if (s.ctx c).sync = .none ∨ fld body.toNat 16 16 ≠ 0 then s.withStatus stRefused
  else match s.resolve c (word % 4096) with
    | .counter n => set n
    | .gone n => if (s.ctx (n / 4096)).sync = .frozen then set n else s.withStatus stRefused
    | _ => s.withStatus stRefused

/-- DEBUG_BARRIER_RELEASE's body: the root's release of a live barrier. -/
def State.debugRelease (s : State) (client : Nat) (word : Nat) : State :=
  let c := fld word 12 4
  if (s.ctx c).sync ≠ .live then s.withStatus stRefused
  else match s.resolve c (word % 4096) with
    | .barrier n =>
      let b := s.barrier n
      if b.root = (s.ctx c).lnid then (s.rootRelease c n).noteDebug word b.episode.toNat (b.episode + 1).toNat client
      else s.withStatus stRefused
    | _ => s.withStatus stRefused

/-- Whether a request comes from a debug session whose token's scope has a bit (11 R433; 14 R516; 15 R559, R561). -/
def State.inScope (s : State) (client : Byte) (bit : Nat) : Bool :=
  client.toNat == clDebugger && (match s.host.session with
    | some x => bitOf x.scope.toNat bit
    | none => false)

/-- DEBUG_COUNTER_SET. -/
def execDebugCounterSet (client : Byte) (body : W64) (s : State) : Host.Outcome State Fault Refusal :=
  answer s (if s.inScope client 1 then s.debugSet client.toNat body else s.withStatus stToken)

/-- DEBUG_BARRIER_RELEASE. -/
def execDebugBarrierRelease (client : Byte) (body : BitVec 16) (s : State) : Host.Outcome State Fault Refusal :=
  answer s (if s.inScope client 1 then s.debugRelease client.toNat body.toNat else s.withStatus stToken)

/-! ### Fabric reset (08 R338) -/

/-- Takes every port down for a local reset. -/
def State.resetFabric (s : State) : State := allPorts.foldl (fun s p => s.linkDown p 6 0) s

/-- FABRIC_RESET REQUEST: refused while relay entries run. -/
def execFabricResetRequest (s : State) : Host.Outcome State Fault Refusal :=
  answer s (if s.relays then s.withStatus stResetting else s.resetFabric.ok)

/-- FABRIC_RESET FORCE. -/
def execFabricResetForce (s : State) : Host.Outcome State Fault Refusal := answer s s.resetFabric.ok

end Sys2Proof.Machine
end

