-- ==== Sys2Proof/Machine/Train.lean ====
section
/-! DEFINITION. The Septox link's training, retraining, resets and link control (09 R344-R349, R354-R363, R367, R376-R379), and time through the
link (01 R16-R19; 09 R346, R375). -/
namespace Sys2Proof.Machine
open Sys2Proof

/-! ### Training (R344-R346) -/

/-- Whether the module reads no valid PNID (08 R293). -/
def State.badPnid (s : State) : Bool :=
  match s.entry.pnid with
  | some p => decide (17 ≤ p.toNat % 32)
  | none => true

/-- Whether a port may train: board ports and uplinks stay down without a valid PNID (R293). -/
def State.mayTrain (s : State) (p : Nat) : Bool := isXport p || !s.badPnid

/-- The greatest of 1, 2 and 4 lanes within a number; zero for none. -/
def laneWidth (n : Nat) : Nat := if 4 ≤ n then 4 else if 2 ≤ n then 2 else n

/-- The payload of a PARAM unit, with byte 11 as given (R345). -/
def State.paramPay (s : State) (p flags : Nat) : List Byte :=
  leBytes 2 s.pnid ++ leBytes 1 p ++ leBytes 1 (s.port p).lanes ++ leBytes 1 (s.obj Obj.linkSpeedCap) ++
    leBytes 1 (s.obj Obj.tc1HdrCredits) ++ leBytes 2 (s.obj Obj.tc1DataCredits) ++ leBytes 1 (s.obj Obj.tc2HdrCredits) ++
    leBytes 2 (s.obj Obj.tc2DataCredits) ++ leBytes 1 flags

/-- The end that makes the delay exchanges: the module on an uplink, the lower PNID elsewhere (R346). -/
def State.measures (s : State) (p : Nat) : Bool := isUplink p || decide (s.pnid < (s.port p).peer.toNat % 512)

/-- Signal on a port that is DOWN or in LISTEN starts DETECT. -/
def State.signalDetect (s : State) (p : Nat) : State :=
  if s.mayTrain p ∧ ((s.port p).link = .down ∨ (s.port p).link = .listen) then s.startTraining p else s

/-- TRAINING_SEQUENCE: LOCK with valid stored coefficients, EQUALIZE otherwise. From a peer in low-power idle it is the start of its wake, whose
first unit leaves LANE_WAKE ticks later (R376). -/
def execTrainingSequence (p : PortId) (stored : Bool) (s : State) : Host.Outcome State Fault Refusal :=
  let x := s.port p
  let on := stored && x.coeffs
  answer s (if x.link = .detect then (s.onPort p (fun x => { x with resumed := on })).setLink p (if on then .lock else .equalize)
    else if x.link = .active ∧ x.peerSleep then s.onPort p (fun x => { x with peerWake := s.times.grid + s.obj Obj.laneWake + 16 })
    else s)

/-- EQUALIZE_DONE. -/
def execEqualizeDone (p : PortId) (s : State) : Host.Outcome State Fault Refusal :=
  answer s (if (s.port p).link = .equalize then (s.onPort p (fun x => { x with coeffs := true })).setLink p .lock else s)

/-- Sends a DELAY_REQ while training. -/
def State.askDelay (s : State) (p : Nat) : State := s.emitTc3 p 3 []

/-- LOCK_DONE: the port offers the lanes that locked, within its cap, and sends PARAM; with none it fails. In a retrain, which keeps its width,
the delay exchanges follow. On an ACTIVE port the lock is back after its peer's sleep (R376). -/
def State.lockDone (s : State) (p lanes : Nat) : State :=
  let x := s.port p
  match x.link with
  | .lock =>
    let n := min (laneWidth lanes) (laneWidth (if isUplink p then 1 else s.obj (Obj.linkWidthCap p)))
    if n = 0 then s.linkDown p 8 0
    else
      let s := (s.onPort p (fun x => { x with lanes := n })).setLink p .param
      s.emitTc3 p 5 (s.paramPay p (b2n x.resumed))
  | .active => s.onPort p (fun x => { x with peerWake := 0 })
  | .retrain => if x.lanes ≤ lanes ∧ s.measures p ∧ x.exchanges = 0 then s.askDelay p else s
  | _ => s

/-- LOCK_DONE (DEDUCED, log entry 90). -/
def execLockDone (p : PortId) (lanes : Byte) (s : State) : Host.Outcome State Fault Refusal := answer s (s.lockDone p lanes.toNat)

/-- The peer a PARAM unit names: a module's PNID, or 0x8000 plus a plane's number. -/
def paramPeer (pay : List Byte) : BitVec 16 :=
  let w := leAt pay 0 2
  BitVec.ofNat 16 (if bitOf w 15 then 0x8000 + w % 16 else w % 512)

/-- Credits as a peer advertises them. -/
def Credit.advertised (rate hdr data : Nat) : Credit := { Credit.reset rate with advHdr := hdr, advData := data }

/-- Messages that wait on other ports no longer hold room in the input buffer of a port whose credits are advertised anew. -/
def State.forgetArr (s : State) (p : Nat) : State :=
  let f := fun (l : List SkimOut) => l.map (fun m => if m.arr = some p then { m with arr := none } else m)
  allPorts.foldl (fun s q => s.onPort q (fun x => { x with skim1 := f x.skim1, skim2 := f x.skim2 })) s

/-- PARAM while training: the smaller width, the lower speed, counts at zero, the peer's credits; then the delay exchanges. -/
def State.takeParam (s : State) (p : Nat) (pay : List Byte) : State :=
  let s := (s.forgetArr p).onPort p (fun x => { x with
    peer := paramPeer pay, lanes := min x.lanes (laneWidth (leAt pay 3 1)), half := s.obj Obj.linkSpeedCap == 1 || leAt pay 4 1 == 1,
    expect := 0, tseq := 0, buffer := [], resend := 0, unacked := 0, discarding := false, nakOwed := false, ackOwed := false,
    nakCount := 0, carried := [], credit1 := Credit.advertised (maxRate p) (leAt pay 5 1) (leAt pay 6 2),
    credit2 := Credit.advertised (maxRate p) (leAt pay 8 1) (leAt pay 9 2), held1 := 0, held2 := 0, exchanges := 0, rttSum := 0 })
  let s := s.setLink p .delay
  if s.measures p then s.askDelay p else s

/-- The peer goes to listen: so does this port, with its coefficients and without fault; with messages to send it starts the training itself (R377). -/
def State.toListen (s : State) (p : Nat) : State :=
  let x := s.port p
  let y := { x.cleared p with coeffs := true, peerSleep := true }
  let s := (s.setPort p { y with skim1 := x.skim1, skim2 := x.skim2 }).setLink p .listen
  if x.skim1.isEmpty ∧ x.skim2.isEmpty then s else s.startTraining p

/-- PARAM on any port (R345, R377, R378). -/
def State.recvParam (s : State) (p : Nat) (pay : List Byte) : State :=
  let flags := leAt pay 11 1
  match (s.port p).link with
  | .param => s.takeParam p pay
  | .active => if bitOf flags 1 then s.linkDown p 7 0 else if bitOf flags 2 then s.toListen p else s
  | .retrain => if bitOf flags 1 then s.linkDown p 7 0 else s
  | _ => s

/-! ### Delay (R346, R361) -/

/-- REPLAY_RTT of a delay: the round trip in ticks, and the wake of both transmitters. -/
def State.rttOf (s : State) (delay : Nat) : Nat := ceilDiv (2 * delay) 16 + 2 * s.obj Obj.laneWake

/-- The greatest REPLAY_RTT for which the replay buffer suffices. -/
def rttLimit (p : Nat) : Nat := if isUplink p then 640 else 160

/-- LINK_DELAY and REPLAY_RTT are known; a round trip beyond the limit is logged. -/
def State.setDelay (s : State) (p delay : Nat) : State :=
  let rtt := s.rttOf delay % 2 ^ 16
  let s := (s.setObj (Obj.linkDelay p) (delay % 2 ^ 32)).setObj (Obj.replayRtt p) rtt
  if rttLimit p < rtt then s.log (srcPort p) 0x0051 ([1, 0, 0, 0] ++ leBytes 2 rtt) else s

/-- A port becomes ACTIVE; one that retrained has its retrain counted. -/
def State.activate (s : State) (p : Nat) : State :=
  let s := if (s.port p).link = .retrain then s.bump32 (Obj.retrains p) 1 else s
  (s.onPort p (fun x => { x with retrain := none, wantRetrain := false, gap := 0, waking := 0, txSleep := false, back := false })).setLink p .active

/-- t4 - t1 less t3 - t2, in FTIME units modulo 2^64. -/
def delayRtt (now : W64) (pay : List Byte) : W64 :=
  let t1 : W64 := BitVec.ofNat 64 (leAt pay 8 8)
  let t2 : W64 := BitVec.ofNat 64 (leAt pay 16 8)
  let t3 : W64 := BitVec.ofNat 64 (leAt pay 24 8)
  (now - t1) - (t3 - t2)

/-- A delay exchange is complete: the next follows, or after the last LINK_DELAY goes to the peer in a final answer. -/
def State.exchange (s : State) (p : Nat) (pay : List Byte) : State :=
  let x := s.port p
  let n := x.exchanges + 1
  let sum := x.rttSum + (delayRtt s.times.ftime pay).toNat
  let s := s.setPort p { x with exchanges := n, rttSum := sum }
  let final := fun (s : State) => (s.emitTc3 p 4 (zeros 32 ++ leBytes 4 (s.obj (Obj.linkDelay p)))).activate p
  if x.link = .delay then if n < 64 then s.askDelay p else final (s.setDelay p ((sum + 64) / 128))
  else if n < 8 then s.askDelay p
  else final s

/-- DELAY_RESP: while training an exchange, or at the other end the final answer; later the round trip to an uplink's time peer (R375). -/
def State.recvDelayResp (s : State) (p : Nat) (pay : List Byte) : State :=
  match (s.port p).link with
  | .delay => if s.measures p then s.exchange p pay else (s.setDelay p (leAt pay 32 4)).activate p
  | .retrain => if s.measures p then s.exchange p pay else s.activate p
  | .active =>
    if isUplink p then s.onPort p (fun x => { x with peerRtts := ((delayRtt s.times.ftime pay).toNat :: x.peerRtts).take 16 }) else s
  | _ => s

/-- DELAY_REQ: the answer carries t1, t2 and, at its departure, t3. On an uplink the requester, which the unit does not name, is sent TIME
units from then on (R375; DESIGN CHOICE, log entry 3). -/
def State.recvDelayReq (s : State) (p : Nat) (pay : List Byte) : State :=
  let answer := slice pay 8 8 ++ leBytes 8 s.times.ftime.toNat
  match (s.port p).link with
  | .delay => s.emitTc3 p 4 (zeros 8 ++ answer)
  | .retrain => s.emitTc3 p 4 (zeros 8 ++ answer)
  | .active =>
    if isUplink p then
      let (who, s) := s.takeFree 9
      s.stirPort p (fun x => { x with
        tc3 := x.tc3 ++ [(4, leBytes 2 (0x8000 + who.toNat) ++ zeros 6 ++ answer)],
        timePeers := (x.timePeers.filter (fun e => e.1 != who.toNat)) ++ [(who.toNat, 0)] })
    else s.stirPort p (fun x => { x with tc3 := x.tc3 ++ [(4, zeros 8 ++ answer)] })
  | _ => s

/-- TRAINING_RETRY: 100 ms after a failure the port trains again. -/
def execTrainingRetry (p : PortId) (s : State) : Host.Outcome State Fault Refusal :=
  answer s (if s.obj (Obj.downReason p) = 8 ∧ (s.port p).link = .down then s.signalDetect p else s)

/-! ### Retrain and reset (R347-R349, R362) -/

/-- The start a RETRAIN_REQ names, at a follower. -/
def retrainOf (pay : List Byte) : Retrain :=
  let f := leAt pay 0 8
  if f ≠ 0 then ⟨false, none, f⟩ else ⟨false, some (BitVec.ofNat 4 (leAt pay 8 1 % 16)), leAt pay 9 6⟩

/-- Whether two requests name one start. -/
def sameStart (a b : Retrain) : Bool := a.jobn == b.jobn && a.start % 2 ^ 48 == b.start % 2 ^ 48

/-- The follower takes the leader's start and answers with the same kind. A later request supersedes an earlier one. -/
def State.follow (s : State) (p : Nat) (r : Retrain) : State :=
  s.stirPort p (fun x => { x with retrain := some r, wantRetrain := false, tc3 := x.tc3 ++ [(6, retrainPay r)] })

/-- RETRAIN_REQ (R348, R349): on an uplink the module leads; between two requests the lower PNID leads; a lone requester leads. -/
def State.recvRetrain (s : State) (p : Nat) (pay : List Byte) : State :=
  let r := retrainOf pay
  if (s.port p).link ≠ .active then s
  else match (s.port p).retrain with
    | none => if isUplink p then s.leadRetrain p else s.follow p r
    | some own =>
      if !own.lead then s.follow p r
      else if sameStart own r then s.onPort p (fun x => { x with wantRetrain := false })
      else if s.measures p then s
      else s.follow p r

/-- RESET_REQ: the port goes DOWN and keeps the peer's reason. -/
def State.recvReset (s : State) (p : Nat) (pay : List Byte) : State := s.linkDown p 5 (leAt pay 0 1)

/-- Whether the start of an agreed retrain has come: its context is frozen at S, or FTIME has reached the instant. -/
def State.retrainDue (s : State) (r : Retrain) : Bool :=
  match r.jobn with
  | none => decide (r.start ≤ s.times.ftime.toNat)
  | some j => match s.ctxOfJob j.toNat with
    | none => false
    | some c => match (s.ctx c).hold with
      | some n => n.start % 2 ^ 48 == r.start % 2 ^ 48
      | none => false

/-- RETRAIN_START. -/
def execRetrainStart (p : PortId) (s : State) : Host.Outcome State Fault Refusal :=
  answer s (match (s.port p).retrain with
    | some r =>
      if (s.port p).link = .active ∧ s.retrainDue r then
        (s.onPort p (fun x => { x with exchanges := 0, rttSum := 0, wantRetrain := false })).setLink p .retrain
      else s
    | none => s)

/-- RETRAIN_TIMEOUT. -/
def execRetrainTimeout (p : PortId) (s : State) : Host.Outcome State Fault Refusal :=
  answer s (if (s.port p).link = .retrain then s.linkDown p 4 0 else s)

/-- LOSS_OF_SIGNAL: a port that is ACTIVE or retrains goes DOWN, but for one whose peer is in low-power idle, whose silence is none (R376); one that
trains fails. -/
def execLossOfSignal (p : PortId) (s : State) : Host.Outcome State Fault Refusal :=
  answer s (match (s.port p).link with
    | .active => if (s.port p).peerSleep then s else s.linkDown p 3 0
    | .retrain => s.linkDown p 3 0
    | .listen => s
    | _ => s.linkDown p 8 0)

/-- LINK_CTRL RETRAIN. -/
def execLinkCtrlRetrain (p : PortId) (s : State) : Host.Outcome State Fault Refusal := answer s (s.requestRetrain p).ok

/-- LINK_CTRL RESET. -/
def execLinkCtrlReset (p : PortId) (s : State) : Host.Outcome State Fault Refusal := answer s (s.linkDown p 6 0).ok

/-- LINK_CTRL WAKE_PEER: the wake pattern is sent on a port that is DOWN; never on an uplink (R379). -/
def execLinkCtrlWakePeer (p : PortId) (s : State) : Host.Outcome State Fault Refusal :=
  answer s (if isUplink p then s.withStatus stRefused
    else if (s.port p).link = .down then (s.onPort p (fun x => { x with wakeSend := true })).ok else s.ok)

/-- WAKE_BURST: 100 us of the wake pattern. -/
def execWakeBurst (p : PortId) (s : State) : Host.Outcome State Fault Refusal :=
  answer s (if (s.port p).wakeSend then s.emit (.wakeBurst p) else s)

/-- WAKE_TIMEOUT: the pattern stops and what waits fails (R379). -/
def State.wakeTimeout (s : State) (p : Nat) : State :=
  let x := s.port p
  if !x.wakeSend then s
  else
    let s := s.setPort p { x with wakeSend := false, skim1 := [], skim2 := [] }
    let s := (s.log (srcPort p) 0x0052 (leBytes 1 p)).dropSkim (x.skim1 ++ x.skim2)
    s.failRequests (s.skim.reqs.filter (fun r => r.port == p))

/-- WAKE_TIMEOUT. -/
def execWakeTimeout (p : PortId) (s : State) : Host.Outcome State Fault Refusal := answer s (s.wakeTimeout p)

/-! ### Replay and credits at the receiver (R354, R355, R365, R367) -/

/-- UNIT_CRC_FAIL: the unit is counted and dropped, and the first failure sends a NAK. -/
def execUnitCrcFail (p : PortId) (s : State) : Host.Outcome State Fault Refusal :=
  let t := s.bump64 (Obj.crcErrors p) 1
  let up := (s.port p).link == .active || (s.port p).link == .retrain
  answer s (if up && !(s.port p).discarding then t.sendNak p else t)

/-- NAK_TIMER. -/
def execNakTimer (p : PortId) (s : State) : Host.Outcome State Fault Refusal :=
  let up := (s.port p).link == .active || (s.port p).link == .retrain
  answer s (if up && (s.port p).discarding then s.sendNak p else s)

/-- ACK_DUE: the next unit's piggyback is an ACK, if units are unacknowledged. -/
def execAckDue (p : PortId) (s : State) : Host.Outcome State Fault Refusal :=
  answer s (if (s.port p).unacked ≠ 0 then s.onPort p (fun x => { x with ackOwed := true }) else s)

/-- CREDIT_RETURN_DUE: whatever was freed is returned. -/
def execCreditReturnDue (p : PortId) (s : State) : Host.Outcome State Fault Refusal :=
  answer s (s.onPort p (fun x => { x with creditDue := true }))

/-- CREDIT_TIMEOUT: a class that waits for credit takes the port down. -/
def execCreditTimeout (p : PortId) (s : State) : Host.Outcome State Fault Refusal :=
  let x := s.port p
  answer s (if x.link = .active ∧ (starved x.credit1 x.skim1 ∨ starved x.credit2 x.skim2) then s.linkDown p 2 0 else s)

/-- LANE_WAKE_START: a sleeping port begins to wake for a tick the plan needs (04 R153). -/
def execLaneWakeStart (p : PortId) (s : State) : Host.Outcome State Fault Refusal := answer s (s.startWake p)

/-! ### Time through the link (01 R16-R19; R375) -/

/-- The measured delay to the sender of a TIME unit: LINK_DELAY, or on an uplink half the mean of the last round trips. -/
def State.timeDelay (s : State) (p : Nat) : Option Nat :=
  if isUplink p then
    let l := (s.port p).peerRtts
    if l.isEmpty then none else some ((l.sum + l.length) / (2 * l.length))
  else some (s.obj (Obj.linkDelay p))

/-- Whether a port's TIME units count: those of the parent, and in holdover or behind a lost parent those of the alternate. -/
def State.timeSource (s : State) (p : Nat) : Bool :=
  s.obj Obj.ftimeParentPort == p || (s.obj Obj.ftimeAltParentPort == p && (s.times.alt || s.times.holdover))

/-- An offset to the parent: the first lock since a reset or a DEEP exit steps FTIME, if no context has a job armed or running; every other
offset is slewed (R16, R17, R19; DEDUCED, log entry 112). -/
def State.takeOffset (s : State) (p : Nat) (offset : Int) : State :=
  let step := !s.times.stepped && !s.anyBusy
  let alt := s.obj Obj.ftimeParentPort != p
  let news := !s.times.locked || s.times.holdover || s.times.alt != alt
  let s := { s with times := { s.times with
    ftime := if step then s.times.ftime + BitVec.ofInt 64 offset else s.times.ftime, slew := if step then 0 else offset,
    stepped := true, locked := true, holdover := false, alt := alt, offset := BitVec.ofInt 16 offset } }
  let s := if news then s.log srcTime 0x0020 (leBytes 1 (if alt then 1 else 3) ++ leBytes 1 p) else s
  if (s.obj Obj.ftimeAlarm : Int) < offset.natAbs then s.log srcTime 0x0021 (leBytes 2 (wrap 16 offset)) else s

/-- TIME. -/
def State.recvTime (s : State) (p : Nat) (pay : List Byte) : State :=
  if (s.port p).link ≠ .active ∨ !s.timeSource p then s
  else match s.timeDelay p with
    | none => s
    | some d => s.takeOffset p (sgn 64 (leAt pay 8 8 + d + 2 ^ 64 - s.times.ftime.toNat))

/-- The TIME units of a port for one interval: one on a board or X port but the parent, one for each recent requester on an uplink (DEDUCED, log entry 89). -/
def State.sendTimes (s : State) (p : Nat) : State :=
  let x := s.port p
  if x.link ≠ .active then s
  else if isUplink p then
    let live := x.timePeers.filter (fun e => decide (e.2 < 4))
    let ask := s.parentPort == some p && decide (s.obj (Obj.timePeerPnid p) < 512)
    let req := if ask then [(3, leBytes 2 (0x8000 + s.obj (Obj.timePeerPnid p)))] else []
    s.stirPort p (fun x => { x with tc3 := x.tc3 ++ live.map (fun e => (2, leBytes 2 (0x8000 + e.1))) ++ req,
                                    timePeers := live.map (fun e => (e.1, e.2 + 1)) })
  else if s.parentPort = some p then s
  else s.stirPort p (fun x => { x with tc3 := x.tc3 ++ [(2, [])] })

/-- FTIME_SYNC_SEND. -/
def execFtimeSyncSend (s : State) : Host.Outcome State Fault Refusal := answer s (allPorts.foldl State.sendTimes s)

end Sys2Proof.Machine
end

