-- ==== Sys2Proof/Machine/Arm.lean ====
section
/-! DEFINITION. Arming a job: the checks of every chapter, the claims, and what arming loads (01 R28, R33, R37, R54-R57; 02 R87; 03 R119; 07 R260,
R264, R270, R273; 08 R291-R297; 09 R345, R361; 10 R387, R397; 12 R441, R442, R451; 13 R497, R593; 16 R579). -/
namespace Sys2Proof.Machine
open Sys2Proof

/-! ### What the image names -/

/-- The banks of a context that are LOADED. -/
def State.loadedBanks (s : State) (c : Nat) : List Nat := [0, 1].filter (fun b => (s.ctx c).bank b == .loaded)

/-- The other contexts whose claims stand. -/
def State.rivals (s : State) (c : Nat) : List Nat := allCtxs.filter (fun d => d != c && (s.ctx d).claims)

/-- The other contexts with a job armed or running. -/
def State.busyRivals (s : State) (c : Nat) : List Nat := allCtxs.filter (fun d => d != c && (s.ctx d).busy)

/-- The compare units set for a context's launch (R54). -/
def State.launchUnits (s : State) (c : Nat) : List Nat :=
  (List.range 16).filter (fun n => s.obj (Obj.cmpOwner n) == clDriver && (s.cmp n).launch && (s.cmp n).ctx == c)

/-- The ports the LOADED banks name (R296). -/
def State.armPorts (s : State) (c : Nat) : List Nat := ((s.loadedBanks c).flatMap (s.bankPorts c)).eraseDups

/-- Records of SYNC_INIT. -/
def State.syncInits (s : State) (c : Nat) : List (List Byte) :=
  (List.range (s.domLen (Obj.syncInit c) / 16)).map (fun i => s.dom (Obj.syncInit c) (16 * i) 16)

/-- Records of BARRIER_INIT. -/
def State.barrierInits (s : State) (c : Nat) : List (List Byte) :=
  (List.range (s.domLen (Obj.barrierInit c) / 16)).map (fun i => s.dom (Obj.barrierInit c) (16 * i) 16)

/-- The vids BARRIER_INIT marks LAUNCH. -/
def State.launchBarriers (s : State) (c : Nat) : List Nat :=
  ((s.barrierInits c).filter (fun r => bitOf (leAt r 0 2) 12)).map (fun r => leAt r 0 2 % 4096)

/-! ### Checks that end in VALUE_REFUSED -/

/-- HOLD_LEAD and the quanta (R33). A quantum of 0 stands for L. -/
def State.leadBad (s : State) (c : Nat) : Bool :=
  let l := s.lead c
  let low := fun (q : Nat) => decide (q ≠ 0) && decide (q < l)
  decide (l = 0) || decide (448 < l) || decide (l < s.obj (Obj.holdDiameter c)) || low (s.obj (Obj.selectQuantum c)) || low (s.obj (Obj.readyQuantum c))

/-- Λ of the boundaries with more than one continuation (R28). -/
def State.lambdaBad (s : State) (c : Nat) : Bool :=
  (s.loadedBanks c).any (fun b => (List.range (s.obj (Obj.segCount c))).any (fun i =>
    let g := s.seg c b i
    g.fin == 1 && decide (2 ≤ g.ncont) && decide (g.lambda < s.lead c + s.obj (Obj.skimBcastTime c))))

/-- Vat-resident sources need L of at least VFETCH_LEAD (R87). -/
def State.slotBad (s : State) (c : Nat) : Bool :=
  decide (s.lead c < s.obj Obj.vfetchLead) && (s.loadedBanks c).any (fun b => (List.range (s.obj (Obj.mrCount c))).any (fun i =>
    let e := s.mr c b i
    e.role == 0 && e.slot))

/-- Uplink entries need the image's plane latency to be the module's (R295). -/
def State.planeBad (s : State) (c : Nat) : Bool :=
  (s.armPorts c).any isUplink && s.obj (Obj.planeLatencyImg c) != s.obj Obj.planeLatency

/-- A stream descriptor's check: valid, its VAT assigned, its SEG defined; a gated write stream needs L of at least WFETCH_LEAD (R270, R273). -/
def State.streamBad (s : State) (c : Nat) (r : List Byte) : Bool :=
  let d := streamDecode r
  d.bad || (s.ownedVat c d.vatID).isNone || decide (s.obj (Obj.segCount c) ≤ d.seg) ||
    (d.write && d.gated && decide (s.lead c < s.obj Obj.wfetchLead))

/-- The stream tables. -/
def State.streamsBad (s : State) (c : Nat) : Bool :=
  (s.loadedBanks c).any (fun b => (s.streamRecords c b 0 ++ s.streamRecords c b 1).any (fun r => s.streamBad c r.2))

/-- Whether DRAM_INTERLEAVE differs from the interleave of the image that IMAGE_DIGEST names (R260; 13 R593). -/
def State.interleaveBad (s : State) (c : Nat) : Bool := match (s.ctx c).imageIntlv with
  | some m => m != s.obj (Obj.dramInterleave c)
  | none => false

/-- FRAME_MAP under R7: bits 30:9 of every entry are reserved (R259, R260). -/
def State.framesBad (s : State) (c : Nat) : Bool :=
  (List.range 512).any (fun i => fld (s.domLe (Obj.frameMap c) (4 * i) 4) 9 22 != 0)

/-- Whether an entry of SYNC_MAP fails a check (R385, R387). -/
def State.mapEntryBad (s : State) (c e : Nat) : Bool :=
  fld e 24 5 != 0 || (bitOf e 31 && match fld e 29 2 with
    | 0 => fld e 12 12 != 0
    | 1 => fld e 12 12 != 0 || decide (s.obj (Obj.barrierCount c) ≤ fld e 0 12)
    | 2 =>
      let r := s.routeEntry c (s.activeBank c) (fld e 12 12)
      !routeV r || routeSelf r
    | _ => fld e 12 8 != 0 || fld e 20 4 == c || !(s.ctx (fld e 20 4)).busy)

/-- SYNC_MAP. -/
def State.mapBad (s : State) (c : Nat) : Bool := (List.range 4096).any (fun i => s.mapEntryBad c (s.domLe (Obj.syncMap c) (4 * i) 4))

/-- Whether a vid is mapped with a kind in SYNC_MAP. -/
def State.mapsAs (s : State) (c vid kind : Nat) : Bool :=
  let e := s.domLe (Obj.syncMap c) (4 * vid) 4
  bitOf e 31 && fld e 29 2 == kind

/-- SYNC_INIT: each record names a local counter, starts within its LIMIT and has its reserved bytes zero (R382, R407). -/
def State.syncInitBad (s : State) (c : Nat) : Bool :=
  (s.syncInits c).any (fun r => decide (4096 ≤ leAt r 8 2) || leAt r 10 6 != 0 || decide (leAt r 4 4 < leAt r 0 4) || !s.mapsAs c (leAt r 8 2 % 4096) 0)

/-- BARRIER_INIT: each record names a barrier, has MOD_N 1 to 4,096 and LOC_N 1 to 1,024, which is 1 at a launch barrier, and is not frozen or sent
(R397, R398, R407). -/
def State.barrierInitBad (s : State) (c : Nat) : Bool :=
  (s.barrierInits c).any (fun r =>
    let w := leAt r 0 2
    let locN := leAt r 6 2
    fld w 13 2 != 0 || decide (4096 ≤ leAt r 2 2) || leAt r 4 2 == 0 || decide (4096 < leAt r 4 2) || locN == 0 || decide (1024 < locN) ||
      (bitOf w 12 && locN != 1) || leAt r 8 4 != 0 || !s.mapsAs c (w % 4096) 1)

/-- VARIANT_TABLE (R442). -/
def State.variantsBad (s : State) (c : Nat) : Bool :=
  let n := s.variants c
  let bad := fun (j : Nat) =>
    let (pw, c0, c1, f) := s.variantRec c j
    let high := decide (j ≠ 0) && decide (pw ≤ (s.variantRec c (j - 1)).1)
    let freq := f != 0 && (f % 50 != 0 || decide (f < 1600) || decide (2400 < f) || (s.adaptive && decide (f < s.obj Obj.adaptFmin)))
    high || decide (640 < c0) || decide (640 < c1) || freq || s.domLe (Obj.variantTable c) (16 * j + 8) 8 != 0
  decide (n = 0) || decide (16 < n) || decide (n ≤ s.obj (Obj.launchVariant c)) || (List.range n).any bad

/-! ### Checks that end in RESOURCE_HELD -/

/-- Whether two ranges meet. -/
def rangesMeet (a n b m : Nat) : Bool := decide (0 < n) && decide (0 < m) && decide (a < b + m) && decide (b < a + n)

/-- The range objects of a context: tables and barriers (R297, R397). -/
def rangeKeys (c : Nat) : List (Nat × Nat) :=
  [(Obj.mrBase c, Obj.mrCount c), (Obj.segBase c, Obj.segCount c), (Obj.routeBase c, Obj.routeCount c), (Obj.barrierBase c, Obj.barrierCount c)]

/-- Whether a range of a context meets the same range of another. -/
def State.rangesHeld (s : State) (c : Nat) : Bool :=
  (s.rivals c).any (fun d => ((rangeKeys c).zip (rangeKeys d)).any (fun e =>
    rangesMeet (s.obj e.1.1) (s.obj e.1.2) (s.obj e.2.1) (s.obj e.2.2)))

/-- The physical frames a context's map names: 256 * die + frame (R259). -/
def State.frames (s : State) (c : Nat) : List Nat :=
  (List.range 512).filterMap (fun i =>
    let e := s.domLe (Obj.frameMap c) (4 * i) 4
    if bitOf e 31 then some (e % 512) else none)

/-- Whether another context names one of its frames (R260). -/
def State.framesHeld (s : State) (c : Nat) : Bool :=
  let own := s.frames c
  (s.rivals c).any (fun d => (s.frames d).any own.contains)

/-- Whether another context has one of its vats or pail pages, or its churn pages are too many (R119, R497). -/
def State.placesHeld (s : State) (c : Nat) : Bool :=
  let vats := (List.range 320).filter (s.assigned c)
  let pages := (List.range 24576).filter (fun p => s.pageKind c p != 0)
  (s.rivals c).any (fun d => vats.any (s.assigned d) || pages.any (fun p => s.pageKind d p != 0)) ||
    decide (4096 < (pages.filter (fun p => s.pageKind c p == 3)).length)

/-- Whether another context streams on a die for which this image has descriptors: those that name its vats (R264). -/
def State.dieHeld (s : State) (c die : Nat) : Bool :=
  let o := s.obj (Obj.streamOwner die)
  o != clNone && o != c && (s.loadedBanks c).any (fun b => (List.range 2048).any (fun i =>
    let r := s.dom (streamBank die b) (64 * i) 64
    r.any (fun x => x != 0) && (s.ownedVat c (streamDecode r).vatID).isSome))

/-- Whether a port the banks name is owned by another, degraded, or too long for its replay buffer (R296, R345, R361). -/
def State.portsHeld (s : State) (c : Nat) : Bool :=
  (s.armPorts c).any (fun p => s.portHeld c p || s.degraded p || decide (rttLimit p < s.obj (Obj.replayRtt p)))

/-- Whether the shares of all jobs would total more than 100 (R441). -/
def State.shareHeld (s : State) (c : Nat) : Bool :=
  decide (100 < (s.busyRivals c).foldl (fun n d => n + s.obj (Obj.budgetShare d)) (s.obj (Obj.budgetShare c)))

/-! ### Arming -/

/-- The statuses of the checks that fail. A segment or a table range outside its table, which does not exist, is
refused as a value (DESIGN CHOICE, log entry 40). -/
def State.armFails (s : State) (c : Nat) (byBarrier : Bool) : List Nat :=
  let held := fun (b : Bool) => if b then [stHeld] else []
  let refused := fun (b : Bool) => if b then [stRefused] else []
  let beyond := decide (4096 ≤ s.obj (Obj.segBase c) + s.obj (Obj.entrySeg c)) ||
    ((rangeKeys c).zip [131072, 4096, 4096, 1024]).any (fun e => decide (e.2 < s.obj e.1.1 + s.obj e.1.2))
  held s.power.tripped ++ held s.entry.barred ++ held ((s.busyRivals c).any (fun d => s.jobn d == s.jobn c)) ++ held (s.rangesHeld c) ++
    held (s.framesHeld c) ++ held (s.placesHeld c) ++ held (s.dieHeld c 0 || s.dieHeld c 1) ++ held (s.portsHeld c) ++ held (s.shareHeld c) ++
    (if (s.ctx c).bank (s.activeBank c) = .loaded then [] else [stWrongState]) ++
    refused (s.leadBad c) ++ refused beyond ++ refused ((s.launchUnits c).length != 1) ++
    refused (byBarrier && (s.launchBarriers c).length != 1) ++ refused (s.lambdaBad c) ++ refused (s.slotBad c) ++ refused (s.planeBad c) ++
    refused (s.streamsBad c) ++ refused (s.framesBad c) ++ refused (s.mapBad c) ++ refused (s.syncInitBad c) ++ refused (s.barrierInitBad c) ++
    refused (s.variantsBad c) ++ refused (s.interleaveBad c)

/-- The claims of an arming: ports, and the dies with stream descriptors (R264, R296). -/
def State.claimAll (s : State) (c : Nat) : State :=
  let dies := [0, 1].filter (fun d => (s.loadedBanks c).any (fun b => !(s.streamRecords c b d).isEmpty))
  let s := (s.armPorts c).foldl (fun s p => s.claimPort c p) s
  dies.foldl (fun s d => s.setObj (Obj.streamOwner d) c) s

/-- A context as arming leaves it: its fault objects and hold log are empty, its active bank is ACTIVE. -/
def CtxState.armed (x : CtxState) (byBarrier : Bool) (unit b : Nat) (lnid : BitVec 12) : CtxState :=
  let y := { CtxState.reset with job := .armed, barrier := byBarrier, unit := unit, lnid := lnid, bank0 := x.bank0, bank1 := x.bank1 }
  let y := { y with sync := x.sync, epochs := x.epochs, measure0 := x.measure0, measure1 := x.measure1, fenceSeen := x.fenceSeen,
                      imageIntlv := x.imageIntlv, badBanks := x.badBanks.filter (fun b => x.bank b == BankState.draining) }
  y.setBank b .active

/-- Arms the job: the launch unit is the module's from here on. By barrier, the arming is the launch barrier's local arrival; by FTIME, the
unit is set at once (R54-R57). -/
def State.armJob (s : State) (c : Nat) (byBarrier : Bool) : State :=
  let b := s.activeBank c
  let unit := (s.launchUnits c).headD 0
  let s := (s.claimAll c).setObj (Obj.faultCount c) 0
  let s := if s.obj Obj.lockstepEnable = 1 ∧ s.lockCtx = c then s.clearLock else s
  let s := (s.setCtx c ((s.ctx c).armed byBarrier unit b (BitVec.ofNat 12 (s.selfLnid c b)))).loadSync c
  let s := s.onCmp unit (fun u => { u with ctrl := u.ctrl &&& 0x7FFFFFFF, armed := false })
  if byBarrier then
    match s.launchBarriers c with
    | vid :: _ => match s.resolve c vid with
      | .barrier n => s.localArrive c n ⟨srcSched c, 0, 9, (s.ctx c).lnid.toNat, none⟩
      | _ => s
    | [] => s
  else s.setLaunch c (s.obj (Obj.launchFtime c))

/-- LAUNCH_ARM BARRIER or FTIME. With several failing checks the one reported is a free choice among them (R593; DESIGN CHOICE, log entry 20). -/
def State.armLaunch (s : State) (c : Nat) (byBarrier : Bool) : State :=
  if (s.ctx c).busy then s.withStatus stWrongState
  else match s.armFails c byBarrier with
    | [] => (s.armJob c byBarrier).ok
    | st :: rest =>
      let s' := { s with fresh := s.fresh + 1 }
      s'.withStatus ((st :: rest).getD (Config.freeChoice s.fresh % (rest.length + 1)) st)

/-- LAUNCH_ARM BARRIER. -/
def execLaunchArmBarrier (c : CtxId) (s : State) : Host.Outcome State Fault Refusal := answer s (s.armLaunch c true)

/-- LAUNCH_ARM FTIME. -/
def execLaunchArmFtime (c : CtxId) (s : State) : Host.Outcome State Fault Refusal := answer s (s.armLaunch c false)

/-- LAUNCH_ARM IDLE: disarms a job that has not launched; refused while it runs; does nothing without one. -/
def execLaunchArmIdle (c : CtxId) (s : State) : Host.Outcome State Fault Refusal :=
  answer s (match (s.ctx c).job with
    | .armed => (s.resetCtx c 1).ok
    | .running => s.withStatus stWrongState
    | _ => s.ok)

end Sys2Proof.Machine
end

