-- ==== Sys2Proof/Machine/Store.lean ====
section
/-! DEFINITION. The config store in NOR (15 R553-R558), persistent writes (14 R505) and which objects the MP serves (14 R509, R591). A record is
written in one step, so the model never interrupts one (DEDUCED, log entry 44). -/
namespace Sys2Proof.Machine
open Sys2Proof

/-! ### Objects and their servers (14 R509, R591; 15 R537, R564) -/

/-- Whether the MP serves an object. -/
def mpServed (key : Nat) : Bool :=
  let ix := key / 256
  key == Obj.restoreDefaults || key == Obj.bootCount || ix == 0x1100 || ix == 0x2000 || ix == 0x2100 ||
    (decide (0x2110 ≤ ix) && decide (ix < 0x2120)) || ix == 0x2200 || ix == 0xA000

/-- Whether the boot ROM serves an object too. -/
def romServed (key : Nat) : Bool := key / 256 == 0x1100 || key / 256 == 0xA000 || key == Obj.bootCount

/-- Whether firmware runs. -/
def State.fwRuns (s : State) : Bool := s.boot.mp == .running

/-- Whether an object is served now. -/
def State.served (s : State) (key : Nat) : Bool :=
  !mpServed key || (match s.boot.mp with
    | .running => true
    | .restarting => false
    | .off => false
    | _ => romServed key && (key != Obj.bootCount || s.boot.scanned))

/-- The bytes of an object's value. -/
def State.objBytes (s : State) (key : Nat) (r : ObjRow) : List Byte :=
  if r.type = .domain then s.dom key 0 r.size else leBytes r.size (s.obj key)

/-- Gives an object the value that bytes spell. -/
def State.setBytes (s : State) (key : Nat) (r : ObjRow) (b : List Byte) : State :=
  if r.type = .domain then s.setDom key 0 b else s.setObj key (leNat b)

/-- Key and row of every defined object but subindex 0, in rising order (R498, R511). -/
def allObjects : List (Nat × ObjRow) :=
  objGroups.flatMap (fun g => (List.range g.count).flatMap (fun i => g.rows.flatMap (fun r =>
    (List.range (r.hi + 1 - r.lo)).map (fun k => (256 * (g.base + i) + r.lo + k, r)))))

/-- The persistent objects. -/
def persistentObjects : List (Nat × ObjRow) := allObjects.filter (fun e => e.2.persist)

/-! ### Records and blocks (15 R553, R554, R557) -/

/-- Bytes a record takes: header, padded payload, CRC and commit word. -/
def CsRecord.size (r : CsRecord) : Nat := 16 + 4 * ceilDiv r.value.length 4 + 8

/-- Blocks in use; a retired one that still holds records counts as retired alone. -/
def State.csUsed (s : State) : Nat := (((s.boot.records.map (fun r => r.block)).eraseDups).filter (fun b => !s.boot.spoiled.contains b)).length

/-- CS_FREE_BLOCKS. -/
def State.csFree (s : State) : Nat := 256 - s.csUsed - s.boot.retired

/-- Bytes used in a block: its header and its records. -/
def State.csFill (s : State) (b : Nat) : Nat := (s.boot.records.filter (fun r => r.block == b)).foldl (fun n r => n + r.size) 16

/-- A block whose program fails to read back is retired, and writing goes on in a fresh one. -/
def State.csRetire (s : State) (b : Nat) : State :=
  let inUse := s.boot.records.any (fun r => r.block == b)
  { s with boot := { s.boot with retired := min 256 (s.boot.retired + 1), spoiled := if inUse then b :: s.boot.spoiled else s.boot.spoiled } }

/-- Appends a committed record: in the newest block, or in a fresh one. `blocks` is the sequence number of the newest block. Whether a program of it
fails to read back is a free choice: its block is then retired and the record completed in another (R557; DESIGN CHOICE, log entry 138). -/
def State.csAppend (s : State) (key : Nat) (value : List Byte) : State :=
  let r : CsRecord := { key := key, floor := key == Obj.rollbackFloor, seq := s.boot.csSeq, value := value, good := true, block := s.boot.blocks }
  let b := if s.boot.blocks ≠ 0 ∧ s.csFill s.boot.blocks + r.size ≤ 65536 then s.boot.blocks else s.boot.blocks + 1
  let (f, s) := s.takeFree 1
  let s := if f = 1 then s.csRetire b else s
  let b := if f = 1 then b + 1 else b
  { s with boot := { s.boot with records := s.boot.records ++ [{ r with block := b }], csSeq := s.boot.csSeq + 1, blocks := b } }

/-- Compaction: every persistent object and the floor are copied into fresh blocks, and the blocks they replace are erased; `bad` of these
fail and are retired. Fewer than two free blocks leave the store FAILED (R557). -/
def State.compact (s : State) (bad : Nat) : State :=
  let old := s.csUsed
  let s : State := { s with boot := { s.boot with records := [], spoiled := [], blocks := s.boot.blocks + 1 } }
  let s := persistentObjects.foldl (fun s e => s.csAppend e.1 (s.objBytes e.1 e.2)) s
  let n := min bad old
  let s : State := { s with boot := { s.boot with retired := min 256 (s.boot.retired + n) } }
  let failed : Bool := decide (s.csFree < 2)
  let s := { s with boot := { s.boot with failed := failed } }
  s.log srcMp 0x00C4 (leBytes 2 (if failed then 0 else old - n) ++ [0, 0] ++ leBytes 4 persistentObjects.length)

/-- The automatic compaction when fewer than 8 blocks are free; how many erases fail is a free value (R557; DESIGN CHOICE, log entry 138). A power
fail starts none (R558). -/
def State.autoCompact (s : State) : State :=
  if 8 ≤ s.csFree ∨ s.power.fail ≠ .none then s
  else
    let (bad, s) := s.takeFree 8
    s.compact bad.toNat

/-- A committed record, and the compaction that may follow. -/
def State.csWrite (s : State) (key : Nat) (value : List Byte) : State := (s.csAppend key value).autoCompact

/-- CS_STATE: 0 OK, 1 DEGRADED, 2 FAILED. -/
def State.csState (s : State) : Nat := if s.boot.failed then 2 else if s.boot.retired ≠ 0 then 1 else 0

/-! ### Persistent writes (14 R505; 15 R558) -/

/-- The source a client's events have: the management door's for the chassis manager (R533). -/
def srcOf (client : Byte) : Nat := if client.toNat = clChassis then srcCan else srcHost

/-- What refuses a persistent write before its value counts: a power fail, or firmware that does not run (R558, R591). -/
def State.persistGate (s : State) (key : Nat) : Bool :=
  s.power.fail == .none && (s.fwRuns || key / 256 == 0x1100 || key / 256 == 0xA000)

/-- Applies a persistent write with its record: both or neither. The value already in force appends nothing (DEDUCED, log entry 43). -/
def State.commitWrite (s : State) (key : Nat) (client : Byte) (r : ObjRow) (b : List Byte) : State :=
  let note := fun (s : State) (flag : Nat) =>
    s.log (srcOf client) 0x00B0 (leBytes 2 (key / 256) ++ leBytes 1 (key % 256) ++ leBytes 1 client.toNat ++ leBytes 1 flag)
  if !s.persistGate key then s.withStatus stResetting
  else if s.objBytes key r = b then s.ok
  else if s.boot.failed then (note s 1).withStatus stAborted
  else (note ((s.setBytes key r b).csWrite key b) 0).ok

/-- The same for an object by its key, with a scalar value (DEDUCED, log entry 101). -/
def State.commitScalar (s : State) (key : Nat) (client : Byte) (v : Nat) : State :=
  match objFind (key / 256) (key % 256) with
  | some r => s.commitWrite key client r (leBytes r.size v)
  | none => s.withStatus stNoObject

/-- Whether the last command succeeded. -/
def State.succeeded (s : State) : Bool := s.host.status == 0

/-! ### The scan at boot (15 R546, R556) -/

/-- The newest committed record of an object: sequence numbers compare by the signed difference. -/
def newestRec (key : Nat) (l : List CsRecord) : Option CsRecord :=
  (l.filter (fun r => r.good && r.key == key && !r.floor)).foldl (fun m r => match m with
    | none => some r
    | some o => if 0 ≤ sgn 32 (wrap 32 ((r.seq.toNat : Int) - o.seq.toNat)) then some r else some o) none

/-- The floor: the greatest value of any committed floor record. -/
def floorOf (l : List CsRecord) : Nat := (l.filter (fun r => r.good && r.floor)).foldl (fun m r => max m (leNat r.value)) 0

/-- Scans the store: every persistent object takes its value. Writing resumes in the newest block unless its last record was cut off. The second
component is the detail of CONFIG_SCAN. -/
def State.csScan (s : State) : State × List Byte :=
  let l := s.boot.records
  let s := persistentObjects.foldl (fun s e => match newestRec e.1 l with
    | some r => s.setBytes e.1 e.2 r.value
    | none => s) s
  let s := s.setObj Obj.rollbackFloor (floorOf l)
  let ignored := (l.filter (fun r => !r.good)).length
  let cut := match l.getLast? with | some r => !r.good | none => false
  ({ s with boot := { s.boot with scanned := true, ignored := ignored, blocks := if cut then s.boot.blocks + 1 else s.boot.blocks } },
    leBytes 4 (l.length - ignored) ++ leBytes 4 ignored ++ leBytes 2 s.csUsed ++ leBytes 1 (b2n cut))

end Sys2Proof.Machine
end

