-- ==== Sys2Proof/Machine/Perturb.lean ====
section
/-! DEFINITION. The lock-step pair's commands (11 R429, R431) and the perturbation slots (11 R435-R438). -/
namespace Sys2Proof.Machine
open Sys2Proof

/-! ### Lock-step -/

/-- What waits on a port that carries messages no longer fails (09 R370, R373). -/
def State.dropQueued (s : State) (p : Nat) : State :=
  let x := s.port p
  let s := (s.setPort p { x with skim1 := [], skim2 := [] }).dropSkim (x.skim1 ++ x.skim2)
  s.failRequests (s.skim.reqs.filter (fun r => r.port == p))

/-- A write of LOCKSTEP_ENABLE: enabling claims X1 for the comparator, disabling releases it. Like every persistent object it takes its value with
its record (14 R505). It is refused while any context has a job (14 R501). -/
def State.writeLockstep (s : State) (client : Byte) (on : Bool) : State :=
  if s.anyBusy then s.withStatus stWrongState
  else
    let old := s.obj Obj.lockstepEnable
    if on ∧ old ≠ 1 ∧ (s.obj (Obj.xOwner 1) ≠ clNone ∨ s.obj (Obj.schedOwner 33) ≠ clNone) then s.withStatus stHeld
    else
      let t := s.commitScalar Obj.lockstepEnable client (b2n on)
      if !t.succeeded ∨ old = b2n on then t
      else
        let held := t.obj (Obj.xOwner 1) == clLock
        (if on then (t.dropQueued 33).setObj (Obj.xOwner 1) clLock else if held then t.setObj (Obj.xOwner 1) clNone else t).clearLock

/-- LOCKSTEP_ENABLE, by the driver. -/
def execLockstepEnable (on : Bool) (s : State) : Host.Outcome State Fault Refusal :=
  answer s (s.writeLockstep (BitVec.ofNat 8 clDriver) on)

/-- A signature unit of the peer. -/
def State.takeSignature (s : State) (pay : List Byte) : State :=
  ({ s with lock := { s.lock with peer := s.lock.peer ++ [Signature.ofBytes pay] } }).comparePhases

/-- LOCKSTEP_TIMEOUT: the oldest phase of its own that the peer has not matched is overdue. -/
def execLockstepTimeout (s : State) : Host.Outcome State Fault Refusal :=
  answer s (match s.lock.own with
    | o :: _ => if s.lockOwns then s.diverge 4 o.step o.ps 0 else s
    | [] => s)

/-! ### Perturbation slots -/

/-- A slot before it is armed. -/
def Perturb.reset : Perturb := ⟨0xFF, false, 0, 0⟩

/-- The state of a slot. -/
def State.slot (s : State) (n : Nat) : Perturb := Tab.get (fun _ => Perturb.reset) s.perturb n

/-- Sets the state of a slot, and PERTURB_OWNER. -/
def State.setSlot (s : State) (n : Nat) (x : Perturb) : State :=
  { s with perturb := Tab.set (fun _ => Perturb.reset) s.perturb n x }

/-- A PERTURB_SLOT by field (R436). -/
structure SlotWord where
  kind   : Nat
  ctx    : Nat
  ftime  : Bool
  target : Nat
  count  : Nat
  first  : Nat
  period : Nat
  magn   : Nat
  mask   : Nat
  pad    : Bool                          -- a reserved bit is set
  deriving DecidableEq, Repr

/-- The content of a slot. -/
def State.slotWord (s : State) (n : Nat) : SlotWord :=
  let r := s.dom (Obj.perturbSlot n) 0 32
  { kind := leAt r 0 1, ctx := leAt r 1 1 % 16, ftime := bitOf (leAt r 1 1) 4, target := leAt r 2 2, count := leAt r 6 2, first := leAt r 8 8,
    period := leAt r 16 4, magn := leAt r 20 4, mask := leAt r 24 4,
    pad := decide (32 ≤ leAt r 1 1) || leAt r 4 2 != 0 || leAt r 28 4 != 0 }

/-- Whether a slot breaks R7 or the kind table (R436, R437). -/
def SlotWord.bad (w : SlotWord) : Bool :=
  let port := decide (w.target < 34)
  let between := fun (lo hi : Nat) => decide (lo ≤ w.magn) && decide (w.magn ≤ hi)
  w.pad || w.count == 0 || !(match w.kind with
    | 1 => port && between 1 4096 && w.mask == 0
    | 2 => port && w.magn == 0 && w.mask == 0
    | 3 => port && decide (w.mask < 4)
    | 4 => w.target == 0 && between 1 longestHold && decide (w.mask < 2)
    | 5 => (w.target == 0xFFFF || (vatOfId w.target).isSome) && w.mask == 0
    | 6 => decide (w.target < 2) && w.magn == 0 && w.mask == 0
    | 7 => decide (w.target < 2) && between 1 1000 && decide (w.mask < 16)
    | 8 => port && decide (1 ≤ w.magn)
    | _ => false)

/-- PERTURB_ARM. -/
def execPerturbArm (client : Byte) (n : Fin 16) (s : State) : Host.Outcome State Fault Refusal :=
  let w := s.slotWord n
  let x := s.slot n
  answer s (if !s.inScope client 0 then s.withStatus stToken
    else if x.armed && x.owner != client then s.withStatus stHeld
    else if w.bad then s.withStatus stRefused
    else
      let s := s.setSlot n ⟨client, true, w.count, w.first⟩
      ({ s with boot := { s.boot with everPerturb := true } }).ok)

/-- PERTURB_ARM DISARM. -/
def execPerturbDisarm (client : Byte) (n : Fin 16) (s : State) : Host.Outcome State Fault Refusal :=
  answer s (if !s.inScope client 0 then s.withStatus stToken else (s.setSlot n Perturb.reset).ok)

/-- PERTURB_ENABLE: 0 disarms every slot. -/
def execPerturbEnable (client : Byte) (on : Bool) (s : State) : Host.Outcome State Fault Refusal :=
  answer s (if !s.inScope client 0 then s.withStatus stToken
    else
      let s := s.setObj Obj.perturbEnable (b2n on)
      (if on then s else { s with perturb := [] }).ok)

/-- Whether a slot's trigger has been reached, by the compare rule (01 R58). -/
def State.triggered (s : State) (w : SlotWord) (due : Nat) : Bool :=
  if w.ftime then decide (0 ≤ sgn 64 (wrap 64 ((s.times.ftime.toNat : Int) - due)))
  else (s.ctx w.ctx).job == .running && (s.ctx w.ctx).hold.isNone && (s.ctx w.ctx).executed &&
    decide (0 ≤ sgn 48 (wrap 48 (((s.ctx w.ctx).stime : Int) - due)))

/-- n stretched periods in a row, after what came before. -/
def State.stretchMany : Nat → State → Nat → State
  | 0, s, _ => s
  | n + 1, s, v => State.stretchMany n (s.stretch v true) v

/-- The effect of one injection (R437). Kind 4 is the debugger's request of R45 (DEDUCED, log entry 125). Kind 7 changes only times inside the die mesh (DEDUCED, log entry 41; DEDUCED, log entry 104). -/
def State.injectKind (s : State) (w : SlotWord) : State :=
  match w.kind with
  | 1 => s.onPort w.target (fun x => { x with stall := max x.stall (s.times.grid + w.magn + 1) })
  | 2 => s.onPort w.target (fun x => { x with corrupt := x.corrupt + 1 })
  | 3 => s.onPort w.target (fun x => { x with withhold := BitVec.ofNat 2 w.mask, withholdTo := s.times.grid + ceilDiv (w.magn * 390625) 1000 })
  | 4 => if (s.ctx w.ctx).job = .running then s.raiseHold w.ctx (s.holdStart w.ctx) w.magn 6 (bitOf w.mask 0) (some .debugger) else s
  | 5 =>
    let vats := if w.target = 0xFFFF then List.range 320 else (vatOfId w.target).toList
    vats.foldl (fun s v => State.stretchMany w.magn s v) s
  | 6 => match s.streamCtx w.target with
    | some c => s.raiseHold c (s.holdStart c) 64 2 false none
    | none => s
  | 8 => s.onPort w.target (fun x => { x with drop := BitVec.ofNat 32 w.mask, dropIn := w.magn })
  | _ => s

/-- One injection: its effect, its count and its event; the last disarms the slot, a periodic one falls due again. -/
def State.inject (s : State) (n : Nat) : State :=
  let w := s.slotWord n
  let x := s.slot n
  if !x.armed || s.obj Obj.perturbEnable != 1 || !s.triggered w x.due then s
  else
    let now := if w.ftime then s.times.ftime.toNat else (s.ctx w.ctx).stime
    let s := s.setSlot n (if x.left ≤ 1 then Perturb.reset else { x with left := x.left - 1, due := x.due + w.period })
    ((s.injectKind w).bump64 Obj.perturbInjections 1).log (srcPerturb n) 0x0070 (leBytes 1 w.kind ++ [0] ++ leBytes 2 w.target ++ leBytes 6 now)

/-- PERTURB_INJECT. -/
def execPerturbInject (n : Fin 16) (s : State) : Host.Outcome State Fault Refusal := answer s (s.inject n)

end Sys2Proof.Machine
end

