-- ==== Sys2Proof/Machine/Power.lean ====
section
/-! DEFINITION. Power: the governor, budgets and reports, thermal limits, power fail, votes, falls and rises of domains, DEEP and OFF, and wakes (12;
15 R535; 16 R573). -/
namespace Sys2Proof.Machine
open Sys2Proof

/-! ### Who asks (11 R433; 14 R509, R516, R519) -/

/-- What refuses a client before anything else: a debugger without a session, a code that is no door's. -/
def State.clientGate (s : State) (client : Byte) : Option Nat :=
  let k := client.toNat
  if k = clDebugger then (if s.host.session.isSome then none else some stToken)
  else if k = clDriver ∨ k = clChassis ∨ k = clMp then none else some stDenied

/-- A write of an object by a client: refused by the client's gate, or because the object is not served now. -/
def State.asClient (s : State) (client : Byte) (key : Nat) (f : State → State) : State :=
  match s.clientGate client with
  | some st => s.withStatus st
  | none => if s.served key then f s else s.withStatus stResetting

/-! ### The governor (12 R439, R447) -/

/-- The next throttle level. -/
def nextTheta (theta p beff peak max_ : Nat) : Nat :=
  if peak < p then max_ else if beff < p then min max_ (theta + ceilDiv (64 * (p - beff)) p) else theta - 1

/-- The governor's step: THROTTLE is logged when the level leaves 0 and when it returns (R449). -/
def State.govern (s : State) (p : Nat) : State :=
  let t := s.power.theta
  let n := nextTheta t p (s.obj Obj.budgetEffective) (s.obj Obj.peakLimit) (s.obj Obj.thetaMax)
  if t = 0 ∧ n = 0 then s
  else if t = 0 then
    ({ s with power := { s.power with theta := n, peak := n, throttled := 0 } }).log srcPower 0x0093 (leBytes 1 1 ++ leBytes 1 n)
  else
    let s : State := { s with power := { s.power with throttled := s.power.throttled + 1 } }
    if n = 0 then s.endThrottle else { s with power := { s.power with theta := n, peak := max s.power.peak n } }

/-- The permitted variant of a running context, at a sample (R444). -/
def State.permit (s : State) (c : Nat) : State :=
  let x := s.ctx c
  if x.job ≠ .running then s
  else
    let x := { x with quiet := if s.power.theta = 0 then x.quiet + 1 else 0, hot := if s.power.theta < 16 then 0 else x.hot + 1 }
    let s := s.setCtx c x
    let vb := s.bestVariant c
    let set := fun (v : Nat) => (s.setCtx c { x with permitted := v }).sendReport c
    if vb < x.permitted then set vb
    else if x.permitted < vb ∧ 10 * s.obj Obj.variantRaiseDelay ≤ x.quiet then set (x.permitted + 1)
    else if 0 < x.permitted ∧ s.obj Obj.variantDropTime ≤ 100 * x.hot then set (x.permitted - 1)
    else s

/-- A power sample. ENERGY is kept in tenths of a millijoule (DEDUCED, log entry 49). -/
def State.sample (s : State) (p : Nat) : State :=
  let s := (s.setObj Obj.powerNow p).bump64 Obj.energy p
  let s := (s.setObj Obj.budgetEffective (min (s.obj Obj.budgetW) (s.obj Obj.thermalCap))).govern p
  allCtxs.foldl State.permit s

/-- POWER_SAMPLE. -/
def execPowerSample (watts : BitVec 16) (s : State) : Host.Outcome State Fault Refusal :=
  answer s (if s.dark then s else s.sample watts.toNat)

/-! ### Budget and reports (R440, R445) -/

/-- A write of BUDGET_W. -/
def State.writeBudget (s : State) (client : Byte) (w : Nat) : State :=
  s.asClient client Obj.budgetW (fun s =>
    if w < 150 ∨ 500 < w then s.withStatus stRefused
    else
      let old := s.obj Obj.budgetW
      let t := s.commitScalar Obj.budgetW client w
      if t.succeeded then t.log srcPower 0x0091 (leBytes 2 old ++ leBytes 2 w ++ leBytes 1 client.toNat) else t)

/-- BUDGET_W. -/
def execBudgetW (client : Byte) (watts : BitVec 16) (s : State) : Host.Outcome State Fault Refusal :=
  answer s (s.writeBudget client watts.toNat)

/-- A write of BUDGET_REPORT: the named member's entry is replaced. -/
def State.takeReport (s : State) (c : Nat) (body : W32) : State :=
  let l := fld body.toNat 0 12
  if !s.served (Obj.budgetReport c) then s.withStatus stResetting
  else if fld body.toNat 12 4 ≠ 0 ∨ fld body.toNat 24 8 ≠ 0 ∨ !(s.members c).contains l then s.withStatus stRefused
  else (s.onCtx c (fun x => { x with reports := Tab.set (fun _ => s.obj (Obj.launchVariant c)) x.reports l (fld body.toNat 16 8) })).ok

/-- BUDGET_REPORT. -/
def execBudgetReport (c : CtxId) (body : W32) (s : State) : Host.Outcome State Fault Refusal := answer s (s.takeReport c body)

/-- BUDGET_REPORT_RETRY: a refused report is sent again with the latest variant; the timers of R444 run on. -/
def execBudgetReportRetry (c : CtxId) (s : State) : Host.Outcome State Fault Refusal :=
  let x := s.ctx c
  answer s (if x.owedReport && x.job == .running then
      (s.sendReport c).onCtx c (fun y => { y with quiet := x.quiet, hot := x.hot })
    else s)

/-! ### Going down (R378, R462; 15 R535) -/

/-- DEBUG_SESSION as an event: 1 opened, 2 closed, 3 expired, 4 closed by a door reset (14 R533). -/
def State.logSession (s : State) (what : Nat) (x : Session) : State :=
  s.log srcHost 0x00B1 (leBytes 1 what ++ leBytes 1 x.path ++ leBytes 2 x.via.toNat)

/-- Sends a PARAM with a flag on every ACTIVE port. -/
def State.sendFlags (s : State) (flags : Nat) : State :=
  allPorts.foldl (fun s p => if (s.port p).link = .active then s.emitTc3 p 5 (s.paramPay p flags) else s) s

/-- The heartbeat frame (14 R527). -/
def State.heartbeat (s : State) : List Byte :=
  let jobs := allCtxs.any (fun c => (s.ctx c).job == .running)
  let first := allCtxs.any (fun c => (s.ctx c).first.isSome)
  leBytes 1 s.power.fabric.level.code ++ leBytes 1 (b2n s.fwRuns + 2 * b2n jobs + 4 * b2n first + 8 * b2n s.can.class2) ++
    leBytes 2 (s.obj Obj.powerNow) ++ [int8 (s.power.tmax / 16)] ++ leBytes 1 s.can.beats.toNat ++ leBytes 2 (s.obj Obj.budgetEffective)

/-- Sends a heartbeat, unless HEARTBEAT_PERIOD is 0: the first when the door opens, then one every period (14 R527). -/
def State.beat (s : State) : State :=
  if !s.can.isOpen || s.obj Obj.canEnable != 1 || s.obj Obj.heartbeatPeriod == 0 then s
  else
    let t := s.sendCan (0x600 + s.pnid) s.heartbeat
    ({ t with can := { t.can with beats := t.can.beats + 1, class2 := false } } : State).busErrors

/-- What a module reset leaves: the NOR, the 36 V entry, the model's own trace and counters. A NOR copy that was being programmed is invalid
(15 R543). An open debug session closes, which is logged (14 R516). `on` is false where the module is OFF (DEDUCED, log entry 98). -/
def State.restart (s : State) (cause : Nat) (on : Bool) : State :=
  let s := match s.host.session with | some x => s.logSession 2 x | none => s
  let b := s.boot
  let nor := if b.fw = .programming then some [] else b.nor
  { State.reset with
    power := { PowerUnit.reset with off := !on }
    entry := { EntryUnit.reset with mate := s.entry.mate, switch := s.entry.switch, soft := s.entry.soft, released := on }
    boot := { BootUnit.reset with cause := BitVec.ofNat 8 cause, nor := nor, records := b.records, csSeq := b.csSeq, blocks := b.blocks }
    host := { HostUnit.reset with draws := s.host.draws, perst := s.host.perst }
    out := s.out, fresh := s.fresh, pending := s.pending }

/-- The module enters OFF: every record is committed already. -/
def State.enterOff (s : State) : State := (s.sendFlags 2).restart 1 false

/-! ### Thermal limits (R450, R451, R454) -/

/-- A change of THERMAL_CAP is logged. -/
def State.setCap (s : State) (cap tmax kind : Nat) : State :=
  if cap = s.obj Obj.thermalCap then s
  else (s.setObj Obj.thermalCap cap).log srcPower 0x0094 (leBytes 2 cap ++ leBytes 2 tmax ++ leBytes 1 kind)

/-- The thermal loop: T_max in sixteenths of a degree. -/
def State.thermal (s : State) (tmax : Int) (kind : Nat) : State :=
  let limit : Int := 16 * s.obj Obj.tjThrottle
  let cap := s.obj Obj.thermalCap
  let step := s.obj Obj.thermalStep
  let sensors := Tab.set (fun _ => (0, (400 : Int))) s.power.sensors kind ((Tab.get (fun _ => (0, (400 : Int))) s.power.sensors kind).1, tmax)
  let s : State := { s with power := { s.power with tmax := tmax, tripped := s.power.tripped && decide (limit ≤ tmax), sensors := sensors } }
  if limit < tmax then s.setCap (max 150 (cap - step)) (wrap 16 tmax) kind
  else if tmax < limit - 48 then s.setCap (min 500 (cap + step)) (wrap 16 tmax) kind
  else s

/-- THERMAL_LOOP. -/
def execThermalLoop (tmax : Int) (kind : Byte) (s : State) : Host.Outcome State Fault Refusal :=
  answer s (if s.dark then s else s.thermal tmax kind.toNat)

/-- A fault of the module and of every context with a job armed or running. -/
def State.faultAll (s : State) (i : FaultInfo) : State :=
  (allCtxs.filter (fun c => (s.ctx c).busy)).foldl (fun s c => s.fault c i) (s.moduleFault i)

/-- THERMAL_TRIP of a sensor. -/
def State.trip (s : State) (kind index : Nat) (temp limit : Int) : State :=
  let detail := leBytes 1 kind ++ [0] ++ leBytes 2 index ++ leBytes 2 (wrap 16 temp) ++ leBytes 2 (wrap 16 limit) ++ leBytes 2 (s.obj Obj.thermalCap)
  let s : State := { s with power := { s.power with
    tripped := true, sensors := Tab.set (fun _ => (0, (400 : Int))) s.power.sensors kind (index, temp) } }
  s.faultAll ⟨0x6002, srcPower, 0, detail, false⟩

/-- THERMAL_TRIP. -/
def execThermalTrip (kind : Byte) (index : BitVec 16) (temp : Int) (limit : Int) (s : State) : Host.Outcome State Fault Refusal :=
  answer s (if s.dark then s else s.trip kind.toNat index.toNat temp limit)

/-- THERMAL_SHUTDOWN: the module enters OFF. -/
def execThermalShutdown (s : State) : Host.Outcome State Fault Refusal := answer s (if s.dark then s else s.enterOff)

/-! ### Power fail (R452-R454; 15 R558) -/

/-- A power fail is detected, once. -/
def State.powerFail (s : State) (trigger : Nat) (vin iin bulk : BitVec 16) : State :=
  if s.power.off ∨ s.power.fail ≠ .none then s
  else
    let detail := leBytes 1 trigger ++ [0] ++ leBytes 2 vin.toNat ++ leBytes 2 iin.toNat ++ leBytes 2 bulk.toNat ++ leBytes 2 (s.obj Obj.powerNow)
    ({ s with power := { s.power with fail := .detected } }).faultAll ⟨0x6001, srcPower, 0, detail, false⟩

/-- PFAIL_N held low for 1 us. -/
def execPfailN (vin iin bulk : BitVec 16) (s : State) : Host.Outcome State Fault Refusal := answer s (s.powerFail 1 vin iin bulk)

/-- UNDER_VOLTAGE; `pfail` says that PFAIL_N fell within 1 us. -/
def execUnderVoltage (vin iin bulk : BitVec 16) (pfail : Bool) (s : State) : Host.Outcome State Fault Refusal :=
  answer s (s.powerFail (if pfail then 3 else 2) vin iin bulk)

/-- POWER_FAIL_COMMIT_DONE: the links go, the C-dies, the DRAM and the PCIe link are turned off and lose what they held. -/
def State.powerCut (s : State) : State :=
  let s := s.sendFlags 2
  let ports := s.ports.map (fun e => (e.1, { PortState.reset e.1 with coeffs := e.2.coeffs, peer := e.2.peer }))
  { s with power := { s.power with fail := .committed }, ports := ports.filter (fun e => decide (e.2 ≠ PortState.reset e.1)), vats := [], sram := [],
           ext := [], gens := [], dram := [], mem := MemUnit.reset, host := { s.host with linkUp := false, sram := false } }

/-- POWER_FAIL_COMMIT_DONE. -/
def execPowerFailCommitDone (s : State) : Host.Outcome State Fault Refusal :=
  answer s (if s.power.fail = .detected then s.powerCut else s)

/-- BULK_DEPLETED: below 12 V the module is OFF, with no power to wake it (DEDUCED, log entry 120). -/
def execBulkDepleted (s : State) : Host.Outcome State Fault Refusal :=
  answer s (if s.power.fail = .none then s
    else
      let s := s.restart 1 false
      { s with entry := { s.entry with switch := false } })

/-- INPUT_RESTORED: before the links have gone the module stays powered, after it a power-on reset follows (R453). -/
def execInputRestored (micros : W32) (s : State) : Host.Outcome State Fault Refusal :=
  answer s (match s.power.fail with
    | .none => s
    | .detected => ({ s with power := { s.power with fail := .none } }).log srcPower 0x0096 (leBytes 4 micros.toNat)
    | .committed => s.restart 2 true)

/-! ### DEEP (R463-R465) -/

/-- Whether a scalar object keeps its value through DEEP: persistent ones, the module-wide RW scalars of 0x2000 to 0x4200 but for owner fields, and the
owners of retention ranges (R463, R504). -/
def deepKeeps (key : Nat) : Bool :=
  let ix := key / 256
  let retained := decide (0x2000 ≤ ix) && decide (ix ≤ 0x4200) && !(decide (0x3110 ≤ ix) && decide (ix ≤ 0x3120))
  match objFind ix (key % 256) with
  | none => false
  | some r => r.persist || (decide (0x600028 ≤ key) && decide (key ≤ 0x60002F)) || key == Obj.wakeCause ||
      (r.access == .rw && r.type != .domain && retained && match objGroup ix with
        | some g => !g.perCtx && g.base != 0x4100
        | none => false)

/-- Whether a DOMAIN's bytes are persistent. -/
def deepKeepsDom (k : Nat) : Bool :=
  match objFind (k / 2 ^ 32 / 256) (k / 2 ^ 32 % 256) with
  | some r => r.persist
  | none => false

/-- Whether a DRAM byte lies in a valid retention range (07 R283). -/
def State.retains (s : State) (pa : Nat) : Bool :=
  let frame := fld pa 25 8
  (List.range 8).any (fun i =>
    let r := s.obj (Obj.retentionRange i)
    bitOf r 31 && fld r 16 1 == pa / 2 ^ 38 && decide (fld r 0 8 ≤ frame) && decide (frame ≤ fld r 0 8 + fld r 8 8))

/-- COMPUTE in DEEP: the vats lose everything. -/
def State.loseCompute (s : State) : State := { s with vats := [], sram := s.sram.filter (fun e => decide (e.1 < 0x40000000)) }

/-- MEMORY in DEEP: only the retention ranges keep their content. -/
def State.loseMemory (s : State) : State := { s with dram := s.dram.filter (fun e => s.retains e.1) }

/-- Records still bound for a queue are lost and tallied, and so is the announcement of a tally that a loss closes (R422, R589). -/
def State.loseRing : Nat → State → State
  | 0, s => s
  | n + 1, s =>
    match s.events.ring with
    | [] => s
    | e :: rest =>
      let s : State := { s with events := { s.events with ring := rest } }
      if e.queue.isNone then State.loseRing n s
      else match s.lose e with
        | (none, s) => State.loseRing n s
        | (some t, s) => State.loseRing n (s.enter 4096 0 0x0003 t.detail (s.route 0))

/-- The module enters DEEP: the retention list is saved, everything else is lost. -/
def State.enterDeep (s : State) : State :=
  let s := s.loseRing 16384
  let t := s.times
  let ports := (s.ports.filter (fun e => e.2.coeffs)).map (fun e => (e.1, { PortState.reset e.1 with coeffs := true }))
  let h := s.host
  let door := { HostUnit.reset with session := h.session, everDebug := h.everDebug, token := h.token, refusals := h.refusals, lockout := h.lockout,
                                    challenge := h.challenge, draws := h.draws, perst := h.perst }
  { s with
    objs := Tab.erase (fun k => !deepKeeps k) s.objs, doms := Tab.erase (fun k => !deepKeepsDom k) s.doms, sram := [], ext := [], gens := [],
    vats := [], ctxs := [], ports := ports, sync := SyncUnit.reset, mem := { MemUnit.reset with temps := s.mem.temps, bands := s.mem.bands },
    events := { s.events with ring := [], module := [], mute := false }, skim := State.reset.skim, lock := State.reset.lock, perturb := [],
    times := { Times.reset with grid := t.grid, htime := t.htime, hfrac := t.hfrac, hrate := t.hrate, atime := t.atime, afrac := t.afrac,
                                ftime := t.ftime },
    host := door, boot := { s.boot with fwFaults := [] }, vatsRan := false, can := { s.can with xfer := none, reqOwn := [], rspOwn := [], reqAll := [], rspAll := [] },
    power := { s.power with theta := 0, peak := 0, throttled := 0, saved := true, savedH := t.htime, savedA := t.atime } }

/-- An X port that a persistent setting gives to a function (11 R429; 13 R490). -/
def State.claimX (s : State) : State :=
  let s := if s.obj Obj.lockstepEnable = 1 then s.setObj (Obj.xOwner 1) clLock else s
  [0, 1].foldl (fun s i =>
    let f := s.obj (Obj.xFunction i)
    if f = 0 ∨ s.obj (Obj.xOwner i) ≠ clNone then s else s.setObj (Obj.xOwner i) (if f = 1 then clStorage else clBridge)) s

/-- DEEP exit: ATIME has run on, HTIME is restored from it, FTIME is open until its first lock; FABRIC and HOST rise to IDLE (R464,
R465). Without a valid FREF arming is barred (16 R580; DEDUCED, log entry 97). -/
def State.exitDeep (s : State) (src : Nat) : State :=
  let (f, s) := s.takeFree 60
  let up : DomainState := ⟨.deep, some .idle, false⟩
  let s : State := { s with
    times := { s.times with ftime := BitVec.ofNat 64 (16 * f.toNat),
                            htime := s.power.savedH + 1000 * (s.times.atime - s.power.savedA).setWidth 64 }
    mem := { s.mem with rate := s.obj Obj.dramRate }
    power := { s.power with saved := false, wakeHold := true, wakeDue := none, fabric := up, host := up } }
  let s := ((s.claimX).setObj Obj.wakeCause src).log srcPower 0x0095 (leBytes 1 src ++ leBytes 1 3)
  if s.entry.fref then s
  else ({ s with entry := { s.entry with failover := none, pending := false, barred := true } }).referenceLost 4 0xFF

/-! ### Wakes (R466; 16 R573) -/

/-- Whether FABRIC sleeps, or is on its way there. -/
def State.asleep (s : State) : Bool :=
  decide (2 ≤ s.power.fabric.level.code) || (s.power.fabric.descending && s.power.fabric.moving != some .idle)

/-- A wake by source `src`: from DEEP the module exits, from SLEEP slot 17 holds it up for WAKE_HOLD, and in a descent the wake waits until that is
complete. In RUN and IDLE there is nothing to wake, and what rises already is not woken again (R460, R466, R573; DEDUCED, log entry 46). -/
def State.wake (s : State) (src : Nat) : State :=
  if s.power.off ∨ s.power.fail ≠ .none then s
  else if s.power.saved then s.exitDeep src
  else if s.asleep then
    if s.power.fabric.descending then { s with power := { s.power with wakeDue := some src } }
    else if s.power.fabric.moving.isSome then s
    else
    let s := ({ s with power := { s.power with wakeHold := true } }).setObj Obj.wakeCause src
    (s.log srcPower 0x0095 (leBytes 1 src ++ leBytes 1 s.power.fabric.level.code)).settlePower
  else s

/-- WAKE_N held low for 1 ms. OFF is left by a power-on boot while the input switch is closed: FABRIC and HOST come up in IDLE, and the wake does not
raise COMPUTE and MEMORY, which go to their targets (R466; DEDUCED, log entry 98). -/
def execWakeN (s : State) : Host.Outcome State Fault Refusal :=
  answer s (if s.power.off then
      (if s.entry.switch && !s.entry.soft then
        let s := (s.restart 1 true).setObj Obj.wakeCause 1
        ({ s with power := { s.power with wakeHold := true, fabric := ⟨.idle, none, false⟩, host := ⟨.idle, none, false⟩,
                                          compute := ⟨.deep, none, false⟩, memory := ⟨.deep, none, false⟩ } }).settlePower
      else s)
    else s.wake 1)

/-- WAKE_PATTERN: the AON detector wakes a sleeping module; a board or X port that is DOWN or in LISTEN trains (09 R344, R377, R379). -/
def execWakePattern (p : PortId) (s : State) : Host.Outcome State Fault Refusal :=
  answer s (if isUplink p ∨ s.power.off then s
    else
      let s := s.wake 5
      if s.dark then s else s.signalDetect p)

/-- SIGNAL_DETECT: a full-rate signal wakes a module in SLEEP, not one in DEEP. -/
def execSignalDetect (p : PortId) (s : State) : Host.Outcome State Fault Refusal :=
  answer s (if s.dark then s else (s.wake 4).signalDetect p)

/-- WAKE_HOLD_EXPIRY. -/
def execWakeHoldExpiry (s : State) : Host.Outcome State Fault Refusal :=
  answer s { s with power := { s.power with wakeHold := false } }


/-! ### Votes through a door (R457, R458) -/

/-- Slot of a client that writes VOTE_OWN. -/
def voteSlot (client : Nat) : Nat := if client = clChassis then 20 else if client = clDebugger then 21 else 16

/-- Whether a vote word's floors are defined and its reserved bits zero. -/
def voteBad (w : W32) : Bool :=
  fld w.toNat 24 7 != 0 || [0, 4, 8, 12].any (fun i => decide (3 < fld w.toNat i 4) && decide (fld w.toNat i 4 < 15))

/-- A write of VOTE_OWN. A vote raised in SLEEP is a wake (R466). -/
def State.writeVote (s : State) (client : Byte) (w : W32) : State :=
  s.asClient client Obj.voteOwn (fun s =>
    if voteBad w then s.withStatus stRefused
    else
      let word : W32 := BitVec.ofNat 32 (w.toNat / 2 ^ 24 * 2 ^ 24 + client.toNat * 2 ^ 16 + w.toNat % 2 ^ 16)
      let s : State := { s with power := { s.power with votes := Tab.set (fun _ => 0) s.power.votes (voteSlot client.toNat) word } }
      (if s.asleep ∧ s.target .fabric < 2 then s.wake 6 else s.settlePower).ok)

/-- VOTE_OWN. -/
def execVoteOwn (client : Byte) (w : W32) (s : State) : Host.Outcome State Fault Refusal := answer s (s.writeVote client w)

/-- Whether OFF_REQUEST and MODULE_RESET are refused: a slot of a context, of forwarding or of held requests stands. -/
def State.cannotStop (s : State) : Bool := (List.range 16 ++ [18, 22]).any s.stands

/-- A write of OFF_REQUEST. The answer goes out first. -/
def State.writeOff (s : State) (client : Byte) : State :=
  if client.toNat = clDebugger then s.withStatus stDenied
  else s.asClient client Obj.offRequest (fun s => if s.cannotStop then s.withStatus stHeld else s.enterOff.ok)

/-- OFF_REQUEST. -/
def execOffRequest (client : Byte) (s : State) : Host.Outcome State Fault Refusal := answer s (s.writeOff client)

/-! ### Falls and rises (R459, R460) -/

/-- Whether every ACTIVE port has nothing left to send or to acknowledge (09 R377). -/
def State.linksIdle (s : State) : Bool :=
  allPorts.all (fun p =>
    let x := s.port p
    x.link != .active || (x.buffer.isEmpty && x.waitq.isEmpty && x.unacked == 0 && x.skim1.isEmpty && x.skim2.isEmpty))

/-- Every port goes to LISTEN with the coefficients it has (09 R377). -/
def State.listenAll (s : State) : State :=
  allPorts.foldl (fun s p =>
    let x := s.port p
    (s.setPort p { x.cleared p with coeffs := x.coeffs || x.link == .active }).setLink p .listen) s

/-- Begins a fall of one level. FABRIC first tells its peers that it goes to listen or goes down. -/
def State.beginFall (s : State) (d : Domain) : State :=
  let x := s.domain d
  let next := levelOf (x.level.code + 1)
  let s := s.setDomain d { x with moving := some next }
  if d = .fabric ∧ next = .sleep then (s.sendFlags 4).listenAll
  else if d = .fabric ∧ next = .deep then s.sendFlags 2
  else s

/-- A fall begins, if it is due. One of FABRIC to SLEEP waits for its links. -/
def State.fall (s : State) (d : Domain) : State :=
  if s.fallDue d && (d != .fabric || (s.domain d).level != .idle || s.linksIdle) then s.beginFall d else s

/-- Begins every fall whose turn it is: COMPUTE, then MEMORY and HOST, then FABRIC. -/
def State.fallAll (s : State) : State := (((s.fall .compute).fall .memory).fall .host).fall .fabric

/-- FLOOR_DELAY has passed since a domain's target fell: the fall begins, or waits for its turn. -/
def State.floorPassed (s : State) (d : Domain) : State :=
  let x := s.domain d
  if x.level.code < s.target d then (s.setDomain d { x with due := true }).fallAll else s

/-- DOMAIN_FALL. -/
def execDomainFall (d : Domain) (s : State) : Host.Outcome State Fault Refusal := answer s (if s.dark then s else s.floorPassed d)

/-- Ports train again when FABRIC has risen from SLEEP or DEEP. -/
def State.trainAll (s : State) : State :=
  allPorts.foldl (fun s p =>
    let x := s.port p
    if x.link = .listen ∨ (x.link = .down ∧ x.coeffs) then s.signalDetect p else s) s

/-- Code of the link state in PCIE_STATUS. -/
def State.linkState (s : State) : BitVec 4 :=
  match s.host.link with
  | .down => 0
  | .l0 => Config.linkCode 0
  | .l0p => Config.linkCode 1
  | .l1 => Config.linkCode 2
  | .l12 => Config.linkCode 3

/-- The link follows the HOST domain: L0 in RUN, L0, L0p or L1 in IDLE as ASPM has it, which is a free choice, L1.2 in SLEEP (13 R470). -/
def State.hostLink (s : State) (l : Level) : State :=
  if !s.host.linkUp then s
  else
    let (f, s) := s.takeFree 2
    let k : PcieLink := match l with
      | .run => .l0
      | .idle => if f = 0 then .l0 else if f = 1 then .l0p else .l1
      | _ => .l12
    { s with host := { s.host with link := k } }

/-- What reaching a level does. -/
def State.reached (s : State) (d : Domain) (old new : Level) : State :=
  if new = .deep then
    match d with
    | .compute => s.loseCompute
    | .memory => s.loseMemory
    | .fabric => s.enterDeep
    | .host => ({ s with host := { s.host with linkUp := false, link := .down } }).setObj Obj.pcieStatus 0
  else if d = .host then s.hostLink new
  else if d = .fabric ∧ 2 ≤ old.code ∧ new.code < 2 then (if old = .deep then s.trainAll.beat else s.trainAll)
  else if d = .compute ∧ old = .deep then s.settleIslands
  else s

/-- A wake that came in FABRIC's descent takes effect (R460). -/
def State.wakeLate (s : State) : State :=
  match s.power.wakeDue with
  | some src => if s.power.fabric.descending then s else State.wake { s with power := { s.power with wakeDue := none } } src
  | none => s

/-- A domain's move is complete: it is logged; a wake that waited takes effect, then what is to rise rises, and the next falls begin. -/
def State.moved (s : State) (d : Domain) : State :=
  let x := s.domain d
  match x.moving with
  | none => s
  | some l =>
    let s := s.setDomain d { x with level := l, moving := none }
    let s := s.log srcPower 0x0090 (leBytes 1 (domainCode d) ++ leBytes 1 x.level.code ++ leBytes 1 l.code ++ [0] ++ leBytes 4 s.standing)
    let s := s.reached d x.level l
    let s := s.wakeLate
    if s.power.saved then s else s.settlePower.fallAll

/-- DOMAIN_TRANSITION_DONE. -/
def execDomainTransitionDone (d : Domain) (s : State) : Host.Outcome State Fault Refusal := answer s (if s.dark then s else s.moved d)

/-! ### Requests that need a domain (R458, R460, R461; 13 R470) -/

/-- Whether a domain is in IDLE or RUN, and does not leave them. -/
def DomainState.ready (x : DomainState) : Bool :=
  decide (x.level.code < 2) && (match x.moving with | some l => decide (l.code < 2) | none => true)

/-- Raises a domain from SLEEP to IDLE: a descent completes first. -/
def State.raiseNow (s : State) (d : Domain) : State :=
  if (s.domain d).ready then s
  else
    let s := if (s.domain d).descending then s.moved d else s
    if (s.domain d).level = .sleep then (s.setDomain d { s.domain d with moving := some .idle }).moved d else s

/-- A request that addresses a domain is held: FABRIC, the domain and what it needs rise to IDLE (DEDUCED, log entry 50). -/
def State.serve (s : State) (d : Domain) : State :=
  let s : State := { s with power := { s.power with held := some d } }
  let s := s.raiseNow .fabric
  match d with
  | .fabric => s
  | .memory => s.raiseNow .memory
  | .host => s.raiseNow .host
  | .compute => (s.raiseNow .memory).raiseNow .compute

/-- The request is answered. -/
def State.answered (s : State) : State := { s with power := { s.power with held := none } }

/-- Whether the host reaches the module without waking it. -/
def State.hostReady (s : State) : Bool := s.power.fabric.ready && s.power.host.ready

/-- An access or a link exit of the host wakes a module in SLEEP, and raises HOST (R461, R466; 13 R470). -/
def State.hostIn (s : State) : State := if s.hostReady then s else ((s.wake 3).serve .host).answered

/-- What the host does through its door: in DEEP and OFF it does not reach the module. -/
def State.byHost (s : State) (f : State → State) : State := if s.dark then s else f s.hostIn

/-- PCIE_LINK_STATE_EXIT: the link is in L0 again. -/
def execPcieLinkStateExit (s : State) : Host.Outcome State Fault Refusal :=
  answer s (s.byHost (fun s => if s.host.linkUp then { s with host := { s.host with link := .l0 } } else s))

/-! ### GRID_TICK -/

/-- GRID_TICK. In DEEP only ATIME advances, in OFF nothing does (DEDUCED, log entry 42). -/
def execGridTick (s : State) : Host.Outcome State Fault Refusal :=
  answer s (if s.power.off then s else if s.dark then s.advanceAtime
    else s.settleTicks.advanceTime.ctxTicks.portTicks.drainVats.pump.settlePower.fallAll)

end Sys2Proof.Machine
end

