-- ==== Sys2Proof/Machine/HostMem.lean ====
section
/-! DEFINITION. The host's memory windows: DRAM through BAR2 (07 R284-R286), pail and vat SRAM through BAR4 (13 R474; 02 R590; 12 R461), and the DRAM
temperature poll (07 R252, R278). -/
namespace Sys2Proof.Machine
open Sys2Proof

/-! ### Domains an access needs (12 R461) -/

/-- The domains an access needs are in IDLE at least while it is served. -/
def State.rouse (s : State) (d : Domain) : State :=
  if s.power.fabric.ready && (s.domain d).ready && (d != .compute || s.power.memory.ready) then s else (s.serve d).answered

/-! ### BAR2 (07 R284-R286) -/

/-- Physical address of an offset in BAR2; none through an invalid entry, which one with a nonzero reserved field or INTLV 3 also is (00 R7;
R259), and none past the size BAR2 has (DESIGN CHOICE, log entry 132). -/
def State.windowPa (s : State) (b : Nat) : Option Nat :=
  if 2 ^ s.host.bar2 ≤ b then none else
  let e := s.domLe Obj.hostFrameMap (4 * (b / 2 ^ 30)) 4
  if bitOf e 31 && fld e 11 20 == 0 && fld e 9 2 != 3 then
    let (ch, x) := interleave (fld e 9 2) (fld e 0 8) (b % 2 ^ 30)
    some (physical (32 * fld e 8 1 + ch) x)
  else none

/-- Offsets of the sectors an access touches. -/
def sectorsOf (b n : Nat) : List Nat := if n = 0 then [] else (List.range ((b + n - 1) / 32 - b / 32 + 1)).map (fun i => (b / 32 + i) * 32)

/-- Counts an access through an invalid entry. -/
def State.noteUnmapped (s : State) (b n : Nat) : State :=
  if (sectorsOf b n).all (fun o => (s.windowPa o).isSome) then s else s.bump32 Obj.hostWindowUnmapped 1

/-- Reads one sector: its bytes, whether it was bad, the state. All ones through an invalid entry. -/
def State.windowSector (s : State) (o : Nat) (errs : List Byte) : List Byte × Bool × State :=
  match s.windowPa o with
  | none => (List.replicate 32 0xFF, false, s)
  | some pa => match s.eccRead 1 pa (s.dramRead pa 32) errs with
    | (d, none, s) => (d, false, s)
    | (d, some (_, mis), s) => (d, true, s.logSector pa mis)

/-- Reads sectors one after another; `errs` holds 41 difference bytes for each. -/
def State.windowRead : List Nat → State → List Byte → List Byte × Bool × State
  | [], s, _ => ([], false, s)
  | o :: t, s, errs =>
    let (d, bad, s) := s.windowSector o (errs.take 41)
    let (r, worse, s) := State.windowRead t s (errs.drop 41)
    (d ++ r, bad || worse, s)

/-- A read through BAR2; none where a bad sector poisons it. DRAM in DEEP gives free bytes (DESIGN CHOICE, log entry 51). -/
def State.bar2Read (s : State) (b len : Nat) (errs : List Byte) : Option (List Byte) × State :=
  let s := (s.rouse .memory).noteUnmapped b len
  if s.power.memory.level = .deep then
    let (l, s) := s.freeBytes len
    (some l, s)
  else
    let (d, bad, s) := State.windowRead (sectorsOf b len) s errs
    (if bad then none else some (slice d (b % 32) len), s)

/-- HOST_DRAM_READ. -/
def execHostDramRead (addr : BitVec 39) (len : Nat) (errs : List Byte) (s : State) : Host.Outcome State Fault Refusal :=
  answer s (s.byHost (fun s =>
    let (d, s) := s.bar2Read addr.toNat len errs
    s.emit (match d with | some l => .readData l | none => .poisoned)))

/-- Writes the part of an access that lies in a sector: less than a full one is read first, and dropped if that read is bad. -/
def State.windowWrite (s : State) (b : Nat) (data : List Byte) (o : Nat) (errs : List Byte) : State :=
  let lo := max b o
  let n := min (b + data.length) (o + 32) - lo
  let part := slice data (lo - b) n
  match s.windowPa o with
  | none => s
  | some pa =>
    if n = 32 then (s.dropFix pa).dramWrite pa part
    else
      let (d, bad, s) := s.windowSector o errs
      if bad then s else (s.dropFix pa).dramWrite pa (overlay d (lo - o) part)

/-- Writes sector by sector. -/
def State.windowWrites : List Nat → State → Nat → List Byte → List Byte → State
  | [], s, _, _, _ => s
  | o :: t, s, b, data, errs => State.windowWrites t (s.windowWrite b data o (errs.take 41)) b data (errs.drop 41)

/-- A write through BAR2. -/
def State.bar2Write (s : State) (b : Nat) (data : List Byte) (errs : List Byte) : State :=
  let s := (s.rouse .memory).noteUnmapped b data.length
  if s.power.memory.level = .deep then
    let (l, s) := s.freeBytes data.length
    State.windowWrites (sectorsOf b data.length) s b l []
  else State.windowWrites (sectorsOf b data.length) s b data errs

/-- HOST_DRAM_WRITE. -/
def execHostDramWrite (addr : BitVec 39) (data : List Byte) (errs : List Byte) (s : State) : Host.Outcome State Fault Refusal :=
  answer s (s.byHost (fun s => s.bar2Write addr.toNat data errs))

/-! ### BAR4 (13 R474) -/

/-- The vat of a BAR4 offset. -/
def barVat (a : Nat) : Option Nat := if a < 0x40000000 then none else vatOfId ((a - 0x40000000) / 0x200000)

/-- Whether a BAR4 offset maps a byte that is powered. -/
def State.barMaps (s : State) (a : Nat) : Bool :=
  decide (a < pailSize) || ((barVat a).isSome && s.power.compute.level != .deep)

/-- The domain an access through BAR4 needs. -/
def barDomain (a : Nat) : Domain := if a < 0x40000000 then .fabric else .compute

/-- A read through BAR4: all ones where nothing is mapped, and until the SRAM has been cleared. -/
def State.bar4Read (s : State) (a len : Nat) : List Byte :=
  (List.range len).map (fun i => if s.host.sram && s.barMaps (a + i) then (s.sramRead (a + i) 1).headD 0 else 0xFF)

/-- HOST_SRAM_READ. -/
def execHostSramRead (addr : BitVec 31) (len : Nat) (s : State) : Host.Outcome State Fault Refusal :=
  answer s (s.byHost (fun s =>
    let s := s.rouse (barDomain addr.toNat)
    s.emit (.readData (s.bar4Read addr.toNat len))))

/-- One byte of a host write. -/
def State.barWrite (s : State) (a : Nat) (x : Byte) : State :=
  if !(s.host.sram && s.barMaps a) then s
  else if a < pailSize then s.pailWrite a [x] else s.sramWrite a [x]

/-- A write through BAR4. -/
def State.bar4Write (s : State) (a : Nat) (data : List Byte) : State :=
  (List.range data.length).foldl (fun s i => s.barWrite (a + i) (data.getD i 0)) (s.rouse (barDomain a))

/-- HOST_SRAM_WRITE. -/
def execHostSramWrite (addr : BitVec 31) (data : List Byte) (s : State) : Host.Outcome State Fault Refusal :=
  answer s (s.byHost (fun s => s.bar4Write addr.toNat data))

/-- SRAM_CLEAR_DONE: every byte of SRAM and every cell's extension is zero, and BAR4 opens. -/
def execSramClearDone (s : State) : Host.Outcome State Fault Refusal :=
  answer s (if s.host.sram || s.dark then s else s.clearSram)

/-! ### Temperature (07 R252, R278) -/

/-- DRAM_TEMPERATURE_POLL: a package beyond its operating range trips; the limit it crossed is open (DESIGN CHOICE, log entry 3). -/
def execDramTemperaturePoll (pkg : Fin 16) (temp : Int) (band : Byte) (beyond : Bool) (s : State) : Host.Outcome State Fault Refusal :=
  answer s (if s.dark then s
    else
      let s : State := { s with mem := { s.mem with temps := Tab.set (fun _ => (400 : Int)) s.mem.temps pkg temp,
                                                    bands := Tab.set (fun _ => (1 : Byte)) s.mem.bands pkg band } }
      if beyond then
        let (limit, s) := s.takeFree 16
        s.trip 3 pkg temp limit.toInt
      else s)

end Sys2Proof.Machine
end

