-- ==== Sys2Proof/Machine/Boot.lean ====
section
/-! DEFINITION. Boot, firmware images and their staging, MP restart, the rollback floor, attestation, debug sessions, and the mailbox services
(15; 13 R478, R479; 14 R516). -/
namespace Sys2Proof.Machine
open Sys2Proof

/-! ### Images (15 R538-R541) -/

/-- Version of an image's header. -/
def imageVersion (img : List Byte) : Nat := leAt img 8 4
/-- SVN of an image's header. -/
def imageSvn (img : List Byte) : Nat := leAt img 12 4
/-- Whether bytes are all zero. -/
def allZero (l : List Byte) : Bool := l.all (fun b => b == 0)
/-- The body of an image. -/
def imageBody (img : List Byte) : List Byte := img.drop 8192

/-- verify_image: the reason of a failure, 0 for a valid image. -/
def State.verifyImage (s : State) (img : List Byte) : Nat :=
  let len := leAt img 16 4
  if leAt img 0 4 ≠ 0x57464A48 ∨ leAt img 4 2 ≠ 1 ∨ leAt img 6 2 ≠ 1 ∨ !allZero (slice img 92 36) ∨ !allZero (slice img 7984 208) then 1
  else if leAt img 88 4 ≠ 7856 ∨ len % 64 ≠ 0 ∨ len = 0 ∨ img.length ≠ 8192 + len then 2
  else if sha256 (slice img 56 32) ≠ Config.keyHash then 3
  else if !Config.slhDsaVerify (slice img 56 32) (img.take 128) (slice img 128 7856) then 4
  else if sha256 (imageBody img) ≠ slice img 24 32 then 5
  else if imageSvn img < s.obj Obj.rollbackFloor then 6
  else 0

/-- Records a class 3 fault: it enters FW_FAULTS, the last 16, and is logged. -/
def State.imageFault (s : State) (reason source : Nat) (img : List Byte) : State :=
  let unit := if source = 1 then srcHost else if source = 2 then srcCan else srcMp
  let detail := leBytes 1 reason ++ leBytes 1 source ++ [0, 0] ++ leBytes 4 (imageVersion img) ++ leBytes 4 (imageSvn img) ++
    leBytes 4 (s.obj Obj.rollbackFloor) ++ zeros 8
  let f := { s.moduleFaultRec ⟨if reason = 6 then 0x8002 else 0x8001, unit, 0, detail, false⟩ with cls := 3 }
  let l := s.boot.fwFaults ++ [f]
  ({ s with boot := { s.boot with fwFaults := l.drop (l.length - 16) } }).logFault f

/-- The bytes the NOR firmware region holds (15 R534). -/
def State.norBytes (s : State) : List Byte := s.boot.nor.getD Config.norImage

/-- The staged image. -/
def State.stagedImage (s : State) : List Byte := Tab.read (fun _ => 0) s.boot.staged 0 s.boot.stagedLen

/-! ### The boot ROM (15 R536, R537) -/

/-- Starts an image from a source of R541. -/
def State.startImage (s : State) (source : Nat) (img : List Byte) : State :=
  { s with boot := { s.boot with mp := .starting, next := source, image := img } }

/-- The end of a push window: with no push begun the NOR image starts, if it verified; otherwise the ROM waits. -/
def State.endWindow (s : State) : State :=
  match s.boot.mp with
  | .rom _ =>
    if s.boot.pushed then { s with boot := { s.boot with mp := .rom false } }
    else if s.boot.norOk = some true then s.startImage 3 s.norBytes
    else { s with boot := { s.boot with mp := .rom false } }
  | _ => s

/-- A push that failed, or was given up, opens a further window (DEDUCED, log entry 52). -/
def State.reopenWindow (s : State) : State :=
  match s.boot.mp with
  | .rom _ => { s with boot := { s.boot with mp := .rom true, pushed := false } }
  | _ => s

/-- The straps: eight equal samples, or no PNID (16 R575). -/
def sampleStraps (l : List (BitVec 9)) : Option (BitVec 9) :=
  match l with
  | [] => none
  | p :: t => if t.all (fun q => q == p) then some p else none

/-- The ROM from the release of reset to its push window. MODULE_RESET is the first record, and the heartbeats begin with the open door (11 R419; 14
R527; DESIGN CHOICE, log entry 96; DEDUCED, log entry 118). What FREF was last measured at is open where it is invalid from the start (16 R580). -/
def State.bootRom (s : State) (samples : List (BitVec 9)) (fref : Bool) : State :=
  let s : State := { s with entry := { s.entry with pnid := sampleStraps samples, fref := fref, barred := !fref, failover := none, pending := false } }
  let s : State := { s with host := { s.host with challenge := Config.entropy s.host.draws, draws := s.host.draws + 1 },
                            can := { CanUnit.reset with isOpen := !s.badPnid } }
  let scan := s.csScan.2
  let s := s.csScan.1
  let n := (s.obj Obj.bootCount + 1) % 2 ^ 32
  let s := (s.setObj Obj.bootCount n).csAppend Obj.bootCount (leBytes 4 n)
  let s := s.log srcMp 0x0001 (leBytes 4 n ++ leBytes 1 s.boot.cause.toNat)
  let s := s.log srcMp 0x00C3 scan
  let s := if s.badPnid then s.log (srcPort 0) 0x0051 ([2, 0, 0, 0] ++ leBytes 2 s.pnid) else s
  let s := if fref then s
    else
      let (ppb, s) := s.takeFree 32
      State.referenceLost { s with entry := { s.entry with ppb := ppb } } 4 0xFF
  let s := s.claimX.settleIslands
  State.beat { s with boot := { s.boot with mp := .rom true }, mem := { s.mem with rate := s.obj Obj.dramRate },
                      can := { s.can with rate := s.obj Obj.canDataRate } }

/-- RESET_RELEASE: power is applied and the module is not OFF. -/
def execResetRelease (samples : List (BitVec 9)) (fref : Bool) (s : State) : Host.Outcome State Fault Refusal :=
  answer s (if s.boot.mp = .off ∧ s.entry.released ∧ s.entry.switch ∧ !s.entry.soft ∧ !s.power.off then s.bootRom samples fref else s)

/-- The NOR copy is verified, and its result held; a window that has ended without a push starts it. -/
def State.norVerified (s : State) : State :=
  let reason := s.verifyImage s.norBytes
  let s : State := { s with boot := { s.boot with norOk := some (reason == 0) } }
  let s := if reason = 0 then s else s.imageFault reason 3 s.norBytes
  if s.boot.mp = .rom false then s.endWindow else s

/-- NOR_VERIFY_DONE. -/
def execNorVerifyDone (s : State) : Host.Outcome State Fault Refusal :=
  answer s (match s.boot.mp with
    | .rom _ => if s.boot.norOk.isNone then s.norVerified else s
    | _ => s)

/-- PUSH_WINDOW_END. -/
def execPushWindowEnd (s : State) : Host.Outcome State Fault Refusal := answer s s.endWindow

/-- BOOT_WATCHDOG: the started firmware did not report running. -/
def execBootWatchdog (s : State) : Host.Outcome State Fault Refusal :=
  answer s (if s.boot.mp = .starting ∨ s.boot.mp = .restarting then s.restart 4 true else s)

/-- A write of MODULE_RESET. -/
def State.writeReset (s : State) (client : Byte) : State :=
  s.asClient client Obj.moduleReset (fun s => if s.cannotStop then s.withStatus stHeld else ((s.sendFlags 2).restart 3 true).ok)

/-- MODULE_RESET. -/
def execModuleReset (client : Byte) (s : State) : Host.Outcome State Fault Refusal := answer s (s.writeReset client)

/-! ### Mailboxes, the MP's side (13 R476-R479) -/

/-- A mailbox nothing was sent through. -/
def Mailbox.reset : Mailbox := ⟨[], false, false, 0, none, 0⟩

/-- Host-to-MP mailbox m. -/
def State.mbIn (s : State) (m : Nat) : Mailbox := Tab.get (fun _ => Mailbox.reset) s.host.toMp m

/-- Replaces a host-to-MP mailbox. -/
def State.setMbIn (s : State) (m : Nat) (x : Mailbox) : State :=
  { s with host := { s.host with toMp := Tab.set (fun _ => Mailbox.reset) s.host.toMp m x } }

/-- MP-to-host mailbox m. -/
def State.mbOut (s : State) (m : Nat) : Mailbox := Tab.get (fun _ => Mailbox.reset) s.host.toHost m

/-- Replaces an MP-to-host mailbox. -/
def State.setMbOut (s : State) (m : Nat) (x : Mailbox) : State :=
  { s with host := { s.host with toHost := Tab.set (fun _ => Mailbox.reset) s.host.toHost m x } }

/-- The sixteen data words of a mailbox. -/
def Mailbox.words (x : Mailbox) : List W32 := (List.range 16).map (fun i => Tab.get (fun _ => (0 : W32)) x.data i)

/-- MB_ACK after an acknowledgement. -/
def ackWord (old : W32) (seq : Byte) (code : Nat) : W32 :=
  BitVec.ofNat 32 (2 ^ 31 + b2n (bitOf old.toNat 31) * 2 ^ 30 + seq.toNat * 2 ^ 16 + code % 2 ^ 16)

/-- The MP acknowledges a sequence number of mailbox m; the mailbox empties if it is still the current one. -/
def State.ackSeq (s : State) (m : Nat) (seq : Byte) (code : Nat) : State :=
  let x := s.mbIn m
  (s.setMbIn m { x with ack := ackWord x.ack seq code, taken := none, full := x.full && seq != x.seq }).signal (17 + m)

/-- The MP acknowledges what it took. -/
def State.acknowledge (s : State) (m code : Nat) : State :=
  match (s.mbIn m).taken with
  | some (seq, _) => s.ackSeq m seq code
  | none => s

/-- A rise of COLLISION is counted and logged; `dir` is 0 for host-to-MP (R478, R479). -/
def State.noteCollision (s : State) (m dir : Nat) (seq : Byte) : State :=
  (s.bump32 Obj.mbCollisions 1).log srcHost 0x00A2 (leBytes 1 m ++ leBytes 1 dir ++ leBytes 1 seq.toNat)

/-- The MP sends a message through MP-to-host mailbox m, whose vector fires when it becomes full; over a full one it collides (R475, R479). -/
def State.post (s : State) (m : Nat) (words : List W32) : State :=
  let x := s.mbOut m
  let data := (List.range (min 16 words.length)).foldl (fun t i => Tab.set (fun _ => 0) t i (words.getD i 0)) x.data
  let s := s.setMbOut m { x with data := data, seq := x.seq + 1, full := true, collision := x.collision || x.full }
  let s := if x.full && !x.collision then s.noteCollision m 1 (x.seq + 1) else s
  if x.full then s else s.signal (9 + m)

/-- The service code and the words of the message the MP has taken. -/
def Mailbox.service (x : Mailbox) : Option (Nat × List W32) :=
  match x.taken with
  | some (_, w) => some (fld (w.headD 0).toNat 16 16, w.take (fld (w.headD 0).toNat 0 5 + 1))
  | none => none

/-! ### Doorbells (13 R480, R481) -/

/-- The entry of a doorbell bit, if it is valid: context and vid. -/
def State.bellEntry (s : State) (n : Nat) : Option (Nat × Nat) :=
  let e := s.domLe Obj.doorbellMap (4 * n) 4
  if bitOf e 31 && fld e 20 11 == 0 && fld e 12 4 == 0 then some (fld e 16 4, fld e 0 12) else none

/-- MP firmware that runs consumes the set bits that no mask stops (DEDUCED, log entry 57). -/
def State.mpBells (s : State) : State :=
  let h := s.host
  let seen := h.dbIn &&& ~~~ h.dbInMask
  if s.fwRuns && seen != 0 then
    ({ s with host := { h with dbIn := h.dbIn &&& h.dbInMask } }).emit (.mp [0x200, BitVec.ofNat 32 (fld seen.toNat 0 32), BitVec.ofNat 32 (fld seen.toNat 32 32)])
  else s

/-- One bit that the host sets: a mapped one adds 1 to its counter and reads 0 again. -/
def State.setBell (s : State) (n : Nat) : State :=
  match s.bellEntry n with
  | some (c, vid) => s.spAdd c vid 1
  | none => { s with host := { s.host with dbIn := s.host.dbIn ||| BitVec.ofNat 64 (2 ^ n) } }

/-- Set bits whose entry has become valid are consumed (R481). -/
def State.settleBells (s : State) : State :=
  ((List.range 64).filter (fun n => bitOf s.host.dbIn.toNat n && (s.bellEntry n).isSome)).foldl (fun s n =>
    State.setBell { s with host := { s.host with dbIn := s.host.dbIn &&& ~~~ (BitVec.ofNat 64 (2 ^ n)) } } n) s

/-! ### Firmware runs -/

/-- Code of an identity outcome (15 R564). -/
def identityCode : IdentityOutcome → Nat
  | .ready => 1
  | .pufFailed => 2
  | .mismatch => 3
  | .certInvalid => 4

/-- The started firmware runs: it logs its image and the identity, answers the mailboxes a restart found FULL, consumes the doorbells that wait, and
compacts a full store (13 R478, R481; 15 R545). -/
def State.firmwareUp (s : State) (identity : IdentityOutcome) : State :=
  let again := s.boot.owesAbort
  let s : State := { s with boot := { s.boot with mp := .running, source := s.boot.next, identity := some identity, owesAbort := false } }
  let s := s.log srcMp 0x00C0 (leBytes 1 s.boot.source ++ [0, 0, 0] ++ leBytes 4 (imageVersion s.boot.image) ++ leBytes 4 (imageSvn s.boot.image) ++
    leBytes 4 (s.times.grid / 390625))
  let s := s.log srcMp 0x00C5 (leBytes 1 (identityCode identity))
  let s := if again then (List.range 8).foldl (fun s m => if (s.mbIn m).full then s.ackSeq m (s.mbIn m).seq stAborted else s) s else s
  s.mpBells.autoCompact

/-- FIRMWARE_REPORTS_RUNNING. -/
def execFirmwareReportsRunning (identity : IdentityOutcome) (s : State) : Host.Outcome State Fault Refusal :=
  answer s (if s.boot.mp = .starting ∨ s.boot.mp = .restarting then s.firmwareUp identity else s)

/-! ### Staging (15 R542, R543) -/

/-- FW_STAGE. -/
def State.logStage (s : State) (what reason : Nat) (client : Byte) : State :=
  let img := s.stagedImage
  s.log srcMp 0x00C1 (leBytes 1 what ++ leBytes 1 reason ++ leBytes 1 client.toNat ++ [0] ++ leBytes 4 (imageVersion img) ++ leBytes 4 (imageSvn img))

/-- The staging buffer is released. -/
def State.releaseStage (s : State) : State := { s with boot := { s.boot with fw := .empty, owner := 0xFF, staged := [], stagedLen := 0 } }

/-- The claim of an owner that ends (11 R434). A verification or a programming under way goes on without an owner. -/
def State.endStage (s : State) (client : Nat) : State :=
  if s.boot.owner.toNat ≠ client ∨ client = clNone then s
  else match s.boot.fw with
    | .verifying => { s with boot := { s.boot with owner := 0xFF } }
    | .programming => { s with boot := { s.boot with owner := 0xFF } }
    | _ => s.releaseStage

/-- A write of FW_IMAGE: not while the buffer is being verified or programmed (DEDUCED, log entry 139). -/
def State.writeImage (s : State) (client : Byte) (off : Nat) (data : List Byte) : State :=
  s.asClient client Obj.fwImage (fun s =>
    let b := s.boot
    if 4194304 < off + data.length then s.withStatus stRefused
    else if b.owner ≠ 0xFF ∧ b.owner ≠ client then s.withStatus stHeld
    else if b.fw = .verifying ∨ b.fw = .programming then s.withStatus stWrongState
    else
      let fresh := b.fw != .loading
      let old := if fresh then [] else b.staged
      let len := if fresh then 0 else b.stagedLen
      let rom := match b.mp with | .rom _ => true | _ => false
      ({ s with boot := { b with fw := .loading, owner := client, staged := Tab.write (fun _ => 0) old off data,
                                 stagedLen := max len (off + data.length), pushed := b.pushed || rom } }).ok)

/-- FW_IMAGE. -/
def execFwImage (client : Byte) (off : Nat) (data : List Byte) (s : State) : Host.Outcome State Fault Refusal :=
  answer s (s.writeImage client off data)

/-- A write of FW_CTRL by a client: the buffer's owner, while it is claimed. -/
def State.asStager (s : State) (client : Byte) (f : State → State) : State :=
  s.asClient client Obj.fwCtrl (fun s => if s.boot.owner ≠ 0xFF ∧ s.boot.owner ≠ client then s.withStatus stHeld else f s)

/-- FW_CTRL VERIFY. -/
def State.fwVerify (s : State) (client : Byte) : State :=
  s.asStager client (fun s => if s.boot.fw = .loading then ({ s with boot := { s.boot with fw := .verifying } }).ok else s.withStatus stWrongState)

/-- FW_VERIFY. -/
def execFwVerify (client : Byte) (s : State) : Host.Outcome State Fault Refusal := answer s (s.fwVerify client)

/-- The verification of the staged image is done; in the ROM a valid push starts at once. -/
def State.fwVerified (s : State) : State :=
  let img := s.stagedImage
  let owner := s.boot.owner
  let rom := match s.boot.mp with | .rom _ => true | _ => false
  let source := if !rom then 4 else if owner.toNat = clChassis then 2 else 1
  let reason := s.verifyImage img
  if reason = 0 then
    let s := ({ s with boot := { s.boot with fw := .verified } }).logStage 1 0 owner
    if rom then s.startImage source img else s
  else
    let s := (({ s with boot := { s.boot with fw := .failed } }).imageFault reason source img).logStage 2 reason owner
    s.reopenWindow

/-- FW_VERIFY_DONE. -/
def execFwVerifyDone (s : State) : Host.Outcome State Fault Refusal := answer s (if s.boot.fw = .verifying then s.fwVerified else s)

/-- FW_CTRL PROGRAM. -/
def State.fwProgram (s : State) (client : Byte) : State :=
  s.asStager client (fun s =>
    if s.boot.fw = .verified then
      ({ s with boot := { s.boot with fw := .programming }, power := { s.power with busyMp := true } }).settlePower.ok
    else s.withStatus stWrongState)

/-- FW_PROGRAM. -/
def execFwProgram (client : Byte) (s : State) : Host.Outcome State Fault Refusal := answer s (s.fwProgram client)

/-- Programming is done; `ok` says that what is read back is what was written. It is verified, and a copy that fails is invalid and raises its
fault; for which of reasons 1 to 5 a copy that reads back otherwise fails is open (DESIGN CHOICE, log entry 3). -/
def State.fwProgrammed (s : State) (ok : Bool) : State :=
  let img := s.stagedImage
  let (f, s) := s.takeFree 8
  let reason := if ok then s.verifyImage img else 1 + f.toNat % 5
  let s : State := { s with boot := { s.boot with fw := .verified, nor := some (if ok then img else []), norOk := some (reason == 0) },
                            power := { s.power with busyMp := false } }
  if reason = 0 then s.logStage 3 0 s.boot.owner else (s.imageFault reason 3 s.norBytes).logStage 4 reason s.boot.owner

/-- FW_PROGRAM_DONE. -/
def execFwProgramDone (ok : Bool) (s : State) : Host.Outcome State Fault Refusal :=
  answer s (if s.boot.fw = .programming then s.fwProgrammed ok else s)

/-- FW_CTRL CLEAR. -/
def State.fwClear (s : State) (client : Byte) : State :=
  s.asStager client (fun s =>
    if s.boot.fw = .verifying ∨ s.boot.fw = .programming then s.withStatus stWrongState
    else ((s.logStage 5 0 client).releaseStage).reopenWindow.ok)

/-- FW_CLEAR. -/
def execFwClear (client : Byte) (s : State) : Host.Outcome State Fault Refusal := answer s (s.fwClear client)

/-- FW_CTRL BOOT_NOR. -/
def State.fwBootNor (s : State) (client : Byte) : State :=
  s.asStager client (fun s => match s.boot.mp with
    | .rom _ => s.endWindow.ok
    | _ => s.withStatus stWrongState)

/-- FW_BOOT_NOR. -/
def execFwBootNor (client : Byte) (s : State) : Host.Outcome State Fault Refusal := answer s (s.fwBootNor client)

/-- FW_IDLE_TIMEOUT: 60 s in LOADING without a write by the owner. -/
def execFwIdleTimeout (s : State) : Host.Outcome State Fault Refusal :=
  answer s (if s.boot.fw = .loading then s.releaseStage.reopenWindow else s)

/-! ### Services (15 R562) -/

/-- ECHO: the message taken returns in the MP-to-host mailbox, and is acknowledged (DEDUCED, log entry 55). -/
def execEchoService (m : Fin 8) (s : State) : Host.Outcome State Fault Refusal :=
  answer s (match (s.mbIn m).service with
    | some (1, w) => if s.fwRuns then (s.post m w).acknowledge m stSuccess else s
    | _ => s)

/-- CONFIG_COMPACT: answered by whether the store is FAILED after it; a power fail starts none (R558). -/
def execConfigCompact (m : Fin 8) (bad : Nat) (s : State) : Host.Outcome State Fault Refusal :=
  answer s (match (s.mbIn m).service with
    | some (3, _) =>
      if !s.fwRuns then s
      else if s.power.fail ≠ .none then s.acknowledge m stResetting
      else
        let s := s.compact bad
        s.acknowledge m (if s.boot.failed then 0x8002 else stSuccess)
    | _ => s)

/-- A write of CS_COMPACT; a power fail starts none (R558). -/
def State.writeCompact (s : State) (client : Byte) (bad : Nat) : State :=
  s.asClient client Obj.csCompact (fun s => if s.power.fail = .none then (s.compact bad).ok else s.withStatus stResetting)

/-- CS_COMPACT. -/
def execCsCompact (client : Byte) (bad : Nat) (s : State) : Host.Outcome State Fault Refusal := answer s (s.writeCompact client bad)

/-! ### Rollback floor (15 R546) -/

/-- SVN of the running image; 0 while none runs. -/
def State.runningSvn (s : State) : Nat := if s.fwRuns then imageSvn s.boot.image else 0

/-- A write of ROLLBACK_FLOOR. -/
def State.writeFloor (s : State) (client : Byte) (v : Nat) : State :=
  s.asClient client Obj.rollbackFloor (fun s =>
    let old := s.obj Obj.rollbackFloor
    if v < old ∨ s.runningSvn < v then s.withStatus stRefused
    else
      let t := s.commitScalar Obj.rollbackFloor client v
      if t.succeeded ∧ old < v then t.log srcMp 0x00C2 (leBytes 4 old ++ leBytes 4 v ++ leBytes 1 client.toNat) else t)

/-- ROLLBACK_FLOOR. -/
def execRollbackFloor (client : Byte) (value : W32) (s : State) : Host.Outcome State Fault Refusal := answer s (s.writeFloor client value.toNat)

/-! ### Attestation (15 R550-R552) -/

/-- State of a context in the evidence. -/
def CtxState.evidenceCode (x : CtxState) : Nat :=
  match x.job with
  | .armed => 1
  | .running => 2
  | _ => if x.sync = .frozen then 3 else 0

/-- Table measurement of the bank that is ACTIVE. -/
def CtxState.activeMeasure (x : CtxState) : List Byte :=
  padTo 32 (if x.bank0 = .active then x.measure0 else if x.bank1 = .active then x.measure1 else [])

/-- Context record. -/
def State.ctxEvidence (s : State) (c : Nat) : List Byte :=
  leBytes 1 c ++ leBytes 1 (s.ctx c).evidenceCode ++ zeros 6 ++ s.dom (Obj.imageDigest c) 0 32 ++ (s.ctx c).activeMeasure ++
    leBytes 8 (s.ctx c).step.toNat

/-- Configuration measurement. -/
def State.configMeasure (s : State) : List Byte :=
  sha256 (persistentObjects.flatMap (fun e => leBytes 2 (e.1 / 256) ++ leBytes 1 (e.1 % 256) ++ s.objBytes e.1 e.2))

/-- The evidence before its signature. -/
def State.evidence (s : State) (nonce : List Byte) : List Byte :=
  let mask := s.obj Obj.attestCtx
  let ctxs := allCtxs.filter (fun c => bitOf mask c)
  leBytes 4 0x54414A48 ++ leBytes 2 1 ++ leBytes 2 mask ++ nonce ++ leBytes 8 s.times.ftime.toNat ++ leBytes 4 (s.obj Obj.bootCount) ++
    leBytes 2 s.pnid ++ [0, 0] ++ leBytes 4 (imageVersion s.boot.image) ++ leBytes 4 (imageSvn s.boot.image) ++
    leBytes 4 (s.obj Obj.rollbackFloor) ++ sha256 (s.boot.image.take 128) ++ s.configMeasure ++ padTo 32 Config.identityKey ++
    leBytes 1 (b2n s.host.session.isSome + 2 * b2n s.host.everDebug + 4 * b2n s.boot.everPerturb) ++ leBytes 1 ctxs.length ++ zeros 10 ++
    ctxs.flatMap s.ctxEvidence

/-- A write of ATTEST_NONCE: the evidence is captured in one step, here (DEDUCED, log entry 53). -/
def State.writeNonce (s : State) (client : Byte) (data : List Byte) : State :=
  if client.toNat = clChassis then s.withStatus stDenied
  else s.asClient client Obj.attestNonce (fun s =>
    if data.length ≠ 32 then s.withStatus stRefused
    else if s.boot.attBusy then s.withStatus stHeld
    else if s.boot.identity ≠ some .ready then s.withStatus stWrongState
    else
      let s : State := { s with boot := { s.boot with nonce := data, attBusy := true, attReady := false, evidence := s.evidence data } }
      (s.log srcMp 0x00C6 (data.take 4 ++ leBytes 1 client.toNat ++ leBytes 1 (popCount 16 (s.obj Obj.attestCtx)))).ok)

/-- ATTEST_NONCE. -/
def execAttestNonce (client : Byte) (data : List Byte) (s : State) : Host.Outcome State Fault Refusal := answer s (s.writeNonce client data)

/-- ATTEST_DONE: the signature follows every preceding byte. -/
def execAttestDone (s : State) : Host.Outcome State Fault Refusal :=
  answer s (if s.boot.attBusy then
      let e := s.boot.evidence
      { s with boot := { s.boot with attBusy := false, attReady := true, evidence := e ++ padTo 17088 (Config.slhDsaSign e s.host.draws) },
               host := { s.host with draws := s.host.draws + 1 } }
    else s)

/-! ### Debug sessions (14 R516; 15 R559-R561) -/

/-- Closes the debug session: 2 closed, 3 expired, 4 closed by a door reset. -/
def State.closeSession (s : State) (what : Nat) : State :=
  match s.host.session with
  | none => s
  | some x =>
    let h := s.host
    let s : State := { s with host := { h with session := none, challenge := Config.entropy h.draws, draws := h.draws + 1 }, perturb := [],
                              power := { s.power with votes := Tab.set (fun _ => 0) s.power.votes 21 0 } }
    (((s.releaseOwner clDebugger).endStage clDebugger).settlePower).logSession what x

/-- The first check a token fails: layout, serial, challenge, key, signature. -/
def State.tokenBad (s : State) (t : List Byte) : Option Nat :=
  let dur := leAt t 40 4
  if leAt t 0 4 ≠ 0x54444A48 ∨ leAt t 4 2 ≠ 1 ∨ 4 ≤ leAt t 6 2 ∨ dur = 0 ∨ 86400 < dur ∨ !allZero (slice t 44 20) then some 1
  else if slice t 8 16 ≠ padTo 16 Config.serialNumber then some 2
  else if leAt t 24 16 ≠ s.host.challenge.toNat then some 3
  else if sha256 (slice t 64 32) ≠ Config.debugKeyHash then some 4
  else if !Config.slhDsaVerify (slice t 64 32) (t.take 96) (slice t 96 7856) then some 5
  else none

/-- TOKEN_REFUSED. -/
def State.refuseToken (s : State) (why path status : Nat) : State :=
  (s.log srcMp 0x00C7 (leBytes 1 why ++ leBytes 1 path)).withStatus status

/-- A token is submitted. -/
def State.submitToken (s : State) (path via : Nat) (t : List Byte) : State :=
  if !s.fwRuns then s.withStatus stWrongState
  else if s.host.lockout then s.refuseToken 6 path stHeld
  else if s.host.session.isSome then s.withStatus stHeld
  else match s.tokenBad t with
    | some why =>
      let n := s.host.refusals + 1
      ({ s with host := { s.host with refusals := n, lockout := decide (4 ≤ n) } }).refuseToken why path stRefused
    | none =>
      let x : Session := ⟨path, BitVec.ofNat 9 via, BitVec.ofNat 16 (leAt t 6 2), s.times.atime + BitVec.ofNat 48 (1000000 * leAt t 40 4)⟩
      (({ s with host := { s.host with session := some x, everDebug := true } }).logSession 1 x).ok

/-- Token bytes from a path: 0 the host door, 1 a proxy, 2 a bridge. The write that reaches the last byte submits. -/
def State.writeToken (s : State) (path via off : Nat) (data : List Byte) : State :=
  if !s.served Obj.debugToken then s.withStatus stResetting
  else if 7952 < off + data.length then s.withStatus stRefused
  else
    let key := (path * 512 + via) * 8192
    let s : State := { s with host := { s.host with token := Tab.write (fun _ => 0) s.host.token (key + off) data } }
    if off + data.length = 7952 then s.submitToken path via (Tab.read (fun _ => 0) s.host.token key 7952) else s.ok

/-- DEBUG_TOKEN, through the host door: only a request with SESSION = 1 delivers one (DEDUCED, log entry 54). -/
def execDebugToken (client : Byte) (off : Nat) (data : List Byte) (s : State) : Host.Outcome State Fault Refusal :=
  answer s (if client.toNat = clDebugger then s.writeToken 0 0 off data else s.withStatus stDenied)

/-- TOKEN_LOCKOUT_END. -/
def execTokenLockoutEnd (s : State) : Host.Outcome State Fault Refusal :=
  answer s (if s.host.lockout then { s with host := { s.host with lockout := false, refusals := 0 } } else s)

/-- A write of DEBUG_CLOSE. -/
def State.writeClose (s : State) (client : Byte) : State :=
  if client.toNat = clChassis then s.withStatus stDenied
  else s.asClient client Obj.debugClose (fun s => (s.closeSession 2).ok)

/-- DEBUG_CLOSE. -/
def execDebugClose (client : Byte) (s : State) : Host.Outcome State Fault Refusal := answer s (s.writeClose client)

/-- DEBUG_SESSION_EXPIRY: ATIME has advanced by the token's duration. -/
def execDebugSessionExpiry (s : State) : Host.Outcome State Fault Refusal :=
  answer s (match s.host.session with
    | some x => if 0 ≤ sgn 48 (wrap 48 ((s.times.atime.toNat : Int) - x.expiry.toNat)) then s.closeSession 3 else s
    | none => s)

end Sys2Proof.Machine
end

