-- ==== Sys2Proof/Machine/Value.lean ====
section
/-! DEFINITION. What a read of a dictionary object returns (14 R498-R501, R517, R532, and the object tables of the chapters): objects the hardware or
the firmware computes, and the rest as they are held. -/
namespace Sys2Proof.Machine
open Sys2Proof

/-! ### Scalars that are computed -/

/-- LINK_STATUS (09 R380); an unknown peer and a plane read 0x1FF. -/
def State.linkStatus (s : State) (p : Nat) : Nat :=
  let x := s.port p
  x.link.code * 2 ^ 28 + x.width * 2 ^ 26 + b2n x.half * 2 ^ 25 + b2n (s.degraded p) * 2 ^ 24 + b2n x.txSleep * 2 ^ 23 + b2n x.peerSleep * 2 ^ 22 +
    b2n x.peerDeep * 2 ^ 21 + b2n x.discarding * 2 ^ 20 + x.nakCount % 16 * 2 ^ 16 + (if x.peer.toNat < 512 then x.peer.toNat else 0x1FF)

/-- DEBUG_SESSION (14 R532). -/
def State.sessionWord (s : State) : Nat :=
  match s.host.session with
  | some x => 2 ^ 31 + x.path % 4 * 2 ^ 24 + x.via.toNat
  | none => 0

/-- DEBUG_SCOPE (15 R564). -/
def State.sessionScope (s : State) : Nat :=
  match s.host.session with
  | some x => x.scope.toNat
  | none => 0

/-- FW_STATE (15 R543). -/
def FwState.code : FwState → Nat
  | .empty => 0
  | .loading => 1
  | .verifying => 2
  | .verified => 3
  | .failed => 4
  | .programming => 5

/-- IDENTITY_STATUS (15 R549). -/
def State.identityCode (s : State) : Nat :=
  match s.boot.identity with
  | none => 0
  | some .ready => 1
  | some .pufFailed => 2
  | some .mismatch => 3
  | some .certInvalid => 4

/-- A field of the NOR copy; zero unless it is valid (15 R564). -/
def State.norField (s : State) (f : List Byte → Nat) : Nat := if s.boot.norOk = some true then f s.norBytes else 0

/-- FIRMWARE_VERSION (14 R517, R591). -/
def State.firmwareVersion (s : State) : Nat := if s.fwRuns then imageVersion s.boot.image else 0

/-- SYNC_STATE (10 R382). -/
def SyncState.code : SyncState → Nat
  | .none => 0
  | .live => 1
  | .frozen => 2

/-- REFRESH_BAND: the highest package's (07 R278). -/
def State.refreshBand (s : State) : Nat := (List.range 16).foldl (fun m i => max m (Tab.get (fun _ => (1 : Byte)) s.mem.bands i).toNat) 0

/-- Computed scalars of instance c of the index blocks with instances. -/
def State.instScalar (s : State) (base c sub : Nat) : Option Nat :=
  let x := s.ctx c
  match base, sub with
  | 0x2110, 4 => some x.variant
  | 0x2110, 5 => some x.permitted
  | 0x2110, 6 => some (s.jobVariant c)
  | 0x3040, 1 => some x.ceil0
  | 0x3040, 2 => some x.ceil1
  | 0x4100, 0x01 => some (s.linkStatus c)
  | 0x4100, 0x10 => some (min 255 (s.port c).credit1.rate + 256 * min 255 (s.port c).credit2.rate)
  | 0x5010, 0x0E => some (s.stime48 c).toNat
  | 0x5010, 0x0F => some x.step.toNat
  | 0x5030, 2 => some x.bank0.code
  | 0x5030, 3 => some x.bank1.code
  | 0x7010, 8 => some (s.watchesHeld c)
  | 0x7010, 9 => some x.sync.code
  | 0x9010, 3 => some (s.slot c).owner.toNat
  | _, _ => none

/-- Computed scalars of the blocks of the boot and identity objects (15 R564). -/
def State.bootScalar (s : State) (sub : Nat) : Option Nat :=
  match sub with
  | 0x04 => some s.boot.fw.code
  | 0x05 => some s.boot.owner.toNat
  | 0x06 => some s.boot.source
  | 0x07 => some s.runningSvn
  | 0x08 => some (s.norField imageVersion)
  | 0x09 => some (s.norField imageSvn)
  | 0x10 => some s.identityCode
  | 0x14 => some (if s.boot.attBusy then 1 else if s.boot.attReady then 2 else 0)
  | 0x23 => some s.sessionScope
  | _ => none

/-- Computed scalars of the power objects (12 R468): the module's state is FABRIC's (12 R455). -/
def State.powerScalar (s : State) (client sub : Nat) : Option Nat :=
  match sub with
  | 1 => some s.power.fabric.level.code
  | 2 => some s.power.compute.level.code
  | 3 => some s.power.fabric.level.code
  | 4 => some s.power.memory.level.code
  | 5 => some s.power.host.level.code
  | 0x11 => some (s.vote (voteSlot client)).toNat
  | _ => none

/-- Computed scalars of the other index blocks. -/
def State.baseScalar (s : State) (client base sub : Nat) : Option Nat :=
  match base, sub with
  | 0x1000, 4 => some Config.siliconRev24.toNat
  | 0x1000, 5 => some s.firmwareVersion
  | 0x1000, 6 => some (if s.badPnid then 0xFFFF else s.pnid)
  | 0x1020, 3 => some s.sessionWord
  | 0x1100, 1 => some s.csState
  | 0x1100, 2 => some (s.boot.records.filter (fun r => r.good)).length
  | 0x1100, 3 => some s.boot.ignored
  | 0x1100, 4 => some s.csFree
  | 0x2000, n => s.powerScalar client n
  | 0x2100, 5 => some (s.obj Obj.energy / 10)
  | 0x2100, 6 => some s.power.theta
  | 0x3100, 5 => some s.times.atime.toNat
  | 0x6000, 0x0A => some s.refreshBand
  | 0xA000, n => s.bootScalar n
  | 0xB000, 1 => some (s.obj Obj.pcieStatus + s.linkState.toNat * 4096)
  | 0xB000, 2 => some s.host.bar2
  | _, _ => none

/-- A counter of what no command carries has risen by a free number (DESIGN CHOICE, log entry 56). -/
def State.riseFree (s : State) (key : Nat) : State :=
  let (f, s) := s.takeFree 64
  s.bump64 key f.toNat

/-- Counters of what no command carries: FETCH_MISSES (05 R203), FEC_CORRECTED and FEC_UNCORRECTED (09 R343, R381), the error counts of CAN_STATUS
(14 R520). -/
def unseenObject (base sub : Nat) : Bool :=
  (base == 0x3000 && sub == 0x15) || (base == 0x4100 && (sub == 9 || sub == 10)) || (base == 0x1010 && sub == 7)

/-- Brings such a counter up to the present before it is read. FETCH_MISSES rises only while a vat issues, an FEC count only while codewords come;
each is a counter object that a read clears. -/
def State.bringUp (s : State) (base key : Nat) : State :=
  if base = 0x3000 then
    let s := if s.vatsRan then s.riseFree key else s
    { s with vatsRan := s.vats.any (fun e => e.2.run == .issuing) }
  else if base = 0x4100 then
    let p := key / 256 - base
    let x := s.port p
    let s := if (if key % 256 = 9 then x.fecC else x.fecU) then s.riseFree key else s
    let on := x.link != .down && x.link != .listen
    s.onPort p (fun x => if key % 256 = 9 then { x with fecC := on } else { x with fecU := on })
  else s.busErrors

/-- CAN_STATUS (14 R532). -/
def CanUnit.status (u : CanUnit) : Nat := u.code * 2 ^ 24 + u.rec_ * 2 ^ 8 + u.tec

/-- A scalar as a client reads it. -/
def State.scalar (s : State) (g : ObjGroup) (key client : Nat) : Nat × State :=
  let c := key / 256 - g.base
  let sub := key % 256
  if sub = 0 then (g.top, s)
  else if unseenObject g.base sub then
    let s := s.bringUp g.base key
    (if g.base = 0x1010 then s.can.status else s.obj key, s)
  else ((((s.instScalar g.base c sub).orElse (fun _ => s.baseScalar client g.base sub)).getD (s.obj key)), s)

/-! ### Byte strings -/

/-- PART_NUMBER "PRV-HJ512" (14 R532). -/
def partNumber : List Byte := [0x50, 0x52, 0x56, 0x2D, 0x48, 0x4A, 0x35, 0x31, 0x32]
/-- VENDOR "Miostahar" (14 R532). -/
def vendorName : List Byte := [0x4D, 0x69, 0x6F, 0x73, 0x74, 0x61, 0x68, 0x61, 0x72]

/-- The STRING objects. -/
def stringValue (sub : Nat) : List Byte := if sub = 1 then partNumber else if sub = 2 then vendorName else Config.serialNumber

/-- Hottest of readings: its index and temperature in 1/16 of a degree. -/
def hottest : List (Nat × Int) → Nat × Int
  | [] => (0, 400)
  | e :: t => t.foldl (fun m e => if m.2 < e.2 then e else m) e

/-- A record of THERMAL_STATUS. -/
def thermalRecord (r : Nat × Int) : List Byte := leBytes 2 r.1 ++ leBytes 2 (wrap 16 r.2)

/-- THERMAL_STATUS, in the order of the sensor kinds of R454: islands, F-die, DRAM packages, regulators (12 R451, R468; DEDUCED, log entry 45). -/
def State.thermalStatus (s : State) : List Byte :=
  let island := hottest ((List.range 320).map (fun v => (vatId v, 16 * (s.vat v).temp)))
  let kind := fun (k : Nat) => Tab.get (fun _ => (0, (400 : Int))) s.power.sensors k
  let dram := hottest ((List.range 16).map (fun p => (p, Tab.get (fun _ => (400 : Int)) s.mem.temps p)))
  thermalRecord island ++ thermalRecord (kind 2) ++ thermalRecord dram ++ thermalRecord (kind 4)

/-- Keys of the owner fields, in rising order (11 R432). -/
def ownerKeys : List Nat :=
  (List.range 16).map Obj.cmpOwner ++ (List.range 4).map Obj.tpulseOwner ++ (List.range 2).map Obj.tinOwner ++ (List.range 2).map Obj.xOwner ++
    (List.range 34).map Obj.schedOwner ++ (List.range 2).map Obj.streamOwner ++ (List.range 8).map Obj.retentionOwner ++
    (List.range 16).map Obj.perturbOwner ++ [Obj.fwOwner]

/-- The client an owner field names. -/
def State.ownerOf (s : State) (key : Nat) : Nat :=
  if key = Obj.fwOwner then s.boot.owner.toNat else if key / 4096 = 0x901 then (s.slot (key / 256 - 0x9010)).owner.toNat else s.obj key

/-- RESOURCE_OWNERS: index and subindex in three bytes, then the client (11 R434). -/
def State.resourceOwners (s : State) : List Byte :=
  ownerKeys.flatMap (fun k => leBytes 2 (k / 256) ++ leBytes 1 (k % 256) ++ leBytes 1 (s.ownerOf k))

/-- Bytes of fault records. -/
def faultBytes (l : List FaultRec) : List Byte := l.flatMap FaultRec.bytes

/-- A DOMAIN of instance c that is computed. -/
def State.instDomain (s : State) (base c sub : Nat) : Option (List Byte) :=
  let x := s.ctx c
  match base, sub with
  | 0x5010, 0x10 => some (x.holdLog.flatMap Event.bytes)
  | 0x7010, 0x0A => some (s.syncDump c)
  | 0x8010, 1 => some (faultBytes x.first.toList)
  | 0x8010, 2 => some (faultBytes x.log)
  | 0x8010, 4 => some x.notices.flatten
  | _, _ => none

/-- A DOMAIN of the other blocks that is computed. IDENTITY_PUBKEY is empty until the firmware has rebuilt a key (15 R547; DEDUCED, log entry 102). -/
def State.baseDomain (s : State) (base sub : Nat) : Option (List Byte) :=
  match base, sub with
  | 0x2000, 0x10 => some ((List.range 32).flatMap (fun n => leBytes 4 (s.vote n).toNat))
  | 0x2200, 7 => some s.thermalStatus
  | 0x3000, 0x0A => some s.islandStatus
  | 0x5000, 8 => some (allPorts.flatMap (fun p => leBytes 2 (s.port p).peer.toNat))
  | 0x8000, 2 => some (s.events.ring.flatMap Event.bytes)
  | 0x8000, 8 => some (faultBytes s.events.module)
  | 0x8000, 0x10 => some s.resourceOwners
  | 0xA000, 0x01 => some (padTo 32 Config.keyHash)
  | 0xA000, 0x0D => some (faultBytes s.boot.fwFaults)
  | 0xA000, 0x11 => some (match s.boot.identity with
    | none => []
    | some .pufFailed => []
    | some _ => padTo 32 Config.identityKey)
  | 0xA000, 0x12 => some (padTo 7984 Config.identityCert)
  | 0xA000, 0x15 => some (if s.boot.attReady then s.boot.evidence else [])
  | 0xA000, 0x20 => some (leBytes 16 s.host.challenge.toNat)
  | _, _ => none

/-- DOMAINs that hold what the driver has written, and no more (DESIGN CHOICE, log entry 12). -/
def grows (base sub : Nat) : Bool := (base == 0x2110 && sub == 2) || (base == 0x7010 && (sub == 3 || sub == 6))

/-- Current size of a DOMAIN, and the bytes of a slice of it. -/
def State.domainSlice (s : State) (g : ObjGroup) (key : Nat) (r : ObjRow) (off len : Nat) : Nat × List Byte :=
  match (s.instDomain g.base (key / 256 - g.base) (key % 256)).orElse (fun _ => s.baseDomain g.base (key % 256)) with
  | some l => (l.length, slice l off len)
  | none =>
    let size := if grows g.base (key % 256) then s.domLen key else r.size
    (size, s.dom key off (min len (size - off)))

end Sys2Proof.Machine
end

