-- ==== Sys2Proof/Machine/Restart.lean ====
section
/-! DEFINITION. The completion of a dictionary engine slot (14 R512-R514), and the restart of the MP, which aborts what it holds (15 R542, R545, R562). -/
namespace Sys2Proof.Machine
open Sys2Proof

/-! ### Completion (14 R512, R514) -/

/-- The current size of an object; 0 for a name that is no object's (DE_SIZE; DESIGN CHOICE, log entry 130). -/
def State.currentSize (s : State) (ix sub : Nat) : Nat :=
  match objGroup ix, objFind ix sub with
  | some g, some r =>
    match r.type with
    | .string => (stringValue sub).length
    | .domain => (s.domainSlice g (256 * ix + sub) r 0 0).1
    | _ => r.size
  | _, _ => 0

/-- A slot's request is complete: STATUS, DE_SIZE and DE_XFER are set, and vector 25 fires if IE is set. -/
def State.complete (s : State) (i status moved : Nat) : State :=
  let x := s.engine i
  let s := s.setEngine i { x with busy := false, done := true, status := BitVec.ofNat 16 status,
                                  size := BitVec.ofNat 32 (s.currentSize x.ix x.sub), xfer := BitVec.ofNat 32 moved, dma := [], moved := 0 }
  (if bitOf x.cmd.toNat 0 then s.signal 25 else s).withStatus status

/-! ### MP restart (15 R545) -/

/-- What the MP holds when it restarts is completed with ABORTED: requests of engine slots that are under way (09 R374). -/
def State.abortHeld (s : State) : State :=
  (List.range 8).foldl (fun s i =>
    let x := s.engine i
    if x.busy && mpServed (256 * x.ix + x.sub) then s.complete i stAborted x.moved else s) s

/-- The MP restarts into an image held in its SRAM; a body that no longer matches its header sends it back to the ROM, which verifies the NOR copy
again and opens a push window (R545; DEDUCED, log entry 139). -/
def State.restartInto (s : State) (source : Nat) (img : List Byte) : State :=
  let s : State := { s with boot := { s.boot with restarts := s.boot.restarts + 1, owesAbort := true },
                            host := { s.host with toMp := s.host.toMp.map (fun e => (e.1, { e.2 with taken := none })) } }
  let s := s.abortHeld.log srcMp 0x0002 (leBytes 4 s.boot.restarts.toNat)
  if sha256 (imageBody img) = slice img 24 32 then { s with boot := { s.boot with mp := .restarting, next := source, image := img } }
  else
    let s := s.imageFault 7 source img
    { s with boot := { s.boot with mp := .rom true, pushed := false, norOk := none } }

/-- An MP restart into the running image. -/
def State.restartMp (s : State) : State := if s.fwRuns then s.restartInto s.boot.source s.boot.image else s

/-- FW_WATCHDOG. -/
def execFwWatchdog (s : State) : Host.Outcome State Fault Refusal := answer s s.restartMp

/-! ### ACTIVATE and RESTART_MP (15 R542, R562) -/

/-- FW_CTRL ACTIVATE. -/
def State.fwActivate (s : State) (client : Byte) : State :=
  s.asStager client (fun s =>
    if s.boot.fw = .verified ∧ s.fwRuns then
      let img := s.stagedImage
      (s.releaseStage.restartInto 4 img).ok
    else s.withStatus stWrongState)

/-- FW_ACTIVATE. -/
def execFwActivate (client : Byte) (s : State) : Host.Outcome State Fault Refusal := answer s (s.fwActivate client)

/-- RESTART_MP: acknowledged, then done; refused while PROGRAMMING. -/
def execRestartMp (m : Fin 8) (s : State) : Host.Outcome State Fault Refusal :=
  answer s (match (s.mbIn m).service with
    | some (2, _) => if !s.fwRuns then s else if s.boot.fw = .programming then s.acknowledge m 0x8001 else (s.acknowledge m stSuccess).restartMp
    | _ => s)

end Sys2Proof.Machine
end

