-- ==== Sys2Proof/Machine/Dict.lean ====
section
/-! DEFINITION. The dictionary engine: access and value checks, owner fields, acting objects, descriptors, the host door's slots, and requests that
other modules send (14 R498-R519). -/
namespace Sys2Proof.Machine
open Sys2Proof

/-- The state a row's outcome leads to. -/
def stateAfter (s : State) : Host.Outcome State Fault Refusal → State
  | .next t => t
  | _ => s

/-! ### Who asks (R501-R503, R516, R519) -/

/-- A requester: its client code, the path of R516 (0 the module's own doors, 1 proxied, 2 bridge), and the PNID or X port it came through. -/
structure Door where
  client : Byte
  path   : Nat
  via    : Nat
  deriving DecidableEq, Repr

/-- The driver at the host door. -/
def hostDoor : Door := ⟨BitVec.ofNat 8 clDriver, 0, 0⟩
/-- The chassis manager at the management door. -/
def canDoor : Door := ⟨BitVec.ofNat 8 clChassis, 0, 0⟩

/-- Whether a requester is the open debug session's. -/
def State.ownsSession (s : State) (d : Door) : Bool :=
  match s.host.session with
  | some x => x.path == d.path && x.via.toNat == d.via
  | none => false

/-- What refuses a requester before its object counts; a token write needs no session. -/
def State.doorGate (s : State) (d : Door) (token : Bool) : Option Nat :=
  let k := d.client.toNat
  if k = clDebugger then (if token || s.ownsSession d then none else some stToken)
  else if k = clDriver ∨ (k = clChassis ∧ d.path = 0) ∨ k = clMp then none
  else some stDenied

/-- Whether a write of an object needs a debug session, and the scope bit it needs (R503; 11 R435; 15 R559). -/
def debugBit (key : Nat) : Option Nat :=
  if key / 2 ^ 20 = 9 then some 0 else if key = Obj.debugCounterSet ∨ key = Obj.debugBarrierRelease then some 1 else none

/-- The owner fields of R502. -/
def isOwnerField (key : Nat) : Bool :=
  (decide (0x311001 ≤ key) && decide (key ≤ 0x311F01) && key % 256 == 1) || (decide (0x312001 ≤ key) && decide (key ≤ 0x312006)) ||
    (decide (0x600028 ≤ key) && decide (key ≤ 0x60002F))

/-- What the management door may write (R502; 15 R542). -/
def canWritable (key : Nat) (r : ObjRow) : Bool :=
  r.persist || isOwnerField key || key == Obj.voteOwn || key == Obj.offRequest || key == Obj.restoreDefaults || key == Obj.fwImage ||
    key == Obj.fwCtrl || key == Obj.moduleReset

/-! ### Type, state and range checks -/

/-- Whether offset and length break R500. -/
def shapeBad (r : ObjRow) (off len : Nat) : Bool :=
  match r.type with
  | .domain => decide (r.size < off + len) || off % r.entry != 0 || len % r.entry != 0
  | .string => decide (255 < len) || off != 0
  | _ => off != 0 || len != r.size

/-- Whether a state check refuses a write: a job of the object's own context or port, any job for a module-wide one (R501; 09 R381; 11 R431). -/
def State.stateBad (s : State) (g : ObjGroup) (key : Nat) (r : ObjRow) : Bool :=
  let c := key / 256 - g.base
  if r.access != .rwInState then false
  else if g.perCtx then (s.ctx c).busy
  else if g.base = 0x4100 then (match s.portCtx c with | some k => (s.ctx k).busy | none => false)
  else s.anyBusy

/-- Whether a number is a valid PNID, or 0xFFFF for none (08 R293). -/
def pnidOrNone (v : Nat) : Bool := v == 0xFFFF || (decide (v < 512) && decide (v % 32 < 17))
/-- Whether a number is a port, or 0xFF for none. -/
def portOrNone (v : Nat) : Bool := v == 0xFF || decide (v < 34)
/-- Whether a frequency is a multiple of 50 MHz within bounds. -/
def freqOk (v lo hi : Nat) : Bool := v % 50 == 0 && decide (lo ≤ v) && decide (v ≤ hi)

/-- Whether a scalar's value is in the range its table gives (instance c of the block at `base`). -/
def State.rangeOk (s : State) (base c sub v : Nat) : Bool :=
  match base, sub with
  | 0x1010, 4 => decide (1 ≤ v) && decide (v ≤ 16)
  | 0x2110, 1 => decide (v ≤ 100)
  | 0x2200, 1 => decide (80 ≤ v) && decide (v ≤ 110)
  | 0x3000, 2 => freqOk v 1600 2400
  | 0x3000, 3 => freqOk v (s.obj Obj.adaptFmin) 2400
  | 0x3000, 4 => freqOk v 1000 2400 && decide (v ≤ s.obj Obj.adaptFmax)
  | 0x3100, 1 => portOrNone v
  | 0x3100, 2 => portOrNone v
  | 0x3100, 5 => decide (v < 2 ^ 48)
  | 0x4000, 2 => decide (1 ≤ v) && decide (v ≤ 7)
  | 0x4100, 3 => decide (1 ≤ v) && decide (v ≤ (if isUplink c then 1 else 4))
  | 0x4100, 0x0D => v == 0xFFFF || (isUplink c && pnidOrNone v)
  | 0x5010, 1 => decide (v < 16)
  | 0x5010, 2 => decide (1 ≤ v) && decide (v ≤ 448)
  | 0x5030, 1 => decide (v < 2)
  | 0x6000, n => !(decide (0x20 ≤ n) && decide (n ≤ 0x27)) || (fld v 17 14 == 0 && decide (fld v 0 8 + fld v 8 8 ≤ 255))
  | 0x8000, 0x21 => decide (v < 16)
  | 0xA000, 0x0B => decide (v ≤ 10000)
  | 0xB000, 4 => pnidOrNone v
  | _, _ => true

/-- Whether data breaks the value rules of R500 or its chapter. -/
def State.valueBad (s : State) (g : ObjGroup) (key : Nat) (r : ObjRow) (data : List Byte) : Bool :=
  let v := leNat data
  match r.type with
  | .bool => decide (1 < v)
  | .enum => !r.codes.contains v
  | .domain =>
    if key = Obj.skimNext then !data.all (fun b => portOrNone b.toNat)
    else if key = Obj.eventRoute then !data.all (fun b => decide (b.toNat < 8) || b == 0xFF)
    else false
  | _ => !s.rangeOk g.base (key / 256 - g.base) (key % 256) v

/-! ### Owner fields and table banks -/

/-- A write of an owner field, in the order of R502. -/
def State.writeOwner (s : State) (client : Byte) (key v : Nat) : State :=
  let held := s.obj key
  let own := client.toNat
  if 0x17 ≤ v ∧ v ≠ clNone then s.withStatus stRefused
  else if (v ≠ clNone ∧ v ≠ own) ∨ (v = clNone ∧ held ≠ own) then s.withStatus stDenied
  else if v ≠ clNone ∧ held ≠ clNone ∧ held ≠ own then s.withStatus stHeld
  else (s.setObj key v).ok

/-- Whether a table or stream bank, or a retention range, is closed to a write (08 R306; 14 R531; 01 R60, 07 R283). -/
def State.bankClosed (s : State) (client : Byte) (base sub off len : Nat) : Bool :=
  match base, sub with
  | 0x5100, n => decide (1 ≤ n) && decide (n ≤ 2) && !s.tableOpen (n - 1) 8 off len Obj.routeBase Obj.routeCount
  | 0x5200, n =>
    if n = 1 ∨ n = 2 then !s.tableOpen (n - 1) 32 off len Obj.mrBase Obj.mrCount
    else decide (3 ≤ n) && decide (n ≤ 4) && !s.tableOpen (n - 3) 64 off len Obj.segBase Obj.segCount
  | 0x6000, n =>
    if 0x13 ≤ n ∧ n ≤ 0x16 then !s.streamOpen ((n - 0x13) % 2) ((n - 0x13) / 2)
    else decide (0x20 ≤ n) && decide (n ≤ 0x27) && s.obj (Obj.retentionOwner (n - 0x20)) != client.toNat
  | _, _ => false

/-! ### RESTORE_DEFAULTS (R506) -/

/-- The default of an object, as bytes. -/
def defaultBytes (key : Nat) (r : ObjRow) : List Byte :=
  if r.type = .domain then List.replicate r.size (domDefault (domKey key 0)) else leBytes r.size (objDefault key)

/-- Persistent objects that a door writes, without the rollback floor. -/
def restorable : List (Nat × ObjRow) :=
  persistentObjects.filter (fun e => (e.2.access == .rw || e.2.access == .rwInState) && e.1 != Obj.rollbackFloor)

/-- Claims on X ports follow the settings that made them (DEDUCED, log entry 119). -/
def State.settleX (s : State) : State :=
  let s := if s.obj Obj.lockstepEnable = 0 ∧ s.obj (Obj.xOwner 1) = clLock then (s.setObj (Obj.xOwner 1) clNone).clearLock else s
  [0, 1].foldl (fun s i =>
    let o := s.obj (Obj.xOwner i)
    if s.obj (Obj.xFunction i) = 0 ∧ (o = clStorage ∨ o = clBridge) then s.setObj (Obj.xOwner i) clNone else s) s

/-- A write of ALL to RESTORE_DEFAULTS. -/
def State.restoreDefaults (s : State) (client : Byte) : State :=
  s.asClient client Obj.restoreDefaults (fun s =>
    if s.anyBusy then s.withStatus stWrongState
    else if s.power.fail != .none then s.withStatus stResetting
    else
      let changed := restorable.filter (fun e => s.objBytes e.1 e.2 != defaultBytes e.1 e.2)
      if s.boot.failed && !changed.isEmpty then s.withStatus stAborted
      else
        let s := changed.foldl (fun s e => (s.setBytes e.1 e.2 (defaultBytes e.1 e.2)).csWrite e.1 (defaultBytes e.1 e.2)) s
        let s := s.settleX.settleIslands.settlePower
        (s.log (srcOf client) 0x00B4 (leBytes 1 client.toNat ++ [0, 0, 0] ++ leBytes 2 changed.length)).ok)

/-- RESTORE_DEFAULTS. -/
def execRestoreDefaults (client : Byte) (s : State) : Host.Outcome State Fault Refusal := answer s (s.restoreDefaults client)

/-! ### Objects that act (11 R422; 13 R489, R490) -/

/-- Whether a record is among those a requester still wants: above the SEQ named for its source. -/
def stillWanted (data : List Byte) (e : Event) : Bool :=
  (List.range (data.length / 6)).all (fun i => leAt data (6 * i) 2 != e.source.toNat ||
    decide (0 < sgn 32 (wrap 32 ((e.seq.toNat : Int) - leAt data (6 * i + 2) 4))))

/-- Records that a requester no longer wants are bound for no queue any more. -/
def State.dropUnwanted (s : State) (data : List Byte) : State :=
  (s.events.ring.filter (fun e => e.queue.isSome && !stillWanted data e)).foldl (fun s e => s.taken e.source e.seq) s

/-- EVENT_RESUME: host-bound records go out again, of each named source only those above its SEQ. -/
def State.eventResume (s : State) (data : List Byte) : State :=
  let s := s.dropUnwanted data
  ({ s with events := { s.events with mute := false } }).pump

/-- EVENT_RESUME. -/
def execEventResume (data : List Byte) (s : State) : Host.Outcome State Fault Refusal :=
  answer s (if 393216 < data.length ∨ data.length % 6 ≠ 0 then s.withStatus stRefused else (s.eventResume data).ok)

/-- A write of PROXY_HOME: nothing host-bound leaves until EVENT_RESUME. -/
def State.writeHome (s : State) (client : Byte) (v : Nat) : State :=
  let old := s.obj Obj.proxyHome
  if !pnidOrNone v then s.withStatus stRefused
  else
    let t := s.commitScalar Obj.proxyHome client v
    if t.succeeded then
      ({ t with events := { t.events with mute := true } }).log srcHost 0x00A4 (leBytes 2 old ++ leBytes 2 v)
    else t

/-- A write of X_FUNCTION: STORAGE and BRIDGE claim the port, SCHEDULED releases the claim. -/
def State.writeFunction (s : State) (client : Byte) (i v : Nat) : State :=
  let code := if v = 1 then clStorage else clBridge
  let o := s.obj (Obj.xOwner i)
  if v ≠ 0 ∧ o ≠ code ∧ (o ≠ clNone ∨ s.obj (Obj.schedOwner (32 + i)) ≠ clNone) then s.withStatus stHeld
  else
    let t := s.commitScalar (Obj.xFunction i) client v
    if !t.succeeded then t
    else (if v = 0 then t.settleX else t.setObj (Obj.xOwner i) code).settlePower

/-- A write of ATIME (01 R67). -/
def State.writeAtime (s : State) (v : Nat) : State := { s with times := { s.times with atime := BitVec.ofNat 48 v, afrac := 0 } }

/-- A write of FW_CTRL (15 R544). -/
def State.writeFwCtrl (s : State) (client : Byte) (v : Nat) : State :=
  match v with
  | 1 => s.fwVerify client
  | 2 => s.fwActivate client
  | 3 => s.fwProgram client
  | 4 => s.fwClear client
  | _ => s.fwBootNor client

/-- A write of an acting object of the blocks with instances. -/
def State.instAct (s : State) (base sub : Nat) (c : CtxId) (p : PortId) (n : Fin 16) (client : Byte) (off : Nat) (data : List Byte) : Option State :=
  let v := leNat data
  match base, sub with
  | 0x2110, 7 => some (s.takeReport c (BitVec.ofNat 32 v))
  | 0x4100, 2 => some (stateAfter s (if v = 1 then execLinkCtrlRetrain p s else if v = 2 then execLinkCtrlReset p s else execLinkCtrlWakePeer p s))
  | 0x5010, 0x0A =>
    some (stateAfter s (if v = 0 then execLaunchArmIdle c s else if v = 1 then execLaunchArmBarrier c s else execLaunchArmFtime c s))
  | 0x5030, 4 => some (stateAfter s (if v = 1 then execBankOpen c 0 s else if v = 2 then execBankCommit c 0 s else execBankDiscard c 0 s))
  | 0x5030, 5 => some (stateAfter s (if v = 1 then execBankOpen c 1 s else if v = 2 then execBankCommit c 1 s else execBankDiscard c 1 s))
  | 0x5030, 8 => some (stateAfter s (if v = 0 then execSwitchArmCancel c s else execSwitchArmTimed c s))
  | 0x5030, 0x10 => some (stateAfter s (execFenceWrite c off data s))
  | 0x7010, 1 => some (stateAfter s (if v = 1 then execCtxResetReset c s else execCtxResetPreempt c s))
  | 0x9010, 2 => some (stateAfter s (if v = 1 then execPerturbArm client n s else execPerturbDisarm client n s))
  | _, _ => none

/-- A write of an acting object of the boot and identity block. -/
def State.bootAct (s : State) (d : Door) (sub off : Nat) (data : List Byte) : Option State :=
  let v := leNat data
  match sub with
  | 0x02 => some (s.writeImage d.client off data)
  | 0x03 => some (s.writeFwCtrl d.client v)
  | 0x0A => some (s.writeFloor d.client v)
  | 0x0C => some (s.writeReset d.client)
  | 0x13 => some (s.writeNonce d.client data)
  | 0x21 => some (s.writeToken d.path d.via off data)
  | 0x22 => some (s.writeClose d.client)
  | _ => none

/-- A write of an acting object of the other blocks. -/
def State.baseAct (s : State) (d : Door) (base sub off : Nat) (data : List Byte) : Option State :=
  let v := leNat data
  let cl := d.client
  match base, sub with
  | 0x1020, 1 => some (s.restoreDefaults cl)
  | 0x1100, 6 => some (s.writeCompact cl 0)
  | 0x2000, 0x11 => some (s.writeVote cl (BitVec.ofNat 32 v))
  | 0x2000, 0x12 => some (s.writeOff cl)
  | 0x2100, 1 => some (s.writeBudget cl v)
  | 0x3100, 5 => some (s.writeAtime v).ok
  | 0x4000, 0x30 => some (stateAfter s (if v = 1 then execFabricResetRequest s else execFabricResetForce s))
  | 0x7000, 0x10 => some (stateAfter s (execDebugCounterSet cl (BitVec.ofNat 64 v) s))
  | 0x7000, 0x11 => some (stateAfter s (execDebugBarrierRelease cl (BitVec.ofNat 16 v) s))
  | 0x8000, 6 => some (s.eventResume data).ok
  | 0x8000, 0x20 => some (s.writeLockstep cl (v == 1))
  | 0x9000, 1 => some (stateAfter s (execPerturbEnable cl (v == 1) s))
  | 0xA000, n => s.bootAct d n off data
  | 0xB000, 4 => some (s.writeHome cl v)
  | 0xB000, 5 => some (s.writeFunction cl 0 v)
  | 0xB000, 6 => some (s.writeFunction cl 1 v)
  | _, _ => none

/-! ### READ and WRITE (R500-R505) -/

/-- IMAGE_DIGEST names the image a context is loaded from. No object holds the interleave that its header records: it is taken to be the DRAM_INTERLEAVE
that stands now, which the driver writes first (13 R491, R495; DESIGN CHOICE, log entry 133). -/
def State.nameImage (s : State) (c : Nat) : State := s.onCtx c (fun x => { x with imageIntlv := some (s.obj (Obj.dramInterleave c)) })

/-- What a write leaves behind in plain objects: bytes of a DOMAIN with its written length, or a scalar; islands, domains and doorbells follow their settings. -/
def State.store (s : State) (g : ObjGroup) (d : Door) (key : Nat) (r : ObjRow) (off : Nat) (data : List Byte) : State :=
  if r.persist then
    let old := s.objBytes key r
    let t := s.commitWrite key d.client r (if r.type = .domain then overlay old off data else data)
    if g.base = 0x3000 then t.settleIslands else if g.base = 0x2000 then t.settlePower else if key = Obj.doorbellMap then t.settleBells else t
  else if r.type = .domain then
    let t := s.setDom key off data
    let t := if key = Obj.imageDigest (key / 256 - g.base) then t.nameImage (key / 256 - g.base) else t
    (if grows g.base (key % 256) then t.setObj key (max (s.obj key) (off + data.length)) else t).ok
  else (s.setObj key (leNat data)).ok

/-- A WRITE that every check has let through. -/
def State.applyWrite (s : State) (g : ObjGroup) (d : Door) (key : Nat) (r : ObjRow) (off : Nat) (data : List Byte) : State :=
  let i := key / 256 - g.base
  let sub := key % 256
  if isOwnerField key then s.writeOwner d.client key (leNat data)
  else match s.instAct g.base sub (Fin.ofNat 16 i) (Fin.ofNat 34 i) (Fin.ofNat 16 i) d.client off data with
    | some t => t
    | none => match s.baseAct d g.base sub off data with
      | some t => t
      | none => s.store g d key r off data

/-- Whether the host door refuses a write by the object's access. -/
def Access.noWrite (a : Access) : Bool := a == .const || a == .ro || a == .rc

/-- What refuses a WRITE: the requester, a debug-only object, no such object, access, the server, its state, its shape, its value, its bank. `data` may
be the first part of `len` bytes. -/
def State.writeGate (s : State) (d : Door) (ix sub off len : Nat) (data : List Byte) : Except Nat (ObjGroup × ObjRow) :=
  let key := 256 * ix + sub
  match s.doorGate d (key == Obj.debugToken) with
  | some st => .error st
  | none =>
    match objGroup ix, objFind ix sub with
    | some g, some r =>
      if (debugBit key).any (fun b => !(s.ownsSession d && s.inScope d.client b)) then .error stToken
      else if r.access.noWrite then .error stDenied
      else if d.client.toNat = clChassis ∧ !canWritable key r then .error stDenied
      else if key = Obj.debugToken ∧ d.client.toNat ≠ clDebugger then .error stDenied
      else if !s.served key then .error stResetting
      else if s.stateBad g key r then .error stWrongState
      else if shapeBad r off len ∨ s.valueBad g key r data then .error stRefused
      else if s.bankClosed d.client g.base sub off len then .error stHeld
      else .ok (g, r)
    | _, _ => .error stNoObject

/-- WRITE: `host.status` holds its completion. -/
def State.writeObj (s : State) (d : Door) (ix sub off : Nat) (data : List Byte) : State :=
  match s.writeGate d ix sub off data.length data with
  | .error st => s.withStatus st
  | .ok (g, r) => s.applyWrite g d (256 * ix + sub) r off data

/-- What a READ gives. -/
structure ReadOut where
  status : Nat
  data   : List Byte
  deriving DecidableEq, Repr

/-- What refuses a READ. ATTEST_EVIDENCE is held while BUSY (15 R551). -/
def State.readGate (s : State) (d : Door) (ix sub off len : Nat) : Except Nat (ObjGroup × ObjRow) :=
  let key := 256 * ix + sub
  match s.doorGate d false with
  | some st => .error st
  | none =>
    match objGroup ix, objFind ix sub with
    | some g, some r =>
      if r.access = .wo then .error stDenied
      else if !s.served key then .error stResetting
      else if r.type ≠ .string ∧ shapeBad r off len then .error stRefused
      else if r.type = .string ∧ off ≠ 0 then .error stRefused
      else if key = Obj.attestEvidence ∧ s.boot.attBusy then .error stHeld
      else .ok (g, r)
    | _, _ => .error stNoObject

/-- READ; an RC object is zeroed in the same step. -/
def State.readObj (s : State) (d : Door) (ix sub off len : Nat) : ReadOut × State :=
  let key := 256 * ix + sub
  match s.readGate d ix sub off len with
  | .error st => (⟨st, []⟩, s.withStatus st)
  | .ok (g, r) =>
    match r.type with
    | .string => (⟨stSuccess, (stringValue sub).take len⟩, s.ok)
    | .domain => (⟨stSuccess, (s.domainSlice g key r off len).2⟩, s.ok)
    | _ =>
      let (v, s) := s.scalar g key d.client.toNat
      (⟨stSuccess, leBytes r.size v⟩, (if r.access = .rc then s.setObj key 0 else s).ok)

/-! ### DESC and NEXT (R511) -/

/-- Type codes of R499. -/
def ObjType.code : ObjType → Nat
  | .bool => 1
  | .u8 => 2
  | .u16 => 3
  | .u32 => 4
  | .u64 => 5
  | .enum => 8
  | .string => 9
  | .domain => 10

/-- Access codes of a descriptor. -/
def Access.code : Access → Nat
  | .const => 1
  | .ro => 2
  | .rw => 3
  | .wo => 4
  | .rwInState => 5
  | .rc => 6

/-- The management door's access to an object, in the same codes. -/
def canAccess (key : Nat) (r : ObjRow) : Nat :=
  if r.access.noWrite || canWritable key r then r.access.code else if r.access = .wo then 0 else 2

/-- The default a descriptor shows. -/
def State.shownDefault (s : State) (g : ObjGroup) (key : Nat) (r : ObjRow) : Nat :=
  if r.type = .domain ∨ r.type = .string then 0
  else if key % 256 = 0 then g.top
  else if key = Obj.siliconRev then Config.siliconRev24.toNat
  else if key = Obj.ownPnid then (if s.badPnid then 0xFFFF else s.pnid)
  else if g.base = 0x4100 ∧ key % 256 = 0x10 then 257 * maxRate (key / 256 - g.base)
  else objDefault key

/-- The 16 bytes of a descriptor. -/
def State.descriptor (s : State) (g : ObjGroup) (key : Nat) (r : ObjRow) : List Byte :=
  let wide := r.access == .rwInState && !g.perCtx && g.base != 0x4100
  let debug := (debugBit key).isSome && !r.access.noWrite
  let flags := b2n r.persist + 2 * b2n (mpServed key) + 4 * b2n debug + 8 * b2n wide
  leBytes 1 r.type.code ++ leBytes 1 r.access.code ++ leBytes 1 (canAccess key r) ++ leBytes 1 flags ++ leBytes 4 r.size ++
    leBytes 8 (s.shownDefault g key r)

/-- Keys of an index block, subindex 0 included, in rising order. -/
def ObjGroup.keys (g : ObjGroup) : List Nat :=
  (List.range g.count).flatMap (fun i => (256 * (g.base + i)) :: g.rows.flatMap (fun r =>
    (List.range (r.hi + 1 - r.lo)).map (fun k => 256 * (g.base + i) + r.lo + k)))

/-- The first defined key above one. -/
def nextKey (key : Nat) : Option Nat :=
  match objGroups.find? (fun g => decide (key < 256 * (g.base + g.count - 1) + g.top)) with
  | none => none
  | some g => g.keys.find? (fun k => decide (key < k))

/-- DESC. -/
def State.descObj (s : State) (d : Door) (ix sub : Nat) : ReadOut × State :=
  match s.doorGate d false with
  | some st => (⟨st, []⟩, s.withStatus st)
  | none => match objGroup ix, objFind ix sub with
    | some g, some r => (⟨stSuccess, s.descriptor g (256 * ix + sub) r⟩, s.ok)
    | _, _ => (⟨stNoObject, []⟩, s.withStatus stNoObject)

/-- NEXT: the next name in bytes 0-3, its descriptor in bytes 16-31 (R514). -/
def State.nextObj (s : State) (d : Door) (ix sub : Nat) : ReadOut × State :=
  match s.doorGate d false with
  | some st => (⟨st, []⟩, s.withStatus st)
  | none => match nextKey (256 * ix + sub) with
    | none => (⟨stNoObject, []⟩, s.withStatus stNoObject)
    | some k => match objGroup (k / 256), objFind (k / 256) (k % 256) with
      | some g, some r => (⟨stSuccess, leBytes 4 k ++ zeros 12 ++ s.descriptor g k r⟩, s.ok)
      | _, _ => (⟨stNoObject, []⟩, s.withStatus stNoObject)

/-- One request of the engine: 1 READ, 2 WRITE, 3 DESC, 4 NEXT; it counts in DICT_REQUESTS. -/
def State.request (s : State) (d : Door) (op ix sub off len : Nat) (data : List Byte) : ReadOut × State :=
  let s := s.bump64 Obj.dictRequests 1
  match op with
  | 1 => s.readObj d ix sub off len
  | 2 =>
    let t := s.writeObj d ix sub off data
    (⟨t.host.status.toNat, []⟩, t)
  | 3 => s.descObj d ix sub
  | 4 => s.nextObj d ix sub
  | _ => (⟨stRefused, []⟩, s.withStatus stRefused)

end Sys2Proof.Machine
end

