-- ==== Sys2Proof/Machine/HostDoor.lean ====
section
/-! DEFINITION. The host door: dictionary engine slots (14 R507-R515), mailboxes and doorbells (13 R476-R481), event queues (13 R482, R483), MSI-X (13
R475), proxy slots (13 R486), X-port functions (13 R490), and the door's resets (13 R471; 16 R574). -/
namespace Sys2Proof.Machine
open Sys2Proof

/-! ### Dictionary engine slots (14 R512-R514) -/

/-- OP of DE_CMD. -/
def EngineSlot.op (x : EngineSlot) : Nat := fld x.cmd.toNat 24 4
/-- DMA of DE_CMD. -/
def EngineSlot.byDma (x : EngineSlot) : Bool := bitOf x.cmd.toNat 17
/-- The requester: the debugger with SESSION, otherwise the driver. -/
def EngineSlot.door (x : EngineSlot) : Door := { hostDoor with client := BitVec.ofNat 8 (if bitOf x.cmd.toNat 16 then clDebugger else clDriver) }

/-- Where read data goes: host memory by DMA, `done` bytes on, or DE_DATA. The answer is how many bytes a transfer that failed had moved. -/
def State.deliverRead (s : State) (i done : Nat) (data : List Byte) : Option Nat × State :=
  let x := s.engine i
  if x.byDma then
    let base := x.addr + BitVec.ofNat 64 done
    match s.hostFails data.length with
    | (none, s) => (none, s.emit (.hostWrite base data))
    | (some m, s) => (some m, s.emit (.hostWrite base (data.take m)))
  else (none, s.setEngine i { x with data := Tab.write (fun _ => 0) x.data 0 data })

/-- Whether n bytes a WRITE needs come: those by DMA may not (R514). -/
def State.fetchFails (s : State) (i n : Nat) : Bool × State :=
  if (s.engine i).byDma then
    let (f, s) := s.hostFails n
    (f.isSome, s)
  else (false, s)

/-- Whether a request is applied in chunks of 4 KiB (R508). -/
def EngineSlot.long (x : EngineSlot) : Bool :=
  (x.op == 1 || x.op == 2) && x.byDma && decide (4096 < x.len.toNat) &&
    (match objFind x.ix x.sub with | some r => r.type == .domain && !shapeBad r x.offset.toNat x.len.toNat | none => false)

/-- Whether a request asks for more than a slot moves: 256 bytes inline, 0x100_0000 by DMA. -/
def EngineSlot.tooLong (x : EngineSlot) : Bool :=
  (x.op == 1 || x.op == 2) && decide ((if x.byDma then 0x1000000 else 256) < x.len.toNat)

/-- Completes a READ with its data: with ABORTED, and the bytes moved, where the transfer to host memory fails. -/
def State.completeRead (s : State) (i done : Nat) (data : List Byte) : State :=
  match s.deliverRead i done data with
  | (none, s) => s.complete i stSuccess (done + data.length)
  | (some m, s) => s.complete i stAborted (done + m)

/-- A request no longer than 4 KiB. -/
def State.runShort (s : State) (i : Nat) (dma : List Byte) : State :=
  let x := s.engine i
  let data := if x.byDma then padTo x.len.toNat dma else Tab.read (fun _ => 0) x.data 0 x.len.toNat
  let key := 256 * x.ix + x.sub
  let (r, t) := s.request x.door x.op x.ix x.sub x.offset.toNat x.len.toNat data
  if x.op = 2 ∧ r.status = stSuccess ∧ (key = Obj.moduleReset ∨ key = Obj.offRequest) then t
  else if r.status ≠ stSuccess then t.complete i r.status 0
  else match x.op with
    | 1 => t.completeRead i 0 r.data
    | 2 => t.complete i stSuccess x.len.toNat
    | _ => (t.setEngine i { t.engine i with data := Tab.write (fun _ => 0) x.data 0 r.data }).complete i stSuccess r.data.length

/-- A slot's request runs. `dma` holds the bytes a WRITE fetches from host memory; where they do not come it ends with ABORTED. What resets the
module has answered before it does. -/
def State.runSlot (s : State) (i : Nat) (dma : List Byte) : State :=
  let x := s.engine i
  if x.tooLong then s.complete i stRefused 0
  else if x.long then (s.bump64 Obj.dictRequests 1).setEngine i { x with busy := true, moved := 0, dma := padTo x.len.toNat dma }
  else if x.op = 2 then
    match s.fetchFails i x.len.toNat with
    | (true, s) => s.complete i stAborted 0
    | (false, s) => s.runShort i dma
  else s.runShort i dma

/-- GO in DE_CMD: discarded while the slot is BUSY. -/
def State.goSlot (s : State) (i : Nat) (cmd : W32) (dma : List Byte) : State :=
  if (s.engine i).busy then s
  else (s.setEngine i { s.engine i with cmd := cmd &&& 0x0F030001 }).runSlot i dma

/-- DE_CMD with the OP of the row. -/
def withOp (cmd : W32) (op : Nat) : W32 := (cmd &&& 0xF0FFFFFF) ||| BitVec.ofNat 32 (op * 2 ^ 24)

/-- DICT_READ. -/
def execDictRead (slot : Fin 8) (cmd : W32) (s : State) : Host.Outcome State Fault Refusal := answer s (s.byHost (fun s => s.goSlot slot (withOp cmd 1) []))

/-- DICT_WRITE. -/
def execDictWrite (slot : Fin 8) (cmd : W32) (dma : List Byte) (s : State) : Host.Outcome State Fault Refusal :=
  answer s (s.byHost (fun s => s.goSlot slot (withOp cmd 2) dma))

/-- DICT_DESC. -/
def execDictDesc (slot : Fin 8) (cmd : W32) (s : State) : Host.Outcome State Fault Refusal := answer s (s.byHost (fun s => s.goSlot slot (withOp cmd 3) []))

/-- DICT_NEXT. -/
def execDictNext (slot : Fin 8) (cmd : W32) (s : State) : Host.Outcome State Fault Refusal := answer s (s.byHost (fun s => s.goSlot slot (withOp cmd 4) []))

/-- A chunk of a long READ. -/
def State.readChunk (s : State) (i : Nat) : State :=
  let x := s.engine i
  let done := x.moved
  let n := min 4096 (x.len.toNat - done)
  let (r, t) := s.readObj x.door x.ix x.sub (x.offset.toNat + done) n
  if r.status ≠ stSuccess then t.complete i r.status done
  else if x.len.toNat ≤ done + n ∨ r.data.length < n then t.completeRead i done r.data
  else match t.deliverRead i done r.data with
    | (none, t) => t.setEngine i { x with moved := done + n }
    | (some m, t) => t.complete i stAborted (done + m)

/-- Applies the entries that the bytes from `done` up to `done + n` of a long WRITE complete. The records an EVENT_RESUME leaves wanted go out with
its last chunk. -/
def State.applyChunk (s : State) (x : EngineSlot) (done n : Nat) : State :=
  let last := decide (x.len.toNat ≤ done + n)
  let e := match objFind x.ix x.sub with | some r => max r.entry 1 | none => 1
  let from_ := done / e * e
  let data := slice x.dma from_ ((done + n) / e * e - from_)
  if 256 * x.ix + x.sub = Obj.eventResume ∧ !last then
    match s.writeGate x.door x.ix x.sub (x.offset.toNat + from_) data.length data with
    | .error st => s.withStatus st
    | .ok _ => (s.dropUnwanted data).ok
  else s.writeObj x.door x.ix x.sub (x.offset.toNat + from_) data

/-- A chunk of a long WRITE. -/
def State.writeChunk (s : State) (i : Nat) : State :=
  let x := s.engine i
  let done := x.moved
  let n := min 4096 (x.len.toNat - done)
  match s.fetchFails i n with
  | (true, s) => s.complete i stAborted done
  | (false, s) =>
    let t := s.applyChunk x done n
    if t.host.status ≠ 0 then t.complete i t.host.status.toNat done
    else if x.len.toNat ≤ done + n then t.complete i stSuccess (done + n)
    else t.setEngine i { x with moved := done + n }

/-- One chunk of a long request: the request ends with its last byte, or with a chunk that is refused or does not come (R508, R514). -/
def State.chunk (s : State) (i : Nat) : State := if (s.engine i).op = 1 then s.readChunk i else s.writeChunk i

/-- DOMAIN_CHUNK. -/
def execDomainChunk (slot : Fin 8) (s : State) : Host.Outcome State Fault Refusal :=
  answer s (if (s.engine slot).busy then s.chunk slot else s)

/-! ### Owner fields and settings with rows of their own -/

/-- OWNER_WRITE: an owner field, written through a door (14 R502). -/
def execOwnerWrite (ix : BitVec 16) (sub : Byte) (client : Byte) (value : Byte) (s : State) : Host.Outcome State Fault Refusal :=
  answer s (s.writeObj { hostDoor with client := client } ix.toNat sub.toNat 0 [value])

/-- PROXY_HOME, written by the driver. -/
def execProxyHome (pnid : BitVec 16) (s : State) : Host.Outcome State Fault Refusal :=
  answer s (s.writeHome (BitVec.ofNat 8 clDriver) pnid.toNat)

/-- X_FUNCTION SCHEDULED. -/
def execXFunctionScheduled (x : Fin 2) (s : State) : Host.Outcome State Fault Refusal :=
  answer s (s.writeFunction (BitVec.ofNat 8 clDriver) x 0)

/-- X_FUNCTION STORAGE. -/
def execXFunctionStorage (x : Fin 2) (s : State) : Host.Outcome State Fault Refusal :=
  answer s (s.writeFunction (BitVec.ofNat 8 clDriver) x 1)

/-- X_FUNCTION BRIDGE. -/
def execXFunctionBridge (x : Fin 2) (s : State) : Host.Outcome State Fault Refusal :=
  answer s (s.writeFunction (BitVec.ofNat 8 clDriver) x 2)

/-! ### Mailboxes, the host's side (13 R476-R478) -/

/-- COLLISION of a host-to-MP mailbox rises, if it is FULL. -/
def State.collide (s : State) (m : Nat) : State :=
  let x := s.mbIn m
  if x.full && !x.collision then (s.setMbIn m { x with collision := true }).noteCollision m 0 x.seq else s

/-- GO: SEQ advances, the mailbox is FULL, the MP is interrupted. -/
def State.mailGo (s : State) (m : Nat) : State :=
  let x := s.mbIn m
  let s := s.setMbIn m { x with seq := x.seq + 1 }
  let s := s.collide m
  (s.setMbIn m { s.mbIn m with full := true }).emit (.mp [BitVec.ofNat 32 m])

/-- MB_GO. -/
def execMbGo (m : Fin 8) (s : State) : Host.Outcome State Fault Refusal := answer s (s.byHost (fun s => s.mailGo m))

/-- A DATA write: applied at once. -/
def State.mailData (s : State) (m i : Nat) (value : W32) : State :=
  let x := s.mbIn m
  (s.setMbIn m { x with data := Tab.set (fun _ => 0) x.data i value }).collide m

/-- MB_DATA_WRITE. -/
def execMbDataWrite (m : Fin 8) (i : Fin 16) (value : W32) (s : State) : Host.Outcome State Fault Refusal := answer s (s.byHost (fun s => s.mailData m i value))

/-- MB_TAKE: firmware that runs takes the message of a FULL mailbox, unless it still holds one. -/
def execMbTake (m : Fin 8) (s : State) : Host.Outcome State Fault Refusal :=
  let x := s.mbIn m
  answer s (if s.fwRuns && x.full && x.taken.isNone then s.setMbIn m { x with taken := some (x.seq, x.words) } else s)

/-- MB_ACKNOWLEDGE: a service code that nothing defines is answered with VALUE_REFUSED (R479). -/
def execMbAcknowledge (m : Fin 8) (code : BitVec 16) (s : State) : Host.Outcome State Fault Refusal :=
  answer s (match (s.mbIn m).service with
    | some (k, _) => if !s.fwRuns then s else s.acknowledge m (if k = 1 ∨ k = 2 ∨ k = 3 then code.toNat else stRefused)
    | none => s)

/-- A read of MB_ACK clears it. -/
def State.mailAck (s : State) (m : Nat) : W32 × State := ((s.mbIn m).ack, s.setMbIn m { s.mbIn m with ack := 0 })

/-- MB_ACK_READ. -/
def execMbAckRead (m : Fin 8) (s : State) : Host.Outcome State Fault Refusal :=
  answer s (s.byHost (fun s =>
    let (w, t) := s.mailAck m
    t.emit (.readData (leBytes 4 w.toNat))))

/-- MB_HACK: the host acknowledges; a SEQ that is not the current one is only counted. -/
def State.mailHack (s : State) (m : Nat) (w : W32) : State :=
  let x := s.mbOut m
  if fld w.toNat 16 8 = x.seq.toNat then (s.setMbOut m { x with full := false }).emit (.mp [BitVec.ofNat 32 (0x100 + m), w &&& 0x00FFFFFF])
  else s.bump32 Obj.mbStaleAcks 1

/-- MB_HACK. -/
def execMbHack (m : Fin 8) (w : W32) (s : State) : Host.Outcome State Fault Refusal := answer s (s.byHost (fun s => s.mailHack m w))

/-- MP_MAILBOX_POST, by firmware that runs. -/
def execMpMailboxPost (m : Fin 8) (words : List W32) (s : State) : Host.Outcome State Fault Refusal :=
  answer s (if s.fwRuns && !s.dark then s.post m words else s)

/-! ### Doorbells (13 R480, R481) -/

/-- A write of DB_IN. -/
def State.ringBells (s : State) (bits : W64) : State :=
  (((List.range 64).filter (fun n => bitOf bits.toNat n && !bitOf s.host.dbIn.toNat n)).foldl State.setBell s).mpBells

/-- DB_IN. -/
def execDbIn (bits : W64) (s : State) : Host.Outcome State Fault Refusal := answer s (s.byHost (fun s => s.ringBells bits))

/-- DB_OUT_SET: a bit that rises signals its vector, unless it is masked. -/
def execDbOutSet (n : Fin 64) (s : State) : Host.Outcome State Fault Refusal :=
  let h := s.host
  answer s (if !s.fwRuns || s.dark || bitOf h.dbOut.toNat n then s
    else
      let s : State := { s with host := { h with dbOut := h.dbOut ||| BitVec.ofNat 64 (2 ^ n.val) } }
      if bitOf h.dbOutMask.toNat n then s else s.signal (32 + n.val / 2))

/-! ### Event queues (13 R482, R483) -/

/-- A write of EQ_CTRL: EN is refused for a size outside 6 to 16; WIDE changes only while EN is 0. -/
def State.writeEqCtrl (s : State) (q : Nat) (w : W32) : State :=
  let x := s.eq q
  let was := bitOf x.ctrl.toNat 31
  let size := fld x.size.toNat 0 5
  let en := bitOf w.toNat 31 && (was || (decide (6 ≤ size) && decide (size ≤ 16)))
  let keep := w &&& 0x0000FFFF
  let wide := if was then x.ctrl &&& 0x40000000 else w &&& 0x40000000
  (s.setEq q { x with ctrl := keep ||| wide ||| (if en then 0x80000000 else 0) }).deliver 4096 q

/-- EQ_ENABLE. -/
def execEqEnable (q : Fin 8) (w : W32) (s : State) : Host.Outcome State Fault Refusal := answer s (s.byHost (fun s => s.writeEqCtrl q w))

/-- A write of EQ_CONS: room for records that wait. -/
def State.writeEqCons (s : State) (q : Nat) (w : W32) : State := (s.setEq q { s.eq q with cons := w }).deliver 4096 q

/-- EQ_CONS_WRITE. -/
def execEqConsWrite (q : Fin 8) (w : W32) (s : State) : Host.Outcome State Fault Refusal := answer s (s.byHost (fun s => s.writeEqCons q w))

/-- EQ_COALESCE_TIMER. -/
def execEqCoalesceTimer (q : Fin 8) (s : State) : Host.Outcome State Fault Refusal :=
  let x := s.eq q
  answer s (if bitOf x.ctrl.toNat 31 && fld x.ctrl.toNat 0 8 != 0 && x.unsignalled != 0 then
      (s.setEq q { x with unsignalled := 0 }).signal (1 + q.val)
    else s)

/-! ### MSI-X (13 R475) -/

/-- A vector's mask changes; one that was pending sends its message when it is unmasked. -/
def State.setMask (s : State) (n : Nat) (mask : Bool) : State :=
  let h := s.host
  let bit : W64 := BitVec.ofNat 64 (2 ^ n)
  if mask then { s with host := { h with masked := h.masked ||| bit } }
  else
    let s : State := { s with host := { h with masked := h.masked &&& ~~~ bit, pendingV := h.pendingV &&& ~~~ bit } }
    if bitOf h.pendingV.toNat n then s.emit (.msix n) else s

/-- MSIX_UNMASK. -/
def execMsixUnmask (n : Fin 64) (s : State) : Host.Outcome State Fault Refusal := answer s (s.byHost (fun s => s.setMask n false))

/-! ### Proxy slots (13 R485, R486) -/

/-- The message a proxied request travels in; the driver's client code goes with it (DEDUCED, log entry 58). -/
def State.proxyMsg (s : State) (x : ProxySlot) : SkimMsg :=
  let op := fld x.ctrl.toNat 24 4
  let len := fld x.ctrl.toNat 16 8
  let head := leBytes 1 op ++ leBytes 1 len ++ leBytes 1 clDriver ++ [0] ++ (if op = 8 then zeros 8 else leBytes 8 x.addr.toNat) ++ zeros 4
  let data := (List.range 8).flatMap (fun k => leBytes 4 (Tab.get (fun _ => (0 : W32)) x.data k).toNat)
  mkMsg (if op = 8 then 4 else 3) false 0 0 0 s.pnid (fld x.ctrl.toNat 0 9) (head ++ (if op = 2 ∨ op = 4 ∨ op = 6 ∨ op = 8 then data else []))

/-- GO in PX_CTRL: a request to the module itself is refused, one to another leaves as a skim request. -/
def State.goProxy (s : State) (i : Nat) (w : W32) : State :=
  let x := s.proxy i
  if x.busy then s
  else
    let x := { x with ctrl := w &&& 0x0FFF01FF }
    if fld w.toNat 0 9 = s.pnid then (s.setProxy i { x with done := true, status := BitVec.ofNat 16 stRefused }).signal 26
    else
      let s := (s.setProxy i { x with busy := true }).bump64 Obj.proxyRequests 1
      s.issueRequest (.proxy i) (s.proxyMsg x)

/-- PROXY_GO. -/
def execProxyGo (slot : Fin 8) (w : W32) (s : State) : Host.Outcome State Fault Refusal := answer s (s.byHost (fun s => s.goProxy slot w))

/-! ### Door resets (13 R471; 14 R516; 16 R574) -/

/-- An empty mailbox that keeps its SEQ. -/
def Mailbox.emptied (x : Mailbox) : Mailbox := { Mailbox.reset with seq := x.seq }

/-- The host door is reset: `kind` is 1 for an FLR, 2 for a hot reset, 3 for a lost link. MSI-X returns to every vector masked (PRESUMED, log entry 59). -/
def State.resetDoor (s : State) (kind : Nat) : State :=
  let h := s.host
  let s : State := { s with
    host := { h with
      toMp := h.toMp.map (fun e => (e.1, e.2.emptied)), toHost := h.toHost.map (fun e => (e.1, e.2.emptied)), dbIn := 0, dbOut := 0,
      queues := h.queues.map (fun e => (e.1, { e.2 with ctrl := e.2.ctrl &&& 0x7FFFFFFF, unsignalled := 0 })), engines := [], proxies := [],
      vectors := [], masked := BitVec.allOnes 64, pendingV := 0, linkUp := h.linkUp && kind == 1, link := if kind = 1 then h.link else .down }
    skim := { s.skim with reqs := s.skim.reqs.map (fun r => match r.issuer with | .proxy _ => { r with issuer := .dropped } | _ => r),
                          waiting := s.skim.waiting.filter (fun w => match w.1 with | .proxy _ => false | _ => true) }
    power := { s.power with votes := Tab.set (fun _ => 0) s.power.votes 16 0 } }
  let s := if kind = 1 then s else s.setObj Obj.pcieStatus 0
  let s := ((s.releaseOwner clDriver).endStage clDriver).closeSession 4
  (s.log srcHost 0x00A0 (leBytes 1 kind)).settlePower

/-- PCIE_FLR. -/
def execPcieFlr (s : State) : Host.Outcome State Fault Refusal := answer s (if s.dark then s else s.resetDoor 1)

/-- PCIE_HOT_RESET. -/
def execPcieHotReset (s : State) : Host.Outcome State Fault Refusal := answer s (if s.dark then s else s.resetDoor 2)

/-- PCIE_LINK_LOST. -/
def execPcieLinkLost (s : State) : Host.Outcome State Fault Refusal := answer s (if s.dark then s else s.resetDoor 3)

/-- PERST_N: its fall resets the door as a hot reset does; the link does not train while it is low. -/
def execPerstN (low : Bool) (s : State) : Host.Outcome State Fault Refusal :=
  let t : State := { s with host := { s.host with perst := low } }
  answer s (if low && !s.host.perst && !s.dark then t.resetDoor 2 else t)

/-- PCIE_LINK_TRAINED: records that waited for the link leave. The size the host gives BAR2 as it enumerates is a free choice (DESIGN CHOICE, log
entry 132). -/
def State.linkTrained (s : State) (width : Byte) (gen : BitVec 4) : State :=
  let (f, s) := s.takeFree 4
  let s : State := { s with host := { s.host with linkUp := true, link := .l0, bar2 := 30 + f.toNat % 10 } }
  let s := s.setObj Obj.pcieStatus (width.toNat + gen.toNat * 256)
  s.log srcHost 0x00A1 (leBytes 1 width.toNat ++ leBytes 1 gen.toNat ++ leBytes 1 s.linkState.toNat)

/-- PCIE_LINK_TRAINED. -/
def execPcieLinkTrained (width : Byte) (gen : BitVec 4) (s : State) : Host.Outcome State Fault Refusal :=
  answer s (if s.dark || s.host.perst then s else s.linkTrained width gen)

/-! ### The host sync port (10 R400-R403) -/

/-- SP_OP with OP 1. -/
def execSpOpAdd (w : W64) (s : State) : Host.Outcome State Fault Refusal := answer s (s.byHost (fun s => s.spAdd (spCtx w) (spVid w) (sgn 32 (spArg w))))

/-- SP_OP with OP 2. -/
def execSpOpSet (w : W64) (s : State) : Host.Outcome State Fault Refusal := answer s (s.byHost (fun s => s.spSet (spCtx w) (spVid w) (BitVec.ofNat 32 (spArg w))))

/-- SP_OP with OP 3. -/
def execSpOpArrive (w : W64) (s : State) : Host.Outcome State Fault Refusal := answer s (s.byHost (fun s => s.spArrive (spCtx w) (spVid w)))

/-- SP_RDREQ. -/
def execSpRdreq (w : W32) (s : State) : Host.Outcome State Fault Refusal := answer s (s.byHost (fun s => s.spRead (fld w.toNat 16 4) (fld w.toNat 0 12)))

/-- SP_WATCH. -/
def execSpWatch (w : W64) (s : State) : Host.Outcome State Fault Refusal := answer s (s.byHost (fun s => s.spWatch w))

/-- SP_UNWATCH. -/
def execSpUnwatch (w : W32) (s : State) : Host.Outcome State Fault Refusal :=
  answer s (s.byHost (fun s => s.unwatch (fld w.toNat 16 4) (BitVec.ofNat 16 (fld w.toNat 0 16))))

end Sys2Proof.Machine
end

