-- ==== Sys2Proof/Machine/Bar0.lean ====
section
/-! DEFINITION. BAR0 as a register map: reads, latched halves, staged halves and writes by access code (00 R8, R9; 01 R62-R66; 10 R400-R403; 13 R473-R486;
14 R512-R517). -/
namespace Sys2Proof.Machine
open Sys2Proof

/-! ### Reading (13 R473) -/

/-- Identity block (14 R517). -/
def State.regIdentity (s : State) (o : Nat) : Option (Nat × Nat) :=
  match o with
  | 0x00 => some (4, 0x4A480512)
  | 0x04 => some (4, Config.siliconRev24.toNat)
  | 0x08 => some (4, s.firmwareVersion)
  | 0x0C => some (4, b2n (!s.badPnid) * 2 ^ 31 + s.pnid % 512)
  | 0x10 => some (4, 1)
  | 0x14 => some (4, b2n s.fwRuns + 2 * b2n (s.boot.mp == .restarting))
  | _ => none

/-- A dictionary engine slot's registers (14 R512-R514). -/
def State.regEngine (s : State) (i o : Nat) : Option (Nat × Nat) :=
  let x := s.engine i
  match o with
  | 0x00 => some (4, x.cmd.toNat)
  | 0x04 => some (4, b2n x.busy * 2 ^ 31 + b2n x.done * 2 ^ 30 + x.status.toNat)
  | 0x08 => some (4, x.obj.toNat)
  | 0x0C => some (4, x.len.toNat)
  | 0x10 => some (4, x.offset.toNat)
  | 0x14 => some (4, x.size.toNat)
  | 0x18 => some (4, x.xfer.toNat)
  | 0x20 => some (8, x.addr.toNat)
  | _ => if 0x100 ≤ o ∧ o < 0x200 ∧ o % 4 = 0 then some (4, leNat (Tab.read (fun _ => 0) x.data (o - 0x100) 4)) else none

/-- MB_CTRL (13 R476). -/
def Mailbox.ctrl (x : Mailbox) : Nat := b2n x.full * 2 ^ 30 + b2n x.collision * 2 ^ 29 + x.seq.toNat * 2 ^ 16

/-- A mailbox's registers; MB_ACK is read by `readReg`. -/
def Mailbox.reg (x : Mailbox) (toMp : Bool) (o : Nat) : Option (Nat × Nat) :=
  if o < 0x40 ∧ o % 4 = 0 then some (4, (Tab.get (fun _ => (0 : W32)) x.data (o / 4)).toNat)
  else if o = 0x40 then some (4, x.ctrl)
  else if o = 0x44 then some (4, if toMp then x.ack.toNat else 0)
  else none

/-- FTIME_STATUS; on a time master, whose parent port is 0xFF, the 6-bit field reads 0x3F (01 R63; DESIGN CHOICE, log entry 127). -/
def State.ftimeStatus (s : State) : Nat :=
  let t := s.times
  let parent := if t.alt then s.obj Obj.ftimeAltParentPort else s.obj Obj.ftimeParentPort
  b2n t.locked * 2 ^ 31 + b2n t.holdover * 2 ^ 30 + parent % 64 * 2 ^ 16 + t.offset.toNat

/-- CMP_STATUS (01 R65). -/
def Compare.status (u : Compare) : Nat :=
  u.missed.toNat * 2 ^ 16 + b2n u.overrun * 8 + b2n u.captured * 4 + b2n u.fired * 2 + b2n (u.en && u.armed)

/-- The time block (01 R63). -/
def State.regTime (s : State) (o : Nat) : Option (Nat × Nat) :=
  let t := s.times
  match o with
  | 0x00 => some (4, 0)
  | 0x08 => some (8, t.snapF.toNat)
  | 0x10 => some (8, t.snapH.toNat)
  | 0x18 => some (8, t.snapA.toNat)
  | 0x20 => some (8, t.snapS.toNat)
  | 0x28 => some (8, t.snapN.toNat)
  | 0x30 => some (8, 0)
  | 0x38 => some (4, t.hrate.toNat)
  | 0x40 => some (4, s.ftimeStatus)
  | _ =>
    if 0x100 ≤ o ∧ o < 0x300 then
      let u := s.cmp ((o - 0x100) / 0x20)
      match o % 0x20 with
      | 0x00 => some (4, u.ctrl.toNat)
      | 0x04 => some (4, u.status)
      | 0x08 => some (8, u.target.toNat)
      | 0x10 => some (8, u.period.toNat)
      | 0x18 => some (8, u.capture.toNat)
      | _ => none
    else if 0x300 ≤ o ∧ o < 0x700 then
      let c := (o - 0x300) / 0x40
      match (o - 0x300) % 0x40 with
      | 0x00 => some (8, (s.stime48 c).toNat)
      | 0x08 => some (8, (s.ctx c).step.toNat)
      | 0x10 => some (4, s.holdState c)
      | _ => none
    else none

/-- The sync port (10 R400, R402, R403). -/
def State.regSync (s : State) (o : Nat) : Option (Nat × Nat) :=
  let y := s.sync
  match o with
  | 0x00 => some (8, 0)
  | 0x08 => some (4, 0)
  | 0x10 => some (8, b2n y.rdDone * 2 ^ 63 + y.rdStatus.toNat * 2 ^ 32 + y.rdValue.toNat)
  | 0x18 => some (8, 0)
  | 0x20 => some (4, b2n y.wDone * 2 ^ 31 + b2n y.wFail * 2 ^ 30 + y.wHandle.toNat)
  | 0x28 => some (4, 0)
  | 0x30 => some (4, y.last.toNat * 2 ^ 16 + b2n y.busy * 4 + b2n y.refused * 2 + b2n y.nojob)
  | _ => none

/-- Doorbells (13 R480). -/
def State.regBells (s : State) (o : Nat) : Option (Nat × Nat) :=
  let h := s.host
  match o with
  | 0x00 => some (8, h.dbIn.toNat)
  | 0x08 => some (8, h.dbOut.toNat)
  | 0x10 => some (8, h.dbOutMask.toNat)
  | 0x18 => some (8, h.dbInMask.toNat)
  | _ => none

/-- An event queue's registers (13 R482). -/
def State.regQueue (s : State) (q o : Nat) : Option (Nat × Nat) :=
  let x := s.eq q
  match o with
  | 0x00 => some (8, x.base.toNat)
  | 0x08 => some (4, x.size.toNat)
  | 0x0C => some (4, x.ctrl.toNat)
  | 0x10 => some (4, x.prod.toNat)
  | 0x14 => some (4, x.cons.toNat)
  | 0x18 => some (4, 2 * b2n x.dmaErr + b2n x.stalled)
  | _ => none

/-- A proxy slot's registers (13 R486). -/
def State.regProxy (s : State) (i o : Nat) : Option (Nat × Nat) :=
  let x := s.proxy i
  match o with
  | 0x00 => some (4, x.ctrl.toNat)
  | 0x04 => some (4, b2n x.busy * 2 ^ 31 + b2n x.done * 2 ^ 30 + x.status.toNat)
  | 0x08 => some (8, x.addr.toNat)
  | _ => if 0x20 ≤ o ∧ o < 0x40 ∧ o % 4 = 0 then some (4, (Tab.get (fun _ => (0 : W32)) x.data ((o - 0x20) / 4)).toNat) else none

/-- The MSI-X table: the mask stands in bit 0 of each entry's last word. -/
def State.regMsix (s : State) (o : Nat) : Option (Nat × Nat) :=
  if o < 0x400 ∧ o % 4 = 0 then
    some (4, if o % 16 = 12 then b2n (bitOf s.host.masked.toNat (o / 16)) else (Tab.get (fun _ => (0 : W32)) s.host.vectors (o / 4)).toNat)
  else if o = 0x1000 then some (8, s.host.pendingV.toNat)
  else none

/-- Width in bytes and value of the register at an offset of BAR0; none where no register begins. -/
def State.reg (s : State) (off : Nat) : Option (Nat × Nat) :=
  let o := off % 0x10000
  match off / 0x10000 with
  | 0 => s.regIdentity o
  | 1 => if o < 0x1000 then s.regEngine (o / 0x200) (o % 0x200) else none
  | 2 => if o < 0x800 then (s.mbIn (o / 0x100)).reg true (o % 0x100)
    else if o < 0x1000 then (s.mbOut ((o - 0x800) / 0x100)).reg false (o % 0x100) else none
  | 3 => s.regBells o
  | 4 => s.regTime o
  | 5 => s.regSync o
  | 6 => if o < 0x200 then s.regQueue (o / 0x40) (o % 0x40) else none
  | 7 => if o < 0x400 then s.regProxy (o / 0x80) (o % 0x80) else none
  | 8 => s.regMsix o
  | _ => none

/-- The host-to-MP mailbox whose MB_ACK stands at an offset. -/
def ackMailbox (off : Nat) : Option Nat :=
  if 0x20000 ≤ off ∧ off < 0x20800 ∧ off % 0x100 = 0x44 then some ((off - 0x20000) / 0x100) else none

/-- A 32-bit read: the lower half of a 64-bit register latches its upper half, which the next read of the upper half returns
(00 R9). With no latch standing it returns the present upper half (DESIGN CHOICE, log entry 127). -/
def State.read32 (s : State) (off : Nat) : Nat × State :=
  match ackMailbox off with
  | some m =>
    let (w, s) := s.mailAck m
    (w.toNat, s)
  | none => match s.reg off with
    | some (8, v) =>
      (v % 2 ^ 32, { s with times := { s.times with latches := (off, BitVec.ofNat 32 (v / 2 ^ 32)) :: s.times.latches.filter (fun e => e.1 != off) } })
    | some (_, v) => (v, s)
    | none => match s.reg (off - 4) with
      | some (8, v) =>
        if 4 ≤ off then (match s.times.latches.find? (fun e => e.1 == off - 4) with
          | some (_, w) => (w.toNat, { s with times := { s.times with latches := s.times.latches.filter (fun e => e.1 != off - 4) } })
          | none => (v / 2 ^ 32, s))
        else (0, s)
      | _ => (0, s)

/-- A read of 4 or 8 bytes; a 64-bit read of a 64-bit register takes it whole, and of two 32-bit registers takes both. -/
def State.bar0Read (s : State) (off len : Nat) : List Byte × State :=
  let s := if off / 0x10000 = 5 then s.rdSettle.wSettle else s
  if off % len ≠ 0 then (zeros len, s)
  else if len = 8 then
    (match s.reg off with
      | some (8, v) => (leBytes 8 v, s)
      | _ =>
        let (a, s) := s.read32 off
        let (b, s) := s.read32 (off + 4)
        (leBytes 4 a ++ leBytes 4 b, s))
  else
    let (a, s) := s.read32 off
    (leBytes 4 a, s)

/-- LATCHED_READ: a 32-bit read. -/
def execLatchedRead (off : BitVec 24) (s : State) : Host.Outcome State Fault Refusal :=
  answer s (s.byHost (fun s =>
    let (b, t) := s.bar0Read off.toNat 4
    t.emit (.readData b)))

/-! ### Writing: 64-bit registers -/

/-- Whether a client owns a compare unit. -/
def State.ownsCmp (s : State) (client : Byte) (n : Nat) : Bool := s.obj (Obj.cmpOwner n) == client.toNat

/-- A compare unit takes a new target; an enabled one waits for it (01 R58; DEDUCED, log entry 60). -/
def Compare.setTarget (u : Compare) (v : W64) : Compare := { u with target := v, armed := u.armed || (u.en && decide (u.mode < 2)) }

/-- A write of CMP_CTRL: EN going to 1 clears MISSED; a write with EN arms the unit again (01 R64, R65). -/
def Compare.setCtrl (u : Compare) (v : W32) : Compare :=
  let w := { u with ctrl := v, missed := if bitOf v.toNat 31 && !u.en then 0 else u.missed }
  { w with armed := w.en && decide (w.mode < 2) }

/-- A write of a whole 64-bit register of the time block. A unit of another owner refuses it (01 R60). -/
def State.writeTime64 (s : State) (client : Byte) (o : Nat) (v : W64) : State :=
  let n := (o - 0x100) / 0x20
  if o = 0x30 then { s with times := { s.times with htime := s.times.htime + v } }
  else if 0x100 ≤ o ∧ o < 0x300 ∧ (o % 0x20 = 8 ∨ o % 0x20 = 0x10) then
    if !s.ownsCmp client n then s.withStatus stHeld
    else if o % 0x20 = 8 then s.onCmp n (fun u => u.setTarget v)
    else s.onCmp n (fun u => { u with period := v })
  else s

/-- SP_OP: an undefined OP is refused (10 R401, R403). -/
def State.writeSpOp (s : State) (w : W64) : State :=
  match fld w.toNat 28 4 with
  | 1 => s.spAdd (spCtx w) (spVid w) (sgn 32 (spArg w))
  | 2 => s.spSet (spCtx w) (spVid w) (BitVec.ofNat 32 (spArg w))
  | 3 => s.spArrive (spCtx w) (spVid w)
  | _ => { s with sync := { s.sync with refused := true, last := BitVec.ofNat 16 stRefused } }

/-- A write of a whole 64-bit register. Low address bits that a 64-byte alignment fixes are dropped. -/
def State.write64 (s : State) (client : Byte) (off : Nat) (v : W64) : State :=
  let o := off % 0x10000
  match off / 0x10000 with
  | 1 =>
    let x := s.engine (o / 0x200)
    if x.busy then s else s.setEngine (o / 0x200) { x with addr := v &&& ~~~ 63 }
  | 3 =>
    let h := s.host
    (match o with
      | 0x00 => s.ringBells v
      | 0x08 => { s with host := { h with dbOut := h.dbOut &&& ~~~ v } }
      | 0x10 => { s with host := { h with dbOutMask := v } }
      | 0x18 => ({ s with host := { h with dbInMask := v } } : State).mpBells
      | _ => s)
  | 4 => s.writeTime64 client o v
  | 5 => if o = 0 then s.writeSpOp v else if o = 0x18 then s.spWatch v else s
  | 6 =>
    let x := s.eq (o / 0x40)
    if o % 0x40 = 0 ∧ !bitOf x.ctrl.toNat 31 then s.setEq (o / 0x40) { x with base := v &&& ~~~ 63 } else s
  | 7 =>
    let x := s.proxy (o / 0x80)
    if x.busy then s else s.setProxy (o / 0x80) { x with addr := v }
  | _ => s

/-! ### Writing: 32-bit registers -/

/-- A write of an engine slot's 32-bit register; a WRITE by DMA that only a register write started has no data with it: its bytes are free. -/
def State.writeEngine (s : State) (i o : Nat) (v : W32) : State :=
  let x := s.engine i
  if x.busy then s
  else match o with
    | 0x04 => s.setEngine i { x with done := x.done && !bitOf v.toNat 30 }
    | 0x00 =>
      if bitOf v.toNat 31 then
        if bitOf v.toNat 17 && fld v.toNat 24 4 == 2 then
          let (l, s) := s.freeBytes (min x.len.toNat 0x1000000)
          s.goSlot i v l
        else s.goSlot i v []
      else s.setEngine i { x with cmd := v &&& 0x0F030001 }
    | 0x08 => s.setEngine i { x with obj := v &&& 0x00FFFFFF }
    | 0x0C => s.setEngine i { x with len := v }
    | 0x10 => s.setEngine i { x with offset := v }
    | _ => if 0x100 ≤ o then s.setEngine i { x with data := Tab.write (fun _ => 0) x.data (o - 0x100) (leBytes 4 v.toNat) } else s

/-- A write of a mailbox register: GO and the data of a host-to-MP mailbox, COLLISION of both, MB_HACK. -/
def State.writeMailbox (s : State) (toMp : Bool) (m o : Nat) (v : W32) : State :=
  if o = 0x40 then
    if toMp then
      let x := s.mbIn m
      let s := s.setMbIn m { x with collision := x.collision && !bitOf v.toNat 29 }
      if bitOf v.toNat 31 then s.mailGo m else s
    else
      let x := s.mbOut m
      s.setMbOut m { x with collision := x.collision && !bitOf v.toNat 29 }
  else if o = 0x44 then (if toMp then s else s.mailHack m v)
  else if toMp && decide (o < 0x40) then s.mailData m (o / 4) v
  else s

/-- A write of a 32-bit register of the time block. -/
def State.writeTime32 (s : State) (client : Byte) (o : Nat) (v : W32) : State :=
  let n := (o - 0x100) / 0x20
  if o = 0 then (if bitOf v.toNat 0 then s.snap (fld v.toNat 8 4) else s)
  else if o = 0x38 then { s with times := { s.times with hrate := v } }
  else if 0x100 ≤ o ∧ o < 0x300 ∧ (o % 0x20 = 0 ∨ o % 0x20 = 4) then
    if !s.ownsCmp client n then s.withStatus stHeld
    else if o % 0x20 = 0 then s.onCmp n (fun u => u.setCtrl v)
    else s.onCmp n (fun u => { u with overrun := u.overrun && !bitOf v.toNat 3, captured := u.captured && !bitOf v.toNat 2,
                                      fired := u.fired && !bitOf v.toNat 1 })
  else s

/-- A write of a 32-bit register of the sync port. -/
def State.writeSync32 (s : State) (o : Nat) (v : W32) : State :=
  match o with
  | 0x08 => s.spRead (fld v.toNat 16 4) (fld v.toNat 0 12)
  | 0x28 => s.unwatch (fld v.toNat 16 4) (BitVec.ofNat 16 (fld v.toNat 0 16))
  | 0x30 => { s with sync := { s.sync with busy := s.sync.busy && !bitOf v.toNat 2, refused := s.sync.refused && !bitOf v.toNat 1,
                                           nojob := s.sync.nojob && !bitOf v.toNat 0 } }
  | _ => s

/-- A write of an event queue's 32-bit register. -/
def State.writeQueue (s : State) (q o : Nat) (v : W32) : State :=
  let x := s.eq q
  match o with
  | 0x08 => if bitOf x.ctrl.toNat 31 then s else s.setEq q { x with size := v &&& 0x1F }
  | 0x0C => s.writeEqCtrl q v
  | 0x14 => s.writeEqCons q v
  | 0x18 => s.setEq q { x with dmaErr := x.dmaErr && !bitOf v.toNat 1 }
  | _ => s

/-- A write of a proxy slot's 32-bit register. -/
def State.writeProxy (s : State) (i o : Nat) (v : W32) : State :=
  let x := s.proxy i
  if x.busy then s
  else if o = 4 then s.setProxy i { x with done := x.done && !bitOf v.toNat 30 }
  else if o = 0 then (if bitOf v.toNat 31 then s.goProxy i v else s.setProxy i { x with ctrl := v &&& 0x0FFF01FF })
  else if 0x20 ≤ o ∧ o < 0x40 then s.setProxy i { x with data := Tab.set (fun _ => 0) x.data ((o - 0x20) / 4) v }
  else s

/-- A write of a whole 32-bit register. -/
def State.writeReg32 (s : State) (client : Byte) (off : Nat) (v : W32) : State :=
  let o := off % 0x10000
  match off / 0x10000 with
  | 1 => s.writeEngine (o / 0x200) (o % 0x200) v
  | 2 => if o < 0x800 then s.writeMailbox true (o / 0x100) (o % 0x100) v else s.writeMailbox false ((o - 0x800) / 0x100) (o % 0x100) v
  | 4 => s.writeTime32 client o v
  | 5 => s.writeSync32 o v
  | 6 => s.writeQueue (o / 0x40) (o % 0x40) v
  | 7 => s.writeProxy (o / 0x80) (o % 0x80) v
  | 8 =>
    if 0x400 ≤ o then s
    else if o % 16 = 12 then s.setMask (o / 16) (bitOf v.toNat 0)
    else { s with host := { s.host with vectors := Tab.set (fun _ => 0) s.host.vectors (o / 4) v } }
  | _ => s

/-! ### Halves (01 R62; 10 R400) -/

/-- Whether the halves of a 64-bit register are staged: compare units, the sync port, and HTIME_STEP (DEDUCED, log entry 61). -/
def stagesHalves (off : Nat) : Bool := off / 0x10000 == 4 || off / 0x10000 == 5

/-- Whether a 64-bit register acts on the bits written as 1: of a half, only these count. -/
def actsOnOnes (off : Nat) : Bool := off == 0x30000 || off == 0x30008

/-- The unit a staged half belongs to refuses a client that does not own it. -/
def State.mayStage (s : State) (client : Byte) (off : Nat) : Bool :=
  let o := off % 0x10000
  off / 0x10000 != 4 || decide (o < 0x100) || decide (0x300 ≤ o) || s.ownsCmp client ((o - 0x100) / 0x20)

/-- The lower half of a 64-bit register is written. -/
def State.writeLow (s : State) (client : Byte) (off old : Nat) (v : W32) : State :=
  if stagesHalves off then
    if s.mayStage client off then { s with times := { s.times with staged := (off, v) :: s.times.staged.filter (fun e => e.1 != off) } }
    else s.withStatus stHeld
  else s.write64 client off (BitVec.ofNat 64 ((if actsOnOnes off then 0 else old / 2 ^ 32 * 2 ^ 32) + v.toNat))

/-- The upper half: with the staged lower half, or the one the register holds. -/
def State.writeHigh (s : State) (client : Byte) (off old : Nat) (v : W32) : State :=
  let low : Nat := if actsOnOnes off then 0 else match s.times.staged.find? (fun e => e.1 == off) with
    | some (_, w) => w.toNat
    | none => old % 2 ^ 32
  let s := { s with times := { s.times with staged := s.times.staged.filter (fun e => e.1 != off) } }
  s.write64 client off (BitVec.ofNat 64 (v.toNat * 2 ^ 32 + low))

/-- A 32-bit write. -/
def State.write32 (s : State) (client : Byte) (off : Nat) (v : W32) : State :=
  match s.reg off with
  | some (8, old) => s.writeLow client off old v
  | some _ => s.writeReg32 client off v
  | none => match s.reg (off - 4) with
    | some (8, old) => if 4 ≤ off then s.writeHigh client (off - 4) old v else s
    | _ => s

/-- A write of 4 or 8 bytes to BAR0 by a client; one that is not naturally aligned is discarded. -/
def State.bar0Write (s : State) (client : Byte) (off len : Nat) (v : W64) : State :=
  if off % len ≠ 0 then s
  else if len = 8 then
    (match s.reg off with
      | some (8, _) => s.write64 client off v
      | _ => (s.write32 client off (v.setWidth 32)).write32 client (off + 4) ((v >>> 32).setWidth 32))
  else s.write32 client off (v.setWidth 32)

/-- REGISTER_WRITE, by the driver. -/
def execRegisterWrite (off : BitVec 24) (wide : Bool) (value : W64) (s : State) : Host.Outcome State Fault Refusal :=
  answer s (s.byHost (fun s => s.bar0Write (BitVec.ofNat 8 clDriver) off.toNat (if wide then 8 else 4) value))

/-- STAGED_HALF_WRITE: a 32-bit write of a lower half. -/
def execStagedHalfWrite (off : BitVec 24) (value : W32) (s : State) : Host.Outcome State Fault Refusal :=
  answer s (s.byHost (fun s => s.bar0Write (BitVec.ofNat 8 clDriver) off.toNat 4 (value.setWidth 64)))

end Sys2Proof.Machine
end

