-- ==== Sys2Proof/Machine/Can.lean ====
section
/-! DEFINITION. The management door over CAN FD: requests, segmented transfers, duplicates, heartbeats (14 R520-R529). -/
namespace Sys2Proof.Machine
open Sys2Proof

/-! ### Frames (R521-R524) -/

/-- A request frame. -/
structure CanReq where
  cmd   : Nat
  tid   : Nat
  ix    : Nat
  sub   : Nat
  grant : Nat                            -- the window granted for segments
  off   : Nat
  len   : Nat
  data  : List Byte
  deriving DecidableEq, Repr

/-- The fields of a request frame. -/
def canReq (f : List Byte) : CanReq :=
  { cmd := leAt f 0 1, tid := leAt f 1 1, ix := leAt f 2 2, sub := leAt f 4 1, grant := leAt f 5 1 % 16 + 1, off := leAt f 8 4, len := leAt f 12 4,
    data := padTo 48 (f.drop 16) }

/-- A response frame: flags are bit 0 SEG, bit 1 SEND, bits 7:4 the window (R523). -/
def canResponse (q : CanReq) (status flags count : Nat) (data : List Byte) : List Byte :=
  leBytes 1 (q.cmd + 0x80) ++ leBytes 1 q.tid ++ leBytes 2 status ++ leBytes 2 q.ix ++ leBytes 1 q.sub ++ leBytes 1 flags ++ leBytes 4 count ++ data

/-- Sends a frame of the door's answers. -/
def State.canSend (s : State) (f : List Byte) : State := s.sendCan (0x400 + s.pnid) f

/-- A BLOCK_ACK. -/
def ackFrame (tid : Byte) (seq window : Nat) : List Byte := [6, tid] ++ leBytes 1 seq ++ leBytes 1 window
/-- An ABORT. -/
def abortFrame (tid : Byte) (status : Nat) : List Byte := [7, tid] ++ leBytes 2 status

/-! ### Segmented transfers (R525) -/

/-- The bytes of segment k, from 1, of a read: 52 went with the response. -/
def CanXfer.part (x : CanXfer) (k : Nat) : List Byte := slice x.data (52 + 60 * (k - 1)) 60

/-- How many segments a read takes. -/
def CanXfer.segments (x : CanXfer) : Nat := ceilDiv (x.data.length - 52) 60

/-- Sends the next n segments of a read. -/
def State.sendSegments : Nat → State → CanXfer → CanXfer × State
  | 0, s, x => (x, s)
  | n + 1, s, x =>
    let d := x.part (x.seq + 1)
    State.sendSegments n (s.canSend ([5, x.tid] ++ leBytes 1 (x.seq + 1) ++ leBytes 1 d.length ++ d)) { x with seq := x.seq + 1 }

/-- Sends what the window lets a read send. -/
def State.pushSegments (s : State) (x : CanXfer) : State :=
  let (x, s) := State.sendSegments (min x.segments (x.acked + x.window) - x.seq) s x
  { s with can := { s.can with xfer := some x } }

/-- CAN_TRANSFER_ABORT; `by_` is 0 for the module, 1 for the chassis manager. -/
def State.dropXfer (s : State) (x : CanXfer) (status by_ : Nat) : State :=
  ({ s with can := { s.can with xfer := none } }).log srcCan 0x00B3
    (leBytes 2 status ++ leBytes 2 x.ix.toNat ++ leBytes 1 x.sub.toNat ++ leBytes 1 x.tid.toNat ++ leBytes 1 by_ ++ [0] ++ leBytes 4 x.applied)

/-- The module gives a transfer up. -/
def State.abortXfer (s : State) (x : CanXfer) : State := (s.canSend (abortFrame x.tid stAborted)).dropXfer x stAborted 0

/-- A read is sent again from its last acknowledged segment on; the fourth time in a row it is given up. -/
def State.resendSegments (s : State) (x : CanXfer) : State :=
  if 3 ≤ x.repeats then s.abortXfer x else s.pushSegments { x with seq := x.acked, repeats := x.repeats + 1 }

/-- The request a transfer began with, for its second response. -/
def CanXfer.req (x : CanXfer) : CanReq := ⟨2, x.tid.toNat, x.ix.toNat, x.sub.toNat, 1, x.off, x.total, []⟩

/-- Applies what a write has gathered: whole chunks of 4 KiB, and the rest once every byte is there. The last one, or one that is refused, ends
the transfer with the second response (R508). -/
def State.applyChunks : Nat → State → CanXfer → State
  | 0, s, x => { s with can := { s.can with xfer := some x } }
  | n + 1, s, x =>
    let last := decide (x.total ≤ x.applied + x.data.length)
    let size := if 4096 ≤ x.data.length then 4096 else if last then x.total - x.applied else 0
    if size = 0 then { s with can := { s.can with xfer := some x } }
    else
      let t := s.writeObj canDoor x.ix.toNat x.sub.toNat (x.off + x.applied) (x.data.take size)
      let x := { x with data := x.data.drop size }
      if t.host.status ≠ 0 then ({ t with can := { t.can with xfer := none } } : State).canSend (canResponse x.req t.host.status.toNat 0 x.applied [])
      else
        let x := { x with applied := x.applied + size }
        if x.total ≤ x.applied then ({ t with can := { t.can with xfer := none } } : State).canSend (canResponse x.req stSuccess 0 x.applied [])
        else State.applyChunks n t x

/-! ### Requests (R522, R523, R526) -/

/-- READ, DESC, NEXT, or a WRITE that fits its frame: the response, and whether the request was expedited. What resets the module is answered first. -/
def State.canExpedite (s : State) (q : CanReq) : List Byte × Bool × State :=
  let (r, t) := s.request canDoor q.cmd q.ix q.sub q.off q.len (q.data.take q.len)
  if r.status ≠ stSuccess then (canResponse q r.status 0 0 [], true, t)
  else match q.cmd with
    | 1 =>
      if r.data.length ≤ 52 then (canResponse q stSuccess 0 r.data.length r.data, true, t)
      else if t.can.xfer.isSome then (canResponse q stHeld 0 0 [], false, t)
      else
        let x : CanXfer := { write := false, tid := BitVec.ofNat 8 q.tid, ix := BitVec.ofNat 16 q.ix, sub := BitVec.ofNat 8 q.sub, off := q.off,
                             total := r.data.length, data := r.data, seq := 0, acked := 0, window := q.grant, applied := 0, repeats := 0 }
        (canResponse q stSuccess 1 r.data.length (r.data.take 52), false, { t with can := { t.can with xfer := some x } })
    | 2 => (canResponse q stSuccess 0 q.len [], true, t)
    | _ => (canResponse q stSuccess 0 0 r.data, true, t)

/-- A WRITE of more than 48 bytes: refused, or opened with SEND. -/
def State.canOpenWrite (s : State) (q : CanReq) : List Byte × Bool × State :=
  if 0x1000000 < q.len then (canResponse q stRefused 0 0 [], true, s.withStatus stRefused)
  else match s.writeGate canDoor q.ix q.sub q.off q.len q.data with
    | .error st => (canResponse q st 0 0 [], true, s.withStatus st)
    | .ok _ =>
      if s.can.xfer.isSome then (canResponse q stHeld 0 0 [], false, s.withStatus stHeld)
      else
        let w := s.obj Obj.canBlock
        let x : CanXfer := { write := true, tid := BitVec.ofNat 8 q.tid, ix := BitVec.ofNat 16 q.ix, sub := BitVec.ofNat 8 q.sub, off := q.off,
                             total := q.len, data := q.data, seq := 0, acked := 0, window := w, applied := 0, repeats := 0 }
        (canResponse q stSuccess (2 + 16 * (w - 1)) 0 [], false,
          { s.bump64 Obj.dictRequests 1 with can := { s.can with xfer := some x } }.ok)

/-- A request's answer. On 0x3FF only an expedited WRITE is served. -/
def State.canServe (s : State) (bcast : Bool) (q : CanReq) : List Byte × Bool × State :=
  if q.cmd = 0 ∨ 4 < q.cmd ∨ (bcast ∧ (q.cmd ≠ 2 ∨ 48 < q.len)) then (canResponse q stRefused 0 0 [], true, s.withStatus stRefused)
  else if q.cmd = 2 ∧ 48 < q.len then s.canOpenWrite q
  else s.canExpedite q

/-- Whether a request resets the module. -/
def CanReq.resets (q : CanReq) : Bool :=
  q.cmd == 2 && (256 * q.ix + q.sub == Obj.moduleReset || 256 * q.ix + q.sub == Obj.offRequest)

/-- Keeps an expedited request with its response. -/
def CanUnit.keep (u : CanUnit) (bcast : Bool) (req rsp : List Byte) : CanUnit :=
  if bcast then { u with reqAll := req, rspAll := rsp } else { u with reqOwn := req, rspOwn := rsp }

/-- A request frame: one equal to the last expedited one gets its response again; another is served and answered. One that resets the module or
disables the door is answered while the door still sends (R523; DEDUCED, log entry 100). -/
def State.canRequest (s : State) (bcast : Bool) (f : List Byte) : State :=
  let (req, rsp) := if bcast then (s.can.reqAll, s.can.rspAll) else (s.can.reqOwn, s.can.rspOwn)
  if f = req ∧ f ≠ [] then (s.canSend rsp).bump32 Obj.canDuplicates 1
  else
    let q := canReq f
    let (r, once, t) := s.canServe bcast q
    if (q.resets ∨ t.obj Obj.canEnable ≠ 1) ∧ t.succeeded then
      let t := ((s.canSend r).canServe bcast q).2.2
      if once ∧ !q.resets then { t with can := t.can.keep bcast f r } else t
    else
      let t := (if once then ({ t with can := t.can.keep bcast f r } : State) else t).canSend r
      match t.can.xfer with
      | some x => if s.can.xfer.isNone && !x.write then t.pushSegments x else t
      | none => t

/-- A frame addressed to the module, while its door is open, enabled and on the bus: it wakes the module, and is counted (R520, R529; 12 R466). -/
def State.onFrame (s : State) (f : State → State) : State :=
  if !s.can.isOpen || s.can.busOff || s.power.off || s.power.fail == .committed || s.obj Obj.canEnable != 1 then s
  else (f ((s.wake 2).bump64 Obj.canFramesRx 1)).busErrors

/-- A frame with the CMD of its row; a frame whose CMD no rule defines stays as it is, to be answered with VALUE_REFUSED (R523). -/
def rowFrame (cmd : Byte) (f : List Byte) : List Byte := if 1 ≤ leAt f 0 1 ∧ leAt f 0 1 ≤ 7 then cmd :: f.drop 1 else f

/-- CAN_READ. -/
def execCanRead (bcast : Bool) (frame : List Byte) (s : State) : Host.Outcome State Fault Refusal :=
  answer s (s.onFrame (fun s => s.canRequest bcast (rowFrame 1 frame)))

/-- CAN_WRITE. -/
def execCanWrite (bcast : Bool) (frame : List Byte) (s : State) : Host.Outcome State Fault Refusal :=
  answer s (s.onFrame (fun s => s.canRequest bcast (rowFrame 2 frame)))

/-- CAN_DESC. -/
def execCanDesc (bcast : Bool) (frame : List Byte) (s : State) : Host.Outcome State Fault Refusal :=
  answer s (s.onFrame (fun s => s.canRequest bcast (rowFrame 3 frame)))

/-- CAN_NEXT. -/
def execCanNext (bcast : Bool) (frame : List Byte) (s : State) : Host.Outcome State Fault Refusal :=
  answer s (s.onFrame (fun s => s.canRequest bcast (rowFrame 4 frame)))

/-! ### Segments, acknowledgements, timeouts (R524, R525) -/

/-- A SEGMENT for the open write: in order it is taken, and acknowledged when the window is used up or it is the last; otherwise the last one in
order is acknowledged again. -/
def State.takeSegment (s : State) (x : CanXfer) (f : List Byte) : State :=
  let n := leAt f 3 1
  if leAt f 2 1 ≠ (x.seq + 1) % 256 ∨ n = 0 ∨ 60 < n then
    let s := s.canSend (ackFrame x.tid x.seq x.window)
    { s with can := { s.can with xfer := some { x with acked := x.seq } } }
  else
    let room := x.total - x.applied - x.data.length
    let x := { x with data := x.data ++ padTo (min n room) (f.drop 4), seq := x.seq + 1, repeats := 0 }
    let full := decide (x.total ≤ x.applied + x.data.length)
    let ack := full || x.seq == x.acked + x.window
    let x := if ack then { x with acked := x.seq } else x
    let s := if ack then s.canSend (ackFrame x.tid x.seq x.window) else s
    State.applyChunks 2 s x

/-- SEGMENT. -/
def execSegment (frame : List Byte) (s : State) : Host.Outcome State Fault Refusal :=
  answer s (s.onFrame (fun s => match s.can.xfer with
    | some x => if x.write && leAt frame 1 1 == x.tid.toNat then s.takeSegment x frame else s
    | none => s))

/-- A BLOCK_ACK for the open read: every segment acknowledged ends it; fewer than were sent are sent again from there on. -/
def State.takeAck (s : State) (x : CanXfer) (f : List Byte) : State :=
  let seq := leAt f 2 1
  let w := leAt f 3 1
  match (List.range (x.seq + 1 - x.acked)).find? (fun k => (x.acked + k) % 256 == seq) with
  | none => s
  | some k =>
    let a := x.acked + k
    if w = 0 ∨ 16 < w then s
    else if x.segments ≤ a then { s with can := { s.can with xfer := none } }
    else if a = x.seq then s.pushSegments { x with acked := a, window := w, repeats := 0 }
    else s.resendSegments { x with acked := a, window := w, repeats := if k = 0 then x.repeats else 0 }

/-- BLOCK_ACK. -/
def execBlockAck (frame : List Byte) (s : State) : Host.Outcome State Fault Refusal :=
  answer s (s.onFrame (fun s => match s.can.xfer with
    | some x => if !x.write && leAt frame 1 1 == x.tid.toNat then s.takeAck x frame else s
    | none => s))

/-- ABORT: the open transfer stops; what was applied stays. -/
def execAbort (frame : List Byte) (s : State) : Host.Outcome State Fault Refusal :=
  answer s (s.onFrame (fun s => match s.can.xfer with
    | some x => if leAt frame 1 1 == x.tid.toNat then s.dropXfer x (leAt frame 2 2) 1 else s
    | none => s))

/-- CAN_SEG_TIMEOUT passes: a read is sent again, a write's last BLOCK_ACK is repeated, three times at most. -/
def State.segTimeout (s : State) (x : CanXfer) : State :=
  if !x.write then s.resendSegments x
  else if 3 ≤ x.repeats then s.abortXfer x
  else
    let s := s.canSend (ackFrame x.tid x.acked x.window)
    { s with can := { s.can with xfer := some { x with repeats := x.repeats + 1 } } }

/-- CAN_SEG_TIMEOUT. -/
def execCanSegTimeout (s : State) : Host.Outcome State Fault Refusal :=
  answer s (match s.can.xfer with
    | some x => if s.dark then s else s.segTimeout x
    | none => s)

/-! ### Heartbeats and bus-off (R520, R527) -/

/-- HEARTBEAT: in RUN, IDLE and SLEEP. -/
def execHeartbeat (s : State) : Host.Outcome State Fault Refusal := answer s (if s.dark then s else s.beat)

/-- CAN_BUS_OFF_RECOVERY: recovery is logged and the door is error-active again, its error counts zero (DESIGN CHOICE, log entry 62). -/
def execCanBusOffRecovery (s : State) : Host.Outcome State Fault Refusal :=
  answer s (if s.dark || !s.can.isOpen || !s.can.busOff then s
    else ((({ s with can := { s.can with busOff := false, tec := 0, rec_ := 0 } }).log srcCan 0x00B2 [3, 0, 0]).log srcCan 0x00B2 [0, 0, 0]))

end Sys2Proof.Machine
end

