-- ==== Sys2Proof/Machine/EngineIssue.lean ====
section
/-! DEFINITION. Issue of the compute instructions of formats M, P and X: fields, captured registers, queue room (06 R204-R206, R218-R229,
R237-R249). -/
namespace Sys2Proof.Machine
open Sys2Proof

/-! ### Checks -/

/-- Depth of an engine's queue (R204). -/
def queueDepth : Engine → Nat
  | .transfer => 8
  | _ => 2

/-- A function code, format or type not defined (R210). -/
def badFormat (b : Bool) : Bool × Nat := (b, 0x84)

/-- A region given by registers that runs beyond vat SRAM; its address lies in vat SRAM even where it holds no byte (R211, R243; DESIGN CHOICE,
log entry 15). -/
def overrun (a n : Nat) : Option EngFault := if vatSize < a + max n 1 then some (beyond a) else none

/-- An address given by a register that is not aligned. -/
def askew (a al : Nat) : Option EngFault := if a % al ≠ 0 then some (boundsFault a al 0x82) else none

/-- A length that is zero or no multiple of its unit: the region is misaligned (DESIGN CHOICE, log entry 15). -/
def badLength (a n unit : Nat) : Option EngFault := if n = 0 ∨ n % unit ≠ 0 then some (boundsFault a unit 0x82) else none

/-- A range of a space: beyond pail SRAM or beyond vat SRAM (R243). -/
def spaceOverrun (space a n : Nat) : Option EngFault :=
  if space = 1 then (if pailSize < a + max n 1 then some (boundsFault (max a pailSize) 0 0x81) else none) else overrun a n

/-- A count or size in a register outside its range (R206, R212). -/
def badCount (b : Bool) (addr struct n : Nat) : Option EngFault := if b then some (descFault addr struct 2 0 (leBytes 4 n)) else none

/-- The memory address of a place in a space, whichever vat it names. -/
def placeIn (v space a id : Nat) : Option Nat :=
  match space with
  | 0 => some (vatBase v + a)
  | 1 => some a
  | _ => (vatOfId (id % 512)).map (fun t => vatBase t + a)

/-- A source and a destination that overlap in the same memory (R244). -/
def copyOverlap (v : Nat) (o : EngineOp) : Option EngFault :=
  match placeIn v (xSrc o.w) o.a1.toNat o.s1.toNat, placeIn v (xDst o.w) o.a0.toNat o.s1.toNat with
  | some a, some d => if a < d + o.s0.toNat ∧ d < a + o.s0.toNat then some (descFault o.a1.toNat 10 6 0 []) else none
  | _, _ => none

/-- The first register check that fails. -/
def firstBad (l : List (Option EngFault)) : Option EngFault := l.findSome? id

/-- Issue of an instruction bound for a queue: room, then the register checks, then its entry with the captured registers (R204, R206; DEDUCED, log entry 19). -/
def issueEngine (s : State) (v op : Nat) (w : Word56) (check : Option Nat) (uses : Uses) (e : Engine) (mk : VatState → EngineOp)
    (regs : EngineOp → Option EngFault) : State :=
  issue s v op w check uses (fun s =>
    let x := s.vat v
    let o := mk x
    if queueDepth e ≤ (x.queue.filter (fun q => q.eng == e)).length then s
    else match regs o with
      | some f => s.vatFault v (f.info v x.pc.toNat true)
      | none =>
        let y := { x with queue := x.queue ++ [(⟨e, o, x.nextAge, x.pc, false⟩ : QEntry)], nextAge := x.nextAge + 1 }
        (s.setVat v y.retire).startEngines v)

/-! ### Format M -/

/-- Parts of a format M word that an instruction does not use: the flags name the used fields. -/
def mSpare (w : Word56) (tcls pol half wb ta tb sa sb sd fa fb spk kq imm : Bool) : Bool × Nat :=
  unused ((if tcls then 0 else mTcls w) + (if pol then 0 else b2n (mPol w)) + (if half then 0 else b2n (mHalf w)) +
    (if wb then 0 else mWb w) + (if ta then 0 else mTa w) + (if tb then 0 else mTb w) + (if sa then 0 else mSa w) +
    (if sb then 0 else mSb w) + (if sd then 0 else mSd w) + (if fa then 0 else mFa w) + (if fb then 0 else mFb w) +
    (if spk then 0 else mSpk w) + (if kq then 0 else fld w.toNat 12 3) + (if imm then 0 else mImm w))

/-- Captures the registers of a format M instruction: A[SA] and S[SB] to S[SB + 2]. -/
def captureM (op : Nat) (w : Word56) (x : VatState) : EngineOp :=
  ⟨BitVec.ofNat 8 op, w, x.a (mSa w), 0, 0, x.s (mSb w), x.s (mSb w + 1), x.s (mSb w + 2), x.step⟩

/-- MACs per cycle of a pairing; none where R106 does not permit it. -/
def macs (fa fb : Nat) : Option Nat :=
  let eight := fun (f : Nat) => (decide (1 ≤ f) && decide (f ≤ 4)) || f == 6
  let four := fun (f : Nat) => f == 0 || f == 5
  if eight fa && (eight fb || four fb) then some 4
  else if four fa && eight fb then some 4
  else if four fa && four fb then some 8
  else if (fa == 3 || fa == 4) && fb == ternary then some 16
  else if fa == 7 && fb == 7 then some 2
  else none

/-- Whether K is within the limits of R222. -/
def kFits (fa fb spk k : Nat) : Bool :=
  decide (k * fmtWidth fa ≤ 1024) && (if fb = ternary then decide (k ≤ 512) && k % 64 == 0 else decide (k * fmtWidth fb ≤ 1024 * spkDen spk))

/-- The minimum token class of an MMA (R220). -/
def mmaClass (w : Word56) : Nat :=
  match macs (mFa w) (mFb w) with
  | some 2 => 1
  | some 4 => if mHalf w then 1 else 2
  | _ => if mHalf w then 1 else 3

/-- WCLR (R224): IMM12[11:10] is zero. -/
def execWclr (v : Vat) (w : Word56) (s : State) : Host.Outcome State Fault Refusal :=
  answer s (issueEngine s v 0x60 w
    (illegal [mSpare w false false false true false false false false false false false false false true, unused (mImm w / 1024)])
    ⟨[], [], []⟩ .array (captureM 0x60 w) (fun _ => none))

/-- MMA (R220, R222, R223). -/
def execMma (v : Vat) (w : Word56) (s : State) : Host.Outcome State Fault Refusal :=
  answer s (issueEngine s v 0x61 w
    (illegal [mSpare w true true true true true true false false false true true true true false,
      badFormat (decide (0xB < mFa w) || decide (0xB < mFb w) || mSpk w == 3),
      ((macs (mFa w) (mFb w)).isNone || (mFb w == ternary && mSpk w != 0), 0x80),
      (!kFits (mFa w) (mFb w) (mSpk w) (mK w), 0x81), (decide (mTcls w < mmaClass w), 0x82)])
    ⟨[], [], []⟩ .array (captureM 0x61 w) (fun _ => none))

/-- TLD (R221). -/
def execTld (v : Vat) (w : Word56) (s : State) : Host.Outcome State Fault Refusal :=
  answer s (issueEngine s v 0x62 w
    (illegal [mSpare w false false false false true false true true false false false false true false, aReg (mSa w)])
    ⟨[mSb w], [mSa w], []⟩ .loader (captureM 0x62 w) (fun o => firstBad [overrun o.a0.toNat 64, askew o.a0.toNat 64]))

/-- The checks of WPADD and WPACK: IMM12[11:2] is zero; A[SA] is 64-byte aligned and its region lies in vat SRAM. -/
def issuePartials (s : State) (v op : Nat) (w : Word56) : State :=
  issueEngine s v op w
    (illegal [mSpare w true false false true false false true false false false false false false true, unused (mImm w / 4), aReg (mSa w)])
    ⟨[], [mSa w], []⟩ .array (captureM op w)
    (fun o => firstBad [overrun o.a0.toNat (partialSize (bitOf (mImm w) 0) (bitOf (mImm w) 1)), askew o.a0.toNat 64])

/-- WPADD (R225). -/
def execWpadd (v : Vat) (w : Word56) (s : State) : Host.Outcome State Fault Refusal := answer s (issuePartials s v 0x63 w)

/-- WPACK (R226). -/
def execWpack (v : Vat) (w : Word56) (s : State) : Host.Outcome State Fault Refusal := answer s (issuePartials s v 0x64 w)

/-- WCVT (R227): IMM12[11:2] is zero, SB is at most 29. -/
def execWcvt (v : Vat) (w : Word56) (s : State) : Host.Outcome State Fault Refusal :=
  answer s (issueEngine s v 0x65 w
    (illegal [mSpare w true true false true false false true true false false false false false true, unused (mImm w / 4), aReg (mSa w),
      (decide (29 < mSb w), 0x83)])
    ⟨[mSb w, mSb w + 1, mSb w + 2], [mSa w], []⟩ .array (captureM 0x65 w)
    (fun o => firstBad [overrun o.a0.toNat 64, askew o.a0.toNat 64]))

/-- WTOV (R228): IMM12[11:6] is zero. -/
def execWtov (v : Vat) (w : Word56) (s : State) : Host.Outcome State Fault Refusal :=
  answer s (issueEngine s v 0x66 w
    (illegal [mSpare w true true false true false false false false true false false false false true, unused (mImm w / 64)])
    ⟨[], [], [mSd w]⟩ .array (captureM 0x66 w) (fun _ => none))

/-- WSTAT (R229): IMM12[11:1] is zero. -/
def execWstat (v : Vat) (w : Word56) (s : State) : Host.Outcome State Fault Refusal :=
  answer s (issueEngine s v 0x67 w
    (illegal [mSpare w true false false true false false false false true false false false false true, unused (mImm w / 2)])
    ⟨[mSd w], [], []⟩ .array (captureM 0x67 w) (fun _ => none))

/-! ### Format P -/

/-- Parts of a format P word that an instruction does not use: the flags name the used fields. -/
def pSpare (w : Word56) (ad aa ab sa sb sd imm : Bool) : Bool × Nat :=
  unused ((if ad then 0 else pAd w) + (if aa then 0 else pAa w) + (if ab then 0 else pAb w) + (if sa then 0 else mSa w) +
    (if sb then 0 else mSb w) + (if sd then 0 else mSd w) + pFn w + (if imm then 0 else pImm w))

/-- Captures the registers of a format P or X instruction. -/
def captureP (op : Nat) (w : Word56) (x : VatState) : EngineOp :=
  ⟨BitVec.ofNat 8 op, w, x.a (pAd w), x.a (pAa w), x.a (pAb w), x.s (mSa w), x.s (mSb w), x.s (mSd w), x.step⟩

/-- The registers of a format P or X instruction; the flags say whether it uses AA and AB. -/
def usesP (w : Word56) (aa ab : Bool) : Uses :=
  ⟨[mSa w, mSb w, mSd w], pAd w :: ((if aa then [pAa w] else []) ++ (if ab then [pAb w] else [])), []⟩

/-- SPCMP (R238). -/
def execSpcmp (v : Vat) (w : Word56) (s : State) : Host.Outcome State Fault Refusal :=
  answer s (issueEngine s v 0xA0 w (illegal [pSpare w true true false true false true false]) (usesP w true false) .sparse (captureP 0xA0 w)
    (fun o =>
      let g := o.s0.toNat
      firstBad [badCount (g == 0 || decide (4096 < g)) o.a1.toNat 6 g, overrun o.a1.toNat (8 * g), askew o.a1.toNat 8,
        overrun o.a0.toNat (8 + actBitmap g), askew o.a0.toNat 8]))

/-- SPEXP (R238). -/
def execSpexp (v : Vat) (w : Word56) (s : State) : Host.Outcome State Fault Refusal :=
  answer s (issueEngine s v 0xA1 w (illegal [pSpare w true true false false false true false]) (usesP w true false) .sparse (captureP 0xA1 w)
    (fun o => firstBad [overrun o.a1.toNat 8, askew o.a1.toNat 8, overrun o.a0.toNat 8, askew o.a0.toNat 8]))

/-- SPGATH (R239): R is a nonzero multiple of 8. -/
def execSpgath (v : Vat) (w : Word56) (s : State) : Host.Outcome State Fault Refusal :=
  answer s (issueEngine s v 0xA2 w (illegal [pSpare w true true true true true false false]) (usesP w true true) .sparse (captureP 0xA2 w)
    (fun o => firstBad [badLength o.a1.toNat o.s1.toNat 8, overrun o.a2.toNat (4 * o.s0.toNat), overrun o.a1.toNat 0,
      overrun o.a0.toNat (o.s0.toNat * o.s1.toNat)]))

/-- SPSCAT (R239). -/
def execSpscat (v : Vat) (w : Word56) (s : State) : Host.Outcome State Fault Refusal :=
  answer s (issueEngine s v 0xA3 w (illegal [pSpare w true true true true true false false]) (usesP w true true) .sparse (captureP 0xA3 w)
    (fun o => firstBad [badLength o.a1.toNat o.s1.toNat 8, overrun o.a2.toNat (4 * o.s0.toNat), overrun o.a0.toNat 0,
      overrun o.a1.toNat (o.s0.toNat * o.s1.toNat)]))

/-- TOPK (R240): IMM20[19:9] is zero, TF 3 is not defined. -/
def execTopk (v : Vat) (w : Word56) (s : State) : Host.Outcome State Fault Refusal :=
  answer s (issueEngine s v 0xA4 w
    (illegal [pSpare w true true false true true true true, unused (pImm w / 512), badFormat (topkTf w == 3)]) (usesP w true false) .sparse
    (captureP 0xA4 w)
    (fun o =>
      let k := topkK w
      let n := o.s0.toNat
      firstBad [badCount (k == 0 || decide (32 < k)) 0 7 k, badCount (decide (n < k) || decide (4096 < n)) 0 7 n, overrun o.a1.toNat (o.s1.toNat * n * topkSize w), overrun o.a0.toNat (8 * k * o.s1.toNat)]))

/-- DISP (R241). -/
def execDisp (v : Vat) (w : Word56) (s : State) : Host.Outcome State Fault Refusal :=
  answer s (issueEngine s v 0xA5 w (illegal [pSpare w true true true false false true false]) (usesP w true true) .sparse (captureP 0xA5 w)
    (fun o => firstBad [overrun o.a2.toNat 64, askew o.a2.toNat 64, overrun o.a1.toNat 0, overrun o.a0.toNat 0]))

/-! ### Format X -/

/-- Parts of a format X word that an instruction does not use: the flags name the used fields; IMM20 is reserved. -/
def xSpare (w : Word56) (ad aa ab sa sb sd pol fn : Bool) : Bool × Nat :=
  unused ((if ad then 0 else pAd w) + (if aa then 0 else pAa w) + (if ab then 0 else pAb w) + (if sa then 0 else mSa w) +
    (if sb then 0 else mSb w) + (if sd then 0 else mSd w) + (if pol then 0 else b2n (xPol w)) +
    (if fn then 0 else xSrc w + xDst w) + pImm w)

/-- A space code not defined, or a combination not permitted (R210). -/
def badSpace (b : Bool) : Bool × Nat := (b, 0x85)

/-- XCOPY (R244). -/
def execXcopy (v : Vat) (w : Word56) (s : State) : Host.Outcome State Fault Refusal :=
  answer s (issueEngine s v 0xC0 w
    (illegal [xSpare w true true false true true false false true, badSpace (xSrc w == 3 || xDst w == 3 || (xSrc w == 2 && xDst w == 2))])
    (usesP w true false) .transfer (captureP 0xC0 w)
    (fun o => firstBad [badLength o.a1.toNat o.s0.toNat 64, spaceOverrun (xSrc w) o.a1.toNat o.s0.toNat, askew o.a1.toNat 64,
      spaceOverrun (xDst w) o.a0.toNat o.s0.toNat, askew o.a0.toNat 64, copyOverlap v o]))

/-- XEXP (R246): both regions lie in own vat SRAM, so it uses no space field (DEDUCED, log entry 22). -/
def execXexp (v : Vat) (w : Word56) (s : State) : Host.Outcome State Fault Refusal :=
  answer s (issueEngine s v 0xC2 w
    (illegal [xSpare w true true false true false true false false]) (usesP w true false) .transfer
    (captureP 0xC2 w)
    (fun o => firstBad [overrun o.a1.toNat 0, askew o.a1.toNat 32, overrun o.a0.toNat (512 * o.s0.toNat), askew o.a0.toNat 64]))

/-- XFILL (R245): the destination space is 0 or 1. -/
def execXfill (v : Vat) (w : Word56) (s : State) : Host.Outcome State Fault Refusal :=
  answer s (issueEngine s v 0xC3 w
    (illegal [xSpare w true false false true true false false true, unused (xSrc w), badSpace (decide (1 < xDst w))]) (usesP w false false) .transfer
    (captureP 0xC3 w)
    (fun o => firstBad [badLength o.a0.toNat o.s0.toNat 64, spaceOverrun (xDst w) o.a0.toNat o.s0.toNat]))

/-- XCHURN (R247): from pail SRAM to own vat SRAM; FN may name those spaces or be zero (DEDUCED, log entry 22). -/
def execXchurn (v : Vat) (w : Word56) (s : State) : Host.Outcome State Fault Refusal :=
  answer s (issueEngine s v 0xC4 w
    (illegal [xSpare w true true false true false false true true, badSpace (decide (1 < xSrc w) || xDst w != 0)]) (usesP w true false) .transfer
    (captureP 0xC4 w)
    (fun o => firstBad [spaceOverrun 1 o.a1.toNat (16 * o.s0.toNat), askew o.a1.toNat 16, overrun o.a0.toNat (16 * o.s0.toNat),
      askew o.a0.toNat 16]))

/-- XGATH (R248): manifest and token table lie in own vat SRAM, the destination space is 0 or 1. -/
def execXgath (v : Vat) (w : Word56) (s : State) : Host.Outcome State Fault Refusal :=
  answer s (issueEngine s v 0xC5 w
    (illegal [xSpare w true true true false true false false true, badSpace (xSrc w != 0 || decide (1 < xDst w))]) (usesP w true true) .transfer
    (captureP 0xC5 w) (fun o => firstBad [overrun o.a1.toNat 256, askew o.a1.toNat 64, overrun o.a2.toNat 0,
      spaceOverrun (xDst w) o.a0.toNat 256]))

/-- XSTAT (R249): executes in the sequencer. -/
def execXstat (v : Vat) (w : Word56) (s : State) : Host.Outcome State Fault Refusal :=
  answer s (issueRegs s v 0xC7 w (illegal [xSpare w false false false false false true false false]) ⟨[mSd w], [], []⟩
    (fun x => x.setS (mSd w) (BitVec.ofNat 32 (x.satCnt.toNat * 65536 + (x.queue.filter (fun q => q.eng == .transfer)).length))))

end Sys2Proof.Machine
end

