-- ==== Sys2Proof/Machine/Entry.lean ====
section
/-! DEFINITION. The 36 V entry and the reference clock (16 R568, R579-R583). -/
namespace Sys2Proof.Machine
open Sys2Proof

/-! ### The entry -/

/-- MATE_N: high opens the input switch. -/
def execMateN (low : Bool) (s : State) : Host.Outcome State Fault Refusal :=
  answer s { s with entry := { s.entry with mate := low, switch := low && s.entry.switch, soft := low && s.entry.soft } }

/-- INPUT_SWITCH_CLOSE: the soft start begins; never while MATE_N is high. -/
def execInputSwitchClose (s : State) : Host.Outcome State Fault Refusal :=
  answer s (if s.entry.mate && !s.entry.switch then { s with entry := { s.entry with switch := true, soft := true } } else s)

/-- SOFT_START_DONE: a module without power releases reset. -/
def execSoftStartDone (s : State) : Host.Outcome State Fault Refusal :=
  answer s (if s.entry.soft then
      let s : State := { s with entry := { s.entry with soft := false } }
      if s.power.off then s.restart 1 true else s
    else s)

/-- OVER_VOLTAGE: the switch opens, and the power-fail sequence follows; whether PFAIL_N fell within 1 us of its detection, which makes trigger 2 a 3,
is a free choice (R583; DESIGN CHOICE, log entry 3). -/
def execOverVoltage (vin iin bulk : BitVec 16) (s : State) : Host.Outcome State Fault Refusal :=
  let (f, s) := s.takeFree 1
  answer s (({ s with entry := { s.entry with switch := false, soft := false } }).powerFail (2 + f.toNat) vin iin bulk)

/-! ### The reference (R579, R580) -/

/-- The designated link: the parent port if it is ACTIVE, else the alternate. The time master, which has no parent, has none. -/
def State.designated (s : State) : Option Nat :=
  let p := s.obj Obj.ftimeParentPort
  if 34 ≤ p then none
  else [p, s.obj Obj.ftimeAltParentPort].find? (fun p => decide (p < 34) && (s.port p).link == .active)

/-- A loss of FREF: with a designated link the synthesiser fails over to it, without one it is in holdover. -/
def State.loseFref (s : State) (ppb : W32) : State :=
  let d := s.designated
  let s : State := { s with entry := { s.entry with fref := false, ppb := ppb, failover := d, pending := d.isSome } }
  match d with
  | some p => s.referenceLost 1 p
  | none => s.referenceLost 2 0xFF

/-- FREF_LOST. In DEEP and OFF the loss counts at the exit. -/
def execFrefLost (ppb : W32) (s : State) : Host.Outcome State Fault Refusal :=
  answer s (if !s.entry.fref then s
    else if s.dark then { s with entry := { s.entry with fref := false, ppb := ppb } }
    else s.loseFref ppb)

/-- FREF_FAILOVER_LOCK: the synthesiser has locked to a designated link; arming is free again. -/
def execFrefFailoverLock (s : State) : Host.Outcome State Fault Refusal :=
  answer s (if s.entry.fref ∨ s.dark then s
    else match s.designated with
      | some p =>
        if s.entry.pending || s.entry.barred then
          { s with entry := { s.entry with failover := some (s.entry.failover.getD p), pending := false, barred := false } }
        else s
      | none => s)

/-- FREF_RETURN: FREF has stayed valid for 1 s. -/
def execFrefReturn (s : State) : Host.Outcome State Fault Refusal :=
  answer s { s with entry := { s.entry with fref := true, failover := none, pending := false, barred := false } }

end Sys2Proof.Machine
end

