-- ==== Sys2Proof/Machine/SkimIn.lean ====
section
/-! DEFINITION. Skim messages that arrive: marks and echoes, broadcasts, forwarding, and what each TYPE does at its destination (09 R369-R374; 10 R388,
R398; 11 R415; 13 R485, R487, R488, R490; 14 R518, R519). -/
namespace Sys2Proof.Machine
open Sys2Proof

/-! ### Counter operations and barriers (10 R388, R398) -/

/-- The LNID of a PNID in a context's routes. A PNID that has none there is no member of the job: the spec gives no LNID to name, which is a
free value (DESIGN CHOICE, log entry 63). -/
def State.originLnid (s : State) (c pnid : Nat) : Nat × State :=
  match (List.range (s.obj (Obj.routeCount c))).find? (fun l =>
      let e := s.routeEntry c (s.activeBank c) l
      bitOf e 63 && routePnid e == pnid) with
  | some l => (l, s)
  | none =>
    let (v, s) := s.takeFree 12
    (v.toNat, s)

/-- A remote SADD, and the status it is answered with. The vid must be of KIND 0 in the context of the message's JOBN (R388). -/
def State.counterIn (s : State) (p : Nat) (m : SkimMsg) : Nat × State :=
  match s.ctxOfJob m.jobn with
  | none => (stResetting, s)
  | some c =>
    if (s.ctx c).sync != .live then (stResetting, s)
    else if leAt m.body 2 1 ≠ 1 then (stRefused, s)
    else
      let vid := leAt m.body 0 2 % 4096
      let amount := sgn 32 (leAt m.body 4 4)
      let (lnid, s) := s.originLnid c m.src
      let src : SyncSrc := ⟨srcPort p, 0, 5, lnid, none⟩
      let refused := fun (s : State) => (stRefused, s.syncUnmapped c src vid amount .none)
      match s.resolve c vid with
      | .counter n =>
        if n / 4096 ≠ c then refused s
        else match s.applyCounter c src vid n ((s.counter n).value.toNat + amount) amount .none with
          | (true, s) => (stSuccess, s)
          | (false, s) => (stRefused, s)
      | _ => refused s

/-- A module's arrival at the root of a barrier. -/
def State.arrivalIn (s : State) (p : Nat) (m : SkimMsg) : State :=
  match s.ctxOfJob m.jobn with
  | none => s
  | some c =>
    let vid := leAt m.body 0 2 % 4096
    let (lnid, s) := s.originLnid c m.src
    if (s.ctx c).sync != .live then s
    else match s.resolve c vid with
      | .barrier n => s.rootArrive c n (bitOf (leAt m.body 2 1) 0) (BitVec.ofNat 32 (leAt m.body 4 4)) (srcPort p) lnid
      | _ => s.syncUnmapped c ⟨srcPort p, 0, 10, lnid, none⟩ vid 0 .none

/-- A barrier's release; a module that does not map the barrier has no part in it (R397). -/
def State.releaseIn (s : State) (m : SkimMsg) : State :=
  match s.ctxOfJob m.jobn with
  | none => s
  | some c => if (s.ctx c).sync != .live then s
    else match s.resolve c (leAt m.body 0 2 % 4096) with
      | .barrier n => s.releaseBarrier c n (bitOf (leAt m.body 2 1) 0) (BitVec.ofNat 32 (leAt m.body 4 4)) m.src (leAt m.body 8 8)
      | _ => s

/-! ### Fault notices (11 R415) -/

/-- A fault notice: kept, logged, and answered with a cause 7 request of this module; before launch the job is marked failed. A record that is
already kept is not taken again (R371; DEDUCED, log entry 105). -/
def State.noticeIn (s : State) (m : SkimMsg) : State :=
  match s.ctxOfJob m.jobn with
  | none => s
  | some c =>
    let r := padTo 64 m.body
    let x := s.ctx c
    if x.notices.contains r then s
    else
      let s := s.takeNotice c r
      if x.job = .armed then s
      else if x.holds.any (fun h => h.dur.isNone) then s
      else s.faultHold c (leAt r 0 2 == 0x6001 || leAt r 0 2 == 0x6002)

/-! ### Requests of other modules (13 R485, R490; 14 R518, R519) -/

/-- Function of the port a message came through: 1 storage attach, 2 host-side bridge, 0 any other. -/
def State.xUse (s : State) (p : Nat) : Nat := if isXport p then s.obj (Obj.xFunction (p - 32)) else 0

/-- Pieces of an access to BAR0, which takes 32 or 64 bits: offset and length. -/
def pieces : Nat → Nat → Nat → List (Nat × Nat)
  | 0, _, _ => []
  | n + 1, off, len =>
    if len = 0 then []
    else if off % 8 = 0 ∧ 8 ≤ len then (off, 8) :: pieces n (off + 8) (len - 8)
    else (off, 4) :: pieces n (off + 4) (len - 4)

/-- The domain a proxied access needs (12 R460). -/
def accessDomain (op off : Nat) : Domain :=
  if op = 3 ∨ op = 4 then barDomain off else if op = 5 ∨ op = 6 then .memory else .fabric

/-- A proxied access of the host door: its status and the data read. A BAR2 read of a bad sector is poisoned, for which the spec gives no status:
the bytes are free (DESIGN CHOICE, log entry 64). -/
def State.access (s : State) (client : Byte) (op off len : Nat) (data : List Byte) : Nat × List Byte × State :=
  match op with
  | 1 =>
    let (d, s) := (pieces 8 off len).foldl (fun (a : List Byte × State) e =>
      let (b, t) := a.2.bar0Read e.1 e.2
      (a.1 ++ b, t)) ([], s)
    (stSuccess, d, s)
  | 2 => (stSuccess, [], (pieces 8 off len).foldl (fun s e =>
      s.bar0Write client e.1 e.2 (BitVec.ofNat 64 (leAt data (e.1 - off) e.2))) s)
  | 3 =>
    let s := s.rouse (barDomain off)
    (stSuccess, s.bar4Read off len, s)
  | 4 => (stSuccess, [], s.bar4Write off data)
  | 5 => (match s.bar2Read off len [] with
    | (some d, s) => (stSuccess, d, s)
    | (none, s) =>
      let (d, s) := s.freeBytes len
      (stSuccess, d, s))
  | 6 => (stSuccess, [], s.bar2Write off data [])
  | _ => (stRefused, [], s)

/-- Whether the answer to a request may leave. A host's request reaches a fabric-attached module through its proxy, and the answer, which is host-bound,
leaves only to the PNID that PROXY_HOME names, and not between a failover and EVENT_RESUME; `muted` says how that was before the request. What a
bridge or another module asks is not host-bound (R487, R489; DEDUCED, log entry 131). -/
def State.mayReply (s : State) (muted : Bool) (p : Nat) (m : SkimMsg) : Bool :=
  let client := (m.body.getD 2 0).toNat
  s.host.linkUp || s.xUse p == 2 || (client != clDriver && client != clDebugger) ||
    (decide (s.obj Obj.proxyHome = m.src) && !(muted && s.events.mute))

/-- A proxied host request (R485). -/
def State.accessIn (s : State) (p : Nat) (m : SkimMsg) : State :=
  let op := leAt m.body 0 1
  let len := leAt m.body 1 1
  let off := leAt m.body 4 8
  if s.xUse p = 1 ∧ op ≠ 5 ∧ op ≠ 6 then s.sendReply m stDenied []
  else if op = 0 ∨ 6 < op ∨ len % 4 ≠ 0 ∨ len < 4 ∨ 32 < len ∨ off % len ≠ 0 then s.sendReply m stRefused []
  else if (s.domain (accessDomain op off)).descending then s.sendReply m stResetting []
  else
    let (status, d, t) := s.access (m.body.getD 2 0) op off len (slice m.body 16 len)
    if t.mayReply s.events.mute p m then t.sendReply m status d else t

/-- Index that a dictionary request with JOBREL names: the context-0 index of a per-context block, moved to the context of the JOBN (R519). -/
def State.jobIndex (s : State) (jobn ix : Nat) : Except Nat Nat :=
  match s.ctxOfJob jobn, objGroup ix with
  | none, _ => .error stResetting
  | some c, some g => if g.perCtx && ix == g.base then .ok (ix + c) else .error stRefused
  | some _, none => .error stRefused

/-- A skim dictionary request (R518, R519). -/
def State.dictIn (s : State) (p : Nat) (m : SkimMsg) : State :=
  let r := slice m.body 16 32
  let op := leAt r 0 1
  let len := leAt r 1 1
  let door : Door := if s.xUse p = 2 then ⟨m.body.getD 2 0, 2, p⟩ else ⟨m.body.getD 2 0, 1, m.src⟩
  let bad := leAt m.body 0 1 != 8 || leAt m.body 1 1 != 32 || fld (leAt r 5 1) 1 7 != 0 || (op == 1 && decide (32 < len)) ||
    (op == 2 && decide (16 < len))
  if s.xUse p = 1 then s.sendReply m stDenied []
  else if bad then s.sendReply m stRefused []
  else if s.power.fabric.descending then s.sendReply m stResetting []
  else
    match (if bitOf (leAt r 5 1) 0 then s.jobIndex m.jobn (leAt r 2 2) else .ok (leAt r 2 2)) with
    | .error st => s.sendReply m st []
    | .ok ix =>
      let (out, t) := s.request door op ix (leAt r 4 1) (leAt r 8 4) len (slice r 16 len)
      if t.mayReply s.events.mute p m then t.sendReply m out.status (padTo 32 out.data) else t

/-! ### Remote event records (13 R487, R488) -/

/-- A record for a host queue: written as a wide entry and acknowledged; a narrow, disabled or stalled queue does not acknowledge, and a proxy with
no host to deliver to answers PATH_LOST. -/
def State.recordIn (s : State) (m : SkimMsg) : State :=
  let q := leAt m.body 32 1
  let x := s.eq q
  if 8 ≤ q ∨ !s.host.linkUp then s.sendStatus m stPathLost
  else if x.takes && x.wide then
    match s.eqWrite q (slice m.body 0 32) m.src with
    | (true, s) => s.sendStatus m stSuccess
    | (false, t) => (t.queueFailed q x.at_).deliverAll
  else s

/-! ### Echoes (09 R372) -/

/-- An echo halves the rate of the first hop's class, once in 256 ticks. -/
def State.echoIn (s : State) (m : SkimMsg) : State :=
  let p := s.nextHop (leAt m.body 0 2)
  let now := s.times.grid
  let f := fun (k : Credit) =>
    if k.cut = 0 ∨ k.cut - 1 + 256 ≤ now then { k with echoed := true, rate := max 1 (k.rate / 2), cut := now + 1 } else { k with echoed := true }
  s.onPort p (fun x => match leAt m.body 2 1 with
    | 1 => { x with credit1 := f x.credit1 }
    | 2 => { x with credit2 := f x.credit2 }
    | _ => x)

/-- A marked message at its destination is answered with an echo to its origin, once in 256 ticks. -/
def State.answerMark (s : State) (m : SkimMsg) : State :=
  let now := s.times.grid
  let recent := s.skim.echoes.any (fun (e : Nat × Nat) => e.1 == m.src && decide (now < e.2 - 1 + 256))
  if !m.mark || recent then s
  else
    let s : State := { s with skim := { s.skim with echoes := s.skim.echoes.filter (fun (e : Nat × Nat) => e.1 != m.src) ++ [(m.src, now + 1)] } }
    (s.bump32 Obj.skimEchoes 1).sendPlain
      (mkMsg 0x16 false 0 0 0 s.pnid m.src (padTo 16 (leBytes 2 m.dst ++ leBytes 1 (skimClass m.type)))) true

/-! ### Arrival (R369-R371) -/

/-- What a message does at its destination (DEDUCED, log entry 106; DEDUCED, log entry 107). -/
def State.deliverMsg (s : State) (p : Nat) (m : SkimMsg) : State :=
  match m.type with
  | 0x01 =>
    if s.power.fabric.descending then s.sendStatus m stResetting
    else
      let (status, s) := s.counterIn p m
      s.sendStatus m status
  | 0x02 => s.arrivalIn p m
  | 0x03 => s.accessIn p m
  | 0x04 => s.dictIn p m
  | 0x10 => s.recordIn m
  | 0x11 => s.releaseIn m
  | 0x12 => match s.ctxOfJob m.jobn with
    | some c => s.selectorIn c m
    | none => s
  | 0x13 => s.noticeIn m
  | 0x14 => s.completeRequest m (leAt m.body 0 2) (slice m.body 16 32)
  | 0x15 => s.completeRequest m (leAt m.body 0 2) []
  | 0x16 => s.echoIn m
  | _ => s

/-- Messages in the input buffer of a class. -/
def PortState.held (x : PortState) (cls : Nat) : Nat := if cls = 1 then x.held1 else x.held2

/-- A message enters the input buffer; one that finds MARK_THRESH there is marked (R372). -/
def State.enterBuffer (s : State) (p cls : Nat) (m : SkimMsg) : SkimMsg × State :=
  let full := decide (s.obj Obj.markThresh ≤ (s.port p).held cls)
  let s := s.onPort p (fun x => if cls = 1 then { x with held1 := x.held1 + 1 } else { x with held2 := x.held2 + 1 })
  if full then (m.marked, s.bump32 (Obj.skimMarks p) 1) else (m, s)

/-- Whether a perturbed port drops a message, and the port with the drop counted down (11 R437 kind 8). -/
def PortState.dropNext (x : PortState) (m : SkimMsg) : Bool × PortState :=
  if !bitOf x.drop.toNat (m.type % 32) then (false, x)
  else if x.dropIn ≤ 1 then (true, { x with drop := 0, dropIn := 0 })
  else (false, { x with dropIn := x.dropIn - 1 })

/-- A job broadcast (R371). -/
def State.bcastIn (s : State) (p : Nat) (m : SkimMsg) : State :=
  match s.ctxOfJob m.jobn with
  | none => s.bump32 (Obj.skimDiscarded p) 1
  | some c =>
    let id := m.gen * 4096 + m.tag
    if s.skim.seen.contains (BitVec.ofNat 9 m.src, BitVec.ofNat 16 id) then s
    else (((s.seeBcast m.src id).flood c m (some p)).answerMark m).deliverMsg p m

/-- A message of a unit of a class arrives on a port (DEDUCED, log entry 103). -/
def State.msgIn (s : State) (p cls : Nat) (m : SkimMsg) : State :=
  let (m, s) := s.enterBuffer p cls m
  let (lost, x) := (s.port p).dropNext m
  let s := s.setPort p x
  if lost then s.freeClass p cls m.blocks
  else if !skimDefined m.type || skimClass m.type != cls || decide (4 < m.blocks) then
    (s.freeClass p cls m.blocks).bump32 (Obj.skimDiscarded p) 1
  else if m.bcast then (s.freeCredit p m).bcastIn p m
  else if m.dst ≠ s.pnid then s.forward p m
  else ((s.freeCredit p m).answerMark m).deliverMsg p m

/-! ### The table of broadcasts, rates and timeouts (R371-R373) -/

/-- BCAST_AGE_OUT: the oldest identifier leaves the table. -/
def execBcastAgeOut (s : State) : Host.Outcome State Fault Refusal :=
  answer s { s with skim := { s.skim with seen := s.skim.seen.dropLast } }

/-- A class at a multiple of 256 ticks. -/
def Credit.window (k : Credit) (top : Nat) : Credit :=
  { k with rate := if k.echoed then k.rate else min top (k.rate + 1), echoed := false, sent := 0 }

/-- RATE_WINDOW: rates recover where no echo came, and counts start again. -/
def execRateWindow (s : State) : Host.Outcome State Fault Refusal :=
  answer s (allPorts.foldl (fun s p => s.onPort p (fun x =>
    { x with credit1 := x.credit1.window (maxRate p), credit2 := x.credit2.window (maxRate p) })) s)

/-- SKIM_REQ_TIMEOUT: the request with a tag had no reply. -/
def execSkimReqTimeout (tag : BitVec 12) (s : State) : Host.Outcome State Fault Refusal :=
  answer s (s.failRequests (s.skim.reqs.filter (fun r => r.tag == tag)))

end Sys2Proof.Machine
end

