-- ==== Sys2Proof/Machine/Receive.lean ====
section
/-! DEFINITION. Flow units that arrive: acknowledgement, credits, the hold field, and each traffic class (09 R350-R356, R365, R368, R376). -/
namespace Sys2Proof
open Sys2Proof.Machine

/-! ### Format (R351, R352, R368) -/

/-- TC of a unit. -/
def RxUnit.tc (u : RxUnit) : Nat := fld u.hdr.toNat 22 2
/-- KIND of a unit. -/
def RxUnit.kind (u : RxUnit) : Nat := fld u.hdr.toNat 16 4

/-- The messages of a skim unit. -/
def parseMsgs : Nat → List Byte → List SkimMsg
  | 0, _ => []
  | n + 1, l =>
    let h := leAt l 0 8
    let b := 16 * fld h 53 3
    ⟨BitVec.ofNat 64 h, slice l 8 b⟩ :: parseMsgs n (l.drop (8 + b))

/-- The messages of a unit, as many as byte 2 says. -/
def RxUnit.msgs (u : RxUnit) : List SkimMsg := parseMsgs (leAt u.pay 2 1) (u.pay.drop 8)

/-- A skim payload that is not one: no message or more than three, more bytes than the unit has, or a reserved field set. -/
def RxUnit.badSkim (u : RxUnit) : Bool :=
  leAt u.pay 2 1 == 0 || decide (3 < leAt u.pay 2 1) || leAt u.pay 3 5 != 0 ||
  decide (232 < (u.msgs.map (fun m => 8 + 16 * m.blocks)).sum) || u.msgs.any (fun m => fld m.hdr.toNat 0 13 != 0)

/-- A format error: an undefined kind or piggyback, or a reserved field that is not zero. -/
def RxUnit.badFormat (u : RxUnit) : Bool :=
  bitOf u.hdr.toNat 15 || fld u.hdr.toNat 12 3 == 7 || (u.tc != 0 && fld u.hdr.toNat 20 2 != 0) ||
  (if u.tc = 3 then decide (7 < u.kind) || (u.kind == 5 && fld (leAt u.pay 11 1) 3 5 != 0)
    else u.kind != 0 || (u.tc != 0 && u.badSkim))

end Sys2Proof

namespace Sys2Proof.Machine
open Sys2Proof

/-! ### Piggybacks (R351, R354, R356, R365) -/

/-- What the piggyback of a unit says. -/
def State.takePiggyback (s : State) (p kind : Nat) (v : BitVec 12) : State :=
  match kind with
  | 1 => s.onPort p (fun x => x.ack v)
  | 2 => s.takeNak p v
  | 3 => s.onPort p (fun x => { x with credit1 := { x.credit1 with retHdr := v } })
  | 4 => s.onPort p (fun x => { x with credit1 := { x.credit1 with retData := v } })
  | 5 => s.onPort p (fun x => { x with credit2 := { x.credit2 with retHdr := v } })
  | 6 => s.onPort p (fun x => { x with credit2 := { x.credit2 with retData := v } })
  | _ => s

/-! ### Delivery -/

/-- A TC3 unit. -/
def State.tc3In (s : State) (p : Nat) (u : RxUnit) : State :=
  match u.kind with
  | 1 => s.onPort p (fun x => { x with peerSleep := true })
  | 2 => s.recvTime p u.pay
  | 3 => s.recvDelayReq p u.pay
  | 4 => s.recvDelayResp p u.pay
  | 5 => s.recvParam p u.pay
  | 6 => s.recvRetrain p u.pay
  | 7 => if (s.port p).link = .listen then s else s.recvReset p u.pay
  | _ => s

/-- A unit's payload, by traffic class. On X1 while lock-step owns it a TC0 unit is the peer's signature (11 R429, R430). -/
def State.deliverUnit (s : State) (p : Nat) (u : RxUnit) : State :=
  match u.tc with
  | 0 => if p = 33 ∧ s.lockOwns then s.takeSignature u.pay
    else s.landUnit p (fld u.hdr.toNat 21 1) (bitOf u.hdr.toNat 20) u.pay
  | 3 => s.tc3In p u
  | c => u.msgs.foldl (fun s m => s.msgIn p c m) s

/-- Whether a port is ACTIVE or retrains. -/
def State.carries (s : State) (p : Nat) : Bool := (s.port p).link == .active || (s.port p).link == .retrain

/-- A unit has been taken, unless it took the port down: E passes a sequenced one, and no replay is awaited any more (R355). The 64th that waits for
its acknowledgement wakes the port (04 R153). -/
def State.countUnit (s : State) (p : Nat) (seq : Bool) : State :=
  if !s.carries p then s
  else s.stirPort p (fun x =>
    let y := { x with discarding := false }
    if seq then { y with expect := x.expect + 1, unacked := x.unacked + 1 } else y)

/-- A unit that passed its CRC (R355). Units that are sequenced, piggybacks and hold fields are taken by an ACTIVE port, and by one in RETRAIN, which
keeps its counts, from the units still on the wire (DEDUCED, log entry 90). A format error is counted and the unit discarded; its count, if it has one, is used up (DEDUCED, log entry 65). -/
def State.arriveUnit (s : State) (p : Nat) (u : RxUnit) : State :=
  let active := (s.port p).link == .active || (s.port p).link == .retrain
  let seq := decide (u.tc ≤ 2)
  if seq && !active then s
  else
    let s := s.onPort p (fun x =>
      { x with peerSleep := if x.link = .listen then x.peerSleep else false, peerWake := 0, lastFtime := s.times.ftime })
    if u.badFormat then (s.bump64 (Obj.crcErrors p) 1).countUnit p seq
    else if active then
      let s := s.takePiggyback p (fld u.hdr.toNat 12 3) (BitVec.ofNat 12 (fld u.hdr.toNat 0 12))
      if s.carries p then ((s.holdArrive p (fld u.hdr.toNat 24 40)).deliverUnit p u).countUnit p seq else s
    else (s.deliverUnit p u).countUnit p false

/-- TIME. -/
def execTime (p : PortId) (u : RxUnit) (s : State) : Host.Outcome State Fault Refusal := answer s (s.arriveUnit p u)

/-- DATA. -/
def execData (p : PortId) (u : RxUnit) (s : State) : Host.Outcome State Fault Refusal := answer s (s.arriveUnit p u)

/-- PARAM. -/
def execParam (p : PortId) (u : RxUnit) (s : State) : Host.Outcome State Fault Refusal := answer s (s.arriveUnit p u)

/-- DELAY_REQ. -/
def execDelayReq (p : PortId) (u : RxUnit) (s : State) : Host.Outcome State Fault Refusal := answer s (s.arriveUnit p u)

/-- DELAY_RESP. -/
def execDelayResp (p : PortId) (u : RxUnit) (s : State) : Host.Outcome State Fault Refusal := answer s (s.arriveUnit p u)

/-- RETRAIN_REQ. -/
def execRetrainReq (p : PortId) (u : RxUnit) (s : State) : Host.Outcome State Fault Refusal := answer s (s.arriveUnit p u)

/-- RESET_REQ. -/
def execResetReq (p : PortId) (u : RxUnit) (s : State) : Host.Outcome State Fault Refusal := answer s (s.arriveUnit p u)

/-- IDLE. -/
def execIdle (p : PortId) (u : RxUnit) (s : State) : Host.Outcome State Fault Refusal := answer s (s.arriveUnit p u)

/-- SLEEP. -/
def execSleep (p : PortId) (u : RxUnit) (s : State) : Host.Outcome State Fault Refusal := answer s (s.arriveUnit p u)

/-- LOCKSTEP_SIGNATURE: the peer's unit arrives on X1. -/
def execLockstepSignature (u : RxUnit) (s : State) : Host.Outcome State Fault Refusal := answer s (s.arriveUnit 33 u)

/-! ### Messages (R368) -/

/-- The unit of a class that carries one message alone, with no record and no piggyback (DEDUCED, log entry 66). -/
def loneUnit (cls : Nat) (m : SkimMsg) : RxUnit := ⟨unitHdr cls 0 false 0, payload (leBytes 2 0 ++ leBytes 1 1 ++ zeros 5 ++ m.bytes)⟩

/-- COUNTER_OPERATION. -/
def execCounterOperation (p : PortId) (m : SkimMsg) (s : State) : Host.Outcome State Fault Refusal := answer s (s.arriveUnit p (loneUnit 1 m))

/-- BARRIER_ARRIVAL. -/
def execBarrierArrival (p : PortId) (m : SkimMsg) (s : State) : Host.Outcome State Fault Refusal := answer s (s.arriveUnit p (loneUnit 1 m))

/-- PROXIED_HOST_REQUEST. -/
def execProxiedHostRequest (p : PortId) (m : SkimMsg) (s : State) : Host.Outcome State Fault Refusal := answer s (s.arriveUnit p (loneUnit 1 m))

/-- DICTIONARY_REQUEST. -/
def execDictionaryRequest (p : PortId) (m : SkimMsg) (s : State) : Host.Outcome State Fault Refusal := answer s (s.arriveUnit p (loneUnit 1 m))

/-- WATCH_NOTIFICATION. -/
def execWatchNotification (p : PortId) (m : SkimMsg) (s : State) : Host.Outcome State Fault Refusal := answer s (s.arriveUnit p (loneUnit 2 m))

/-- BARRIER_RELEASE. -/
def execBarrierRelease (p : PortId) (m : SkimMsg) (s : State) : Host.Outcome State Fault Refusal := answer s (s.arriveUnit p (loneUnit 2 m))

/-- SELECTOR. -/
def execSelector (p : PortId) (m : SkimMsg) (s : State) : Host.Outcome State Fault Refusal := answer s (s.arriveUnit p (loneUnit 2 m))

/-- FAULT_NOTICE. -/
def execFaultNotice (p : PortId) (m : SkimMsg) (s : State) : Host.Outcome State Fault Refusal := answer s (s.arriveUnit p (loneUnit 2 m))

/-- REPLY. -/
def execReply (p : PortId) (m : SkimMsg) (s : State) : Host.Outcome State Fault Refusal := answer s (s.arriveUnit p (loneUnit 2 m))

/-- STATUS_COMPLETION. -/
def execStatusCompletion (p : PortId) (m : SkimMsg) (s : State) : Host.Outcome State Fault Refusal := answer s (s.arriveUnit p (loneUnit 2 m))

/-- ECHO. -/
def execEcho (p : PortId) (m : SkimMsg) (s : State) : Host.Outcome State Fault Refusal := answer s (s.arriveUnit p (loneUnit 2 m))

end Sys2Proof.Machine
end

