-- ==== Sys2Proof/Machine/Vector.lean ====
section
/-! DEFINITION. The vector engine on registers (06 R230-R235; 03 R128): lane operations, conversions, functions and reductions. -/
namespace Sys2Proof.Machine
open Sys2Proof

/-- Parts of a format V word that an instruction does not use (R169, R230): the flags name the used fields. -/
def vSpare (w : Word56) (vd va vb vc ty sr ar fn imm : Bool) : Bool × Nat :=
  unused ((if vd then 0 else fDst w) + (if va then 0 else fSa w) + (if vb then 0 else fSb w) + (if vc then 0 else fFn w) +
    (if ty then 0 else vTy w) + (if sr then 0 else mSd w) + (if ar then 0 else vAr w) + (if fn then 0 else vFn w) +
    (if imm then 0 else vImm w))

/-- A type or function code that is not defined (R210). -/
def badCode (b : Bool) : Bool × Nat := (b, 0x84)

/-- The lanes of a V register. -/
def VatState.lanes (x : VatState) (r : Nat) : List W32 := (List.range 64).map (fun i => x.lane r i)

/-- A lane read as floating point: FP32, or BF16 in its low half, widened exactly (R231). -/
def laneFP (ty : Nat) (x : W32) : FP := if ty = 1 then FP.read bf16 x.toNat else FP.read fp32 x.toNat

/-- A floating-point result in a lane: FP32, then for BF16 one more rounding (R128, R231). -/
def fpLane (ty : Nat) (r : FP) : W32 := BitVec.ofNat 32 (if ty = 1 then (FP.read fp32 r.to32).to16 else r.to32)

/-- VADD. -/
def laneAdd (ty : Nat) (a b : W32) : W32 := if ty = 2 then a + b else fpLane ty ((laneFP ty a).add (laneFP ty b))
/-- VSUB. -/
def laneSub (ty : Nat) (a b : W32) : W32 := if ty = 2 then a - b else fpLane ty ((laneFP ty a).add (laneFP ty b).neg)
/-- VMUL. -/
def laneMul (ty : Nat) (a b : W32) : W32 := if ty = 2 then a * b else fpLane ty ((laneFP ty a).mul (laneFP ty b))
/-- VFMA: one rounding. -/
def laneFma (ty : Nat) (a b c : W32) : W32 :=
  if ty = 2 then a * b + c else fpLane ty (((laneFP ty a).mul (laneFP ty b)).add (laneFP ty c))

/-- VMIN (R232). -/
def laneMin (ty : Nat) (a b : W32) : W32 :=
  if ty = 2 then (if a.toInt ≤ b.toInt then a else b)
  else
    let (x, y) := (laneFP ty a, laneFP ty b)
    if x.unordered y then fpLane ty .nan else if x.lt y || (!y.lt x && x.isNeg) then fpLane ty x else fpLane ty y

/-- VMAX (R232). -/
def laneMax (ty : Nat) (a b : W32) : W32 :=
  if ty = 2 then (if b.toInt ≤ a.toInt then a else b)
  else
    let (x, y) := (laneFP ty a, laneFP ty b)
    if x.unordered y then fpLane ty .nan else if y.lt x || (!x.lt y && !x.isNeg) then fpLane ty x else fpLane ty y

/-- VCMP (R232): 0 =, 1 ≠, 2 <, 3 ≥; INT32 lanes compare as signed. -/
def laneCmp (ty fn : Nat) (a b : W32) : W32 :=
  let (lt, eq, un) := if ty = 2 then (decide (a.toInt < b.toInt), a == b, false)
    else
      let (x, y) := (laneFP ty a, laneFP ty b)
      (x.lt y, !x.unordered y && !x.lt y && !y.lt x, x.unordered y)
  let r := match fn with
    | 0 => eq
    | 1 => !eq
    | 2 => lt
    | _ => !lt && !un
  if r then 1 else 0

/-- Lower end of VCVT 4: R125 saturates an integer format's negative results to -maxfinite, and R233 only says that the function saturates; which
of the two lowest codes it gives is a free choice (DESIGN CHOICE, log entry 17). -/
def lowEnd (a : W32) : W32 := 0x80000000 + (Config.freeFun 4 a &&& 1)

/-- VCVT 4: FP32 to INT32 by RNE, saturating to the range of a 32-bit integer (R233; DESIGN CHOICE, log entry 17). -/
def toInt32 (a : W32) : W32 :=
  match FP.read fp32 a.toNat with
  | .nan => 0
  | .inf neg => if neg then lowEnd a else 0x7FFFFFFF
  | .fin neg m e =>
    let r : Int := signed neg (if 200 ≤ (Nat.log2 m : Int) + e then 2 ^ 40 else roundMag .rne m e)
    if 2147483647 < r then 0x7FFFFFFF else if r ≤ -2147483648 then lowEnd a else BitVec.ofInt 32 r

/-- VCVT (R233). -/
def laneCvt (fn : Nat) (a : W32) : W32 :=
  match fn with
  | 0 => BitVec.ofNat 32 (FP.read fp32 a.toNat).to16
  | 1 => BitVec.ofNat 32 (FP.read bf16 a.toNat).to32
  | 2 => BitVec.ofNat 32 (match FP.read fp32 a.toNat with
    | .nan => nan16 a.toNat
    | .inf neg => 0x7C00 + signBit fp16 neg
    | .fin neg m e => if m = 0 then signBit fp16 neg else convert fp16 .rne false ⟨signed neg m, e⟩)
  | 3 => BitVec.ofNat 32 (FP.read fp16 a.toNat).to32
  | 4 => toInt32 a
  | _ => BitVec.ofNat 32 (convert fp32 .rne false ⟨a.toInt, 0⟩)

/-- VFUN (R234). -/
def laneFun (ty fn : Nat) (a : W32) : W32 :=
  let x := laneFP ty a
  fpLane ty (match fn with
    | 0 => x.exp2
    | 1 => x.log2
    | 2 => x.recip
    | 3 => x.rsqrt
    | _ => x.sqrt)

/-- VLOG (R231). -/
def laneLog (fn : Nat) (a b : W32) : W32 :=
  match fn with
  | 0 => a &&& b
  | 1 => a ||| b
  | 2 => a ^^^ b
  | 3 => a <<< (b.toNat % 32)
  | 4 => a >>> (b.toNat % 32)
  | _ => a.sshiftRight (b.toNat % 32)

/-- One step of a reduction (R235). -/
def redOp (fn ty : Nat) (a b : W32) : W32 :=
  match fn with
  | 0 => laneAdd ty a b
  | 1 => laneMax ty a b
  | _ => laneMin ty a b

/-- The fixed tree of R235: halves are combined until one lane is left. -/
def reduce (fn ty : Nat) (l : List W32) : W32 :=
  let halve := fun (l : List W32) => List.zipWith (redOp fn ty) (l.take (l.length / 2)) (l.drop (l.length / 2))
  ((List.range 6).foldl (fun l _ => halve l) l).headD 0

/-- V[VD] lane by lane from V[VA] and V[VB]. -/
def lanes2 (s : State) (v op : Nat) (w : Word56) (check : List (Bool × Nat)) (f : W32 → W32 → W32) : State :=
  issueRegs s v op w (illegal check) ⟨[], [], [fDst w, fSa w, fSb w]⟩
    (fun x => x.setV (fDst w) (List.zipWith f (x.lanes (fSa w)) (x.lanes (fSb w))))

/-- V[VD] lane by lane from V[VA]. -/
def lanes1 (s : State) (v op : Nat) (w : Word56) (check : List (Bool × Nat)) (f : W32 → W32) : State :=
  issueRegs s v op w (illegal check) ⟨[], [], [fDst w, fSa w]⟩ (fun x => x.setV (fDst w) ((x.lanes (fSa w)).map f))

/-- The checks of an instruction with two sources and a lane type. -/
def typed2 (w : Word56) : List (Bool × Nat) := [vSpare w true true true false true false false false false, badCode (vTy w == 3)]

/-- VADD (R231). -/
def execVadd (v : Vat) (w : Word56) (s : State) : Host.Outcome State Fault Refusal :=
  answer s (lanes2 s v 0x80 w (typed2 w) (laneAdd (vTy w)))

/-- VSUB (R231). -/
def execVsub (v : Vat) (w : Word56) (s : State) : Host.Outcome State Fault Refusal :=
  answer s (lanes2 s v 0x81 w (typed2 w) (laneSub (vTy w)))

/-- VMUL (R231). -/
def execVmul (v : Vat) (w : Word56) (s : State) : Host.Outcome State Fault Refusal :=
  answer s (lanes2 s v 0x82 w (typed2 w) (laneMul (vTy w)))

/-- VFMA (R231). -/
def execVfma (v : Vat) (w : Word56) (s : State) : Host.Outcome State Fault Refusal :=
  answer s (issueRegs s v 0x83 w
    (illegal [vSpare w true true true true true false false false false, badCode (vTy w == 3)]) ⟨[], [], [fDst w, fSa w, fSb w, fFn w]⟩
    (fun x => x.setV (fDst w) (List.zipWith (fun f c => f c)
      (List.zipWith (laneFma (vTy w)) (x.lanes (fSa w)) (x.lanes (fSb w))) (x.lanes (fFn w)))))

/-- VMIN (R232). -/
def execVmin (v : Vat) (w : Word56) (s : State) : Host.Outcome State Fault Refusal :=
  answer s (lanes2 s v 0x84 w (typed2 w) (laneMin (vTy w)))

/-- VMAX (R232). -/
def execVmax (v : Vat) (w : Word56) (s : State) : Host.Outcome State Fault Refusal :=
  answer s (lanes2 s v 0x85 w (typed2 w) (laneMax (vTy w)))

/-- VCMP (R231, R232). -/
def execVcmp (v : Vat) (w : Word56) (s : State) : Host.Outcome State Fault Refusal :=
  answer s (lanes2 s v 0x86 w
    [vSpare w true true true false true false false true false, badCode (vTy w == 3 || decide (3 < vFn w))] (laneCmp (vTy w) (vFn w)))

/-- VSEL (R231). -/
def execVsel (v : Vat) (w : Word56) (s : State) : Host.Outcome State Fault Refusal :=
  answer s (issueRegs s v 0x87 w (illegal [vSpare w true true true true false false false false false])
    ⟨[], [], [fDst w, fSa w, fSb w, fFn w]⟩
    (fun x => x.setV (fDst w) (List.zipWith (fun (p : W32 × W32) c => if c = 0 then p.2 else p.1)
      ((x.lanes (fSa w)).zip (x.lanes (fSb w))) (x.lanes (fFn w)))))

/-- VCVT (R233). -/
def execVcvt (v : Vat) (w : Word56) (s : State) : Host.Outcome State Fault Refusal :=
  answer s (lanes1 s v 0x88 w [vSpare w true true false false false false false true false, badCode (decide (5 < vFn w))] (laneCvt (vFn w)))

/-- VFUN (R234). -/
def execVfun (v : Vat) (w : Word56) (s : State) : Host.Outcome State Fault Refusal :=
  answer s (lanes1 s v 0x89 w
    [vSpare w true true false false true false false true false, badCode (decide (1 < vTy w) || decide (4 < vFn w))] (laneFun (vTy w) (vFn w)))

/-- VRED (R235). -/
def execVred (v : Vat) (w : Word56) (s : State) : Host.Outcome State Fault Refusal :=
  answer s (issueRegs s v 0x8A w
    (illegal [vSpare w true true false false true false false true false, badCode (vTy w == 3 || decide (2 < vFn w))])
    ⟨[], [], [fDst w, fSa w]⟩
    (fun x => x.setV (fDst w) (reduce (vFn w) (vTy w) (x.lanes (fSa w)) :: List.replicate 63 0)))

/-- VLOG (R231): TY is 2. -/
def execVlog (v : Vat) (w : Word56) (s : State) : Host.Outcome State Fault Refusal :=
  answer s (lanes2 s v 0x8B w
    [vSpare w true true true false true false false true false, badCode (vTy w != 2 || decide (5 < vFn w))] (laneLog (vFn w)))

/-- VBCAST (R231). -/
def execVbcast (v : Vat) (w : Word56) (s : State) : Host.Outcome State Fault Refusal :=
  answer s (issueRegs s v 0x8C w (illegal [vSpare w true false false false false true false false false]) ⟨[mSd w], [], [fDst w]⟩
    (fun x => x.setV (fDst w) (List.replicate 64 (x.s (mSd w)))))

/-- VEXT (R231): IMM16[15:6] is zero. -/
def execVext (v : Vat) (w : Word56) (s : State) : Host.Outcome State Fault Refusal :=
  answer s (issueRegs s v 0x8D w
    (illegal [vSpare w false true false false false true false false true, unused (vImm w / 64)]) ⟨[mSd w], [], [fSa w]⟩
    (fun x => x.setS (mSd w) (x.lane (fSa w) (vImm w % 64))))

/-- VPERM (R231). -/
def execVperm (v : Vat) (w : Word56) (s : State) : Host.Outcome State Fault Refusal :=
  answer s (issueRegs s v 0x8E w (illegal [vSpare w true true true false false false false false false]) ⟨[], [], [fDst w, fSa w, fSb w]⟩
    (fun x => x.setV (fDst w) ((x.lanes (fSb w)).map (fun b => x.lane (fSa w) (b.toNat % 64)))))

end Sys2Proof.Machine
end

