-- ==== Sys2Proof/Machine/VatMemory.lean ====
section
/-! DEFINITION. Loads and stores of the vat's own SRAM: LD, ST, LDA, STA (05 R183, R184) and VLD, VST (06 R236). They wait for queued engine
instructions that touch the same granules (06 R207). -/
namespace Sys2Proof.Machine
open Sys2Proof

/-- An access of `size` bytes at `ea`: above `top` it faults with the access's kind, misaligned with kind 5; then it waits its turn. -/
def memAccess (s : State) (v : Nat) (ea size al top : Nat) (store : Bool) (eff : State → State) : State :=
  let pc := (s.vat v).pc.toNat
  if top < ea then s.vatFault v (boundsInfo v pc ea size (if store then 2 else 1) true)
  else if ea % al ≠ 0 then s.vatFault v (boundsInfo v pc ea size 5 true)
  else
    let r := [ownRegion v ea size]
    if s.memWaits v (if store then [] else r) (if store then r else []) then s else eff s

/-- A scalar access: bounds and alignment of R184. -/
def scalarAccess (s : State) (v op : Nat) (w : Word56) (check : List (Bool × Nat)) (uses : Uses) (size : Nat) (store : Bool)
    (eff : Nat → State → State) : State :=
  issue s v op w (illegal check) uses (fun s =>
    let ea := ((s.vat v).base (fSa w) w).toNat
    memAccess s v ea size size 0x1FFFFF store (eff ea))

/-- LD. -/
def execLd (v : Vat) (w : Word56) (s : State) : Host.Outcome State Fault Refusal :=
  answer s (scalarAccess s v 0x2C w [spare w true true false false true, aReg (fSa w)] ⟨[fDst w], [fSa w], []⟩ 4 false
    (fun ea s => s.onVat v (fun x => (x.setS (fDst w) (BitVec.ofNat 32 (leNat (s.own v ea 4)))).retire)))

/-- ST. -/
def execSt (v : Vat) (w : Word56) (s : State) : Host.Outcome State Fault Refusal :=
  answer s (scalarAccess s v 0x2D w [spare w true true false false true, aReg (fSa w)] ⟨[fDst w], [fSa w], []⟩ 4 true
    (fun ea s => (s.setOwn v ea (leBytes 4 ((s.vat v).s (fDst w)).toNat)).onVat v VatState.retire))

/-- LDA: bits 63:48 of the word are ignored. -/
def execLda (v : Vat) (w : Word56) (s : State) : Host.Outcome State Fault Refusal :=
  answer s (scalarAccess s v 0x2E w [spare w true true false false true, aReg (fDst w), aReg (fSa w)] ⟨[], [fDst w, fSa w], []⟩ 8 false
    (fun ea s => s.onVat v (fun x => (x.setA (fDst w) (BitVec.ofNat 48 (leNat (s.own v ea 8)))).retire)))

/-- STA. -/
def execSta (v : Vat) (w : Word56) (s : State) : Host.Outcome State Fault Refusal :=
  answer s (scalarAccess s v 0x2F w [spare w true true false false true, aReg (fDst w), aReg (fSa w)] ⟨[], [fDst w, fSa w], []⟩ 8 true
    (fun ea s => (s.setOwn v ea (leBytes 8 ((s.vat v).a (fDst w)).toNat)).onVat v VatState.retire))

/-- The address of R236: A[AR] + 64 sext(IMM16, 16) modulo 2^48. -/
def VatState.vectorAddr (x : VatState) (w : Word56) : Nat := (x.a (vAr w) + 64 * (BitVec.ofNat 16 (vImm w)).signExtend 48).toNat

/-- VLD. -/
def execVld (v : Vat) (w : Word56) (s : State) : Host.Outcome State Fault Refusal :=
  answer s (issue s v 0x8F w (illegal [vSpare w true false false false false false true false true]) ⟨[], [vAr w], [fDst w]⟩ (fun s =>
    let ea := (s.vat v).vectorAddr w
    memAccess s v ea 256 64 0x1FFF00 false (fun s => s.onVat v (fun x => (x.setV (fDst w) (words 64 (s.own v ea 256))).retire))))

/-- VST: the register is named by VD. -/
def execVst (v : Vat) (w : Word56) (s : State) : Host.Outcome State Fault Refusal :=
  answer s (issue s v 0x90 w (illegal [vSpare w true false false false false false true false true]) ⟨[], [vAr w], [fDst w]⟩ (fun s =>
    let ea := (s.vat v).vectorAddr w
    memAccess s v ea 256 64 0x1FFF00 true (fun s =>
      (s.setOwn v ea (((s.vat v).lanes (fDst w)).flatMap (fun l => leBytes 4 l.toNat))).onVat v VatState.retire)))

end Sys2Proof.Machine
end

