-- ==== Sys2Proof/Machine/VatSync.lean ====
section
/-! DEFINITION. Sync instructions of a vat and what comes back for them (05 R196-R201; 10 R392-R398). -/
namespace Sys2Proof.Machine
open Sys2Proof

/-- The vid of a sync instruction (R196). -/
def VatState.vid (x : VatState) (w : Word56) : Nat := (fImm w % 4096 + (x.s (fSa w)).toNat) % 4096

/-- Posted operations of a vat that are outstanding: not yet applied, or remote and waiting for a tag (R196; 09 R373). -/
def VatState.posted (x : VatState) : Nat :=
  (x.syncq.filter (fun e => match e.req with | .add _ _ => true | .set _ _ => true | .unwatch _ => true | _ => false)).length + x.remote

/-- Sends an operation on its way and applies what is ready (R179). -/
def State.sendSync (s : State) (v : Nat) (r : SyncReq) (f : VatState → VatState) : State :=
  (s.onVat v (fun x => f { x with syncq := x.syncq ++ [(⟨r, x.nextAge, x.pc⟩ : SyncEntry)], nextAge := x.nextAge + 1 })).runSync v

/-- A posted operation: a 17th outstanding one stalls issue. -/
def State.postSync (s : State) (v : Nat) (r : SyncReq) : State :=
  if 16 ≤ (s.vat v).posted then s else s.sendSync v r VatState.retire

/-- The amount of SADD: s(S[b]), or the immediate (R197). -/
def saddAmount (x : VatState) (w : Word56) : Int :=
  if fFn w = 0 then sgn 32 (x.s (fSb w)).toNat else sgn 20 (fImm w / 4096)

/-- SADD. -/
def execSadd (v : Vat) (w : Word56) (s : State) : Host.Outcome State Fault Refusal :=
  answer s (issue s v 0x58 w (illegal [spare w false true true true true,
      unused (if fFn w = 0 then fImm w / 4096 else if fFn w = 1 then fSb w else 0), undef (decide (2 ≤ fFn w))])
    ⟨[fSa w, fSb w], [], []⟩ (fun s => s.postSync v (.add ((s.vat v).vid w) (saddAmount (s.vat v) w))))

/-- SSET. -/
def execSset (v : Vat) (w : Word56) (s : State) : Host.Outcome State Fault Refusal :=
  answer s (issue s v 0x59 w (illegal [spare w false true true false true, unused (fImm w / 4096)]) ⟨[fSa w, fSb w], [], []⟩
    (fun s => s.postSync v (.set ((s.vat v).vid w) ((s.vat v).s (fSb w)))))

/-- SRD: S[d] waits for the value. -/
def execSrd (v : Vat) (w : Word56) (s : State) : Host.Outcome State Fault Refusal :=
  answer s (issue s v 0x5A w (illegal [spare w true true false false true, unused (fImm w / 4096)]) ⟨[fDst w, fSa w], [], []⟩
    (fun s => s.sendSync v (.read ((s.vat v).vid w) (fDst w)) VatState.retire))

/-- SWAIT on a plain watch (R198). -/
def execSwait (v : Vat) (w : Word56) (s : State) : Host.Outcome State Fault Refusal :=
  answer s (issue s v 0x5B w (illegal [spare w true true true true true, unused (fImm w / 4096), undef (decide (2 ≤ fFn w))])
    ⟨[fDst w, fSa w, fSb w], [], []⟩ (fun s =>
      if (s.vat v).pendLstat then s
      else s.sendSync v (.wait ((s.vat v).vid w) (fFn w == 1) ((s.vat v).s (fSb w))) (fun x => { x with run := .syncWait (fDst w) })))

/-- SCLAIM on a claiming watch; an amount of zero is granted at once (R198). -/
def execSclaim (v : Vat) (w : Word56) (s : State) : Host.Outcome State Fault Refusal :=
  answer s (issue s v 0x5C w (illegal [spare w true true true false true, unused (fImm w / 4096)])
    ⟨[fDst w, fSa w, fSb w], [], []⟩ (fun s =>
      if (s.vat v).pendLstat then s
      else if (s.vat v).s (fSb w) = 0 then s.onVat v (fun x => { x.setS (fDst w) 0 with lstat := 0 }.retire)
      else s.sendSync v (.claim ((s.vat v).vid w) ((s.vat v).s (fSb w))) (fun x => { x with run := .syncWait (fDst w) })))

/-- BARR (R199). -/
def execBarr (v : Vat) (w : Word56) (s : State) : Host.Outcome State Fault Refusal :=
  answer s (issue s v 0x5F w (illegal [spare w false true false false true, unused (fImm w / 4096)]) ⟨[fSa w], [], []⟩
    (fun s =>
      if (s.vat v).pendLstat then s
      else s.sendSync v (.arrive ((s.vat v).vid w)) (fun x => { x with run := .barrierWait })))

/-- WATCH: i[31:16] is reserved; condition codes 0-2 and targets 0 and 8-15 are defined (R200). -/
def execWatch (v : Vat) (w : Word56) (s : State) : Host.Outcome State Fault Refusal :=
  let t := fld (fImm w) 12 4
  answer s (issue s v 0x5D w (illegal [spare w true true true true true, unused (fImm w / 65536),
      undef (decide (3 ≤ fFn w) || (decide (1 ≤ t) && decide (t ≤ 7)))])
    ⟨[fDst w, fSa w, fSb w], [], []⟩ (fun s =>
      s.sendSync v (.watch ((s.vat v).vid w) (fFn w) ((s.vat v).s (fSb w)) t (fDst w)) VatState.retire))

/-- UNWATCH. -/
def execUnwatch (v : Vat) (w : Word56) (s : State) : Host.Outcome State Fault Refusal :=
  answer s (issue s v 0x5E w (illegal [spare w false true false false false]) ⟨[fSa w], [], []⟩
    (fun s => s.postSync v (.unwatch (((s.vat v).s (fSa w)).setWidth 16))))

/-- SYNC_READ_RESULT: the oldest result of SRD or WATCH returns (R174, R197, R200). -/
def execSyncReadResult (v : Vat) (s : State) : Host.Outcome State Fault Refusal :=
  answer s (match (s.vat v).results with
    | [] => s
    | r :: rest => s.onVat v (fun x =>
      let x := { x with results := rest }.setS r.d r.value
      match r.lstat with
      | some l => { x with lstat := l }
      | none => x))

/-- WAIT_NOTIFICATION: the one notification of a wait ends it; a gated vat takes it when it is ungated (R178, R198, R199, R201). -/
def execWaitNotification (v : Vat) (s : State) : Host.Outcome State Fault Refusal :=
  answer s (match (s.vat v).notices, (s.vat v).gated with
    | n :: rest, false =>
      match (s.vat v).run with
      | .syncWait d => s.onVat v (fun x =>
          ({ x with notices := rest, run := .issuing, lstat := n.status }.setS d n.value).retire)
      | .barrierWait => s.onVat v (fun x => { x with notices := rest, run := .issuing, lstat := n.status }.retire)
      | _ => s
    | _, _ => s)

/-- SYNC_FAULT_NOTICE: the notice of a sync-unit fault reaches the vat, which stops issuing; the faulting operation's result is the one of
R196. A wait that it ends does so with VALUE_REFUSED. -/
def execSyncFaultNotice (v : Vat) (s : State) : Host.Outcome State Fault Refusal :=
  answer s (match (s.vat v).echoes with
    | [] => s
    | e :: rest => s.onVat v (fun x =>
      let x := { x with echoes := rest, stopped := true }
      let refused := BitVec.ofNat 16 stRefused
      match e with
      | .none => x
      | .read d => x.setS d 0
      | .watch d => { x.setS d 0xFFFFFFFF with lstat := refused }
      | .wait =>
        match x.run with
        | .syncWait d => ({ x with run := .issuing, lstat := refused }.setS d 0).retire
        | .barrierWait => ({ x with run := .issuing, lstat := refused }).retire
        | _ => x))

end Sys2Proof.Machine
end

