-- ==== Sys2Proof/Machine/Dispatch.lean ====
section
/-! DEFINITION. The meaning of every command: one arm per constructor. -/
namespace Sys2Proof.Machine
open Sys2Proof

def exec (i : Instr) (s : State) : Host.Outcome State Fault Refusal :=
  match i with
  | .gridTick => Sys2Proof.Machine.execGridTick s
  | .ftimeSyncSend => Sys2Proof.Machine.execFtimeSyncSend s
  | .time p u => Sys2Proof.Machine.execTime p u s
  | .htimeStep ns => Sys2Proof.Machine.execHtimeStep ns s
  | .atimeCorrection err => Sys2Proof.Machine.execAtimeCorrection err s
  | .snapTake w => Sys2Proof.Machine.execSnapTake w s
  | .ptmResponse => Sys2Proof.Machine.execPtmResponse s
  | .selector p m => Sys2Proof.Machine.execSelector p m s
  | .holdRequest p f => Sys2Proof.Machine.execHoldRequest p f s
  | .holdRelease c => Sys2Proof.Machine.execHoldRelease c s
  | .extensionCheck c => Sys2Proof.Machine.execExtensionCheck c s
  | .softResumeWindow c => Sys2Proof.Machine.execSoftResumeWindow c s
  | .launchArmBarrier c => Sys2Proof.Machine.execLaunchArmBarrier c s
  | .launchArmFtime c => Sys2Proof.Machine.execLaunchArmFtime c s
  | .launchArmIdle c => Sys2Proof.Machine.execLaunchArmIdle c s
  | .compareFire n => Sys2Proof.Machine.execCompareFire n s
  | .tinEdge pin rising => Sys2Proof.Machine.execTinEdge pin rising s
  | .tpulseEnd pin => Sys2Proof.Machine.execTpulseEnd pin s
  | .ownerWrite ix sub client value => Sys2Proof.Machine.execOwnerWrite ix sub client value s
  | .latchedRead off => Sys2Proof.Machine.execLatchedRead off s
  | .stagedHalfWrite off value => Sys2Proof.Machine.execStagedHalfWrite off value s
  | .registerWrite off wide value => Sys2Proof.Machine.execRegisterWrite off wide value s
  | .droopStretch v consecutive => Sys2Proof.Machine.execDroopStretch v consecutive s
  | .adaptRecover v => Sys2Proof.Machine.execAdaptRecover v s
  | .temperatureRead v degrees => Sys2Proof.Machine.execTemperatureRead v degrees s
  | .islandGate v => Sys2Proof.Machine.execIslandGate v s
  | .islandUngate c => Sys2Proof.Machine.execIslandUngate c s
  | .pailReadyMark v => Sys2Proof.Machine.execPailReadyMark v s
  | .tickWaitRelease v => Sys2Proof.Machine.execTickWaitRelease v s
  | .stimeReadResult v => Sys2Proof.Machine.execStimeReadResult v s
  | .tokenRequest v => Sys2Proof.Machine.execTokenRequest v s
  | .tokenGraceExpiry c => Sys2Proof.Machine.execTokenGraceExpiry c s
  | .laneWakeStart p => Sys2Proof.Machine.execLaneWakeStart p s
  | .nop v w => Sys2Proof.Machine.execNop v w s
  | .add v w => Sys2Proof.Machine.execAdd v w s
  | .sub v w => Sys2Proof.Machine.execSub v w s
  | .mul v w => Sys2Proof.Machine.execMul v w s
  | .mulhu v w => Sys2Proof.Machine.execMulhu v w s
  | .mulhs v w => Sys2Proof.Machine.execMulhs v w s
  | .and v w => Sys2Proof.Machine.execAnd v w s
  | .or v w => Sys2Proof.Machine.execOr v w s
  | .xor v w => Sys2Proof.Machine.execXor v w s
  | .shl v w => Sys2Proof.Machine.execShl v w s
  | .shr v w => Sys2Proof.Machine.execShr v w s
  | .sra v w => Sys2Proof.Machine.execSra v w s
  | .min v w => Sys2Proof.Machine.execMin v w s
  | .max v w => Sys2Proof.Machine.execMax v w s
  | .minu v w => Sys2Proof.Machine.execMinu v w s
  | .maxu v w => Sys2Proof.Machine.execMaxu v w s
  | .cmp v w => Sys2Proof.Machine.execCmp v w s
  | .plog v w => Sys2Proof.Machine.execPlog v w s
  | .aadd v w => Sys2Proof.Machine.execAadd v w s
  | .amov v w => Sys2Proof.Machine.execAmov v w s
  | .agetl v w => Sys2Proof.Machine.execAgetl v w s
  | .ageth v w => Sys2Proof.Machine.execAgeth v w s
  | .movi v w => Sys2Proof.Machine.execMovi v w s
  | .addi v w => Sys2Proof.Machine.execAddi v w s
  | .andi v w => Sys2Proof.Machine.execAndi v w s
  | .ori v w => Sys2Proof.Machine.execOri v w s
  | .xori v w => Sys2Proof.Machine.execXori v w s
  | .shli v w => Sys2Proof.Machine.execShli v w s
  | .shri v w => Sys2Proof.Machine.execShri v w s
  | .srai v w => Sys2Proof.Machine.execSrai v w s
  | .cmpi v w => Sys2Proof.Machine.execCmpi v w s
  | .amovi v w => Sys2Proof.Machine.execAmovi v w s
  | .amovh v w => Sys2Proof.Machine.execAmovh v w s
  | .aaddi v w => Sys2Proof.Machine.execAaddi v w s
  | .ld v w => Sys2Proof.Machine.execLd v w s
  | .st v w => Sys2Proof.Machine.execSt v w s
  | .lda v w => Sys2Proof.Machine.execLda v w s
  | .sta v w => Sys2Proof.Machine.execSta v w s
  | .br v w => Sys2Proof.Machine.execBr v w s
  | .brl v w => Sys2Proof.Machine.execBrl v w s
  | .jmpa v w => Sys2Proof.Machine.execJmpa v w s
  | .loop v w => Sys2Proof.Machine.execLoop v w s
  | .halt v w => Sys2Proof.Machine.execHalt v w s
  | .mfsr v w => Sys2Proof.Machine.execMfsr v w s
  | .evt v w => Sys2Proof.Machine.execEvt v w s
  | .twait v w => Sys2Proof.Machine.execTwait v w s
  | .rdst v w => Sys2Proof.Machine.execRdst v w s
  | .pready v w => Sys2Proof.Machine.execPready v w s
  | .sel v w => Sys2Proof.Machine.execSel v w s
  | .sadd v w => Sys2Proof.Machine.execSadd v w s
  | .sset v w => Sys2Proof.Machine.execSset v w s
  | .srd v w => Sys2Proof.Machine.execSrd v w s
  | .swait v w => Sys2Proof.Machine.execSwait v w s
  | .sclaim v w => Sys2Proof.Machine.execSclaim v w s
  | .barr v w => Sys2Proof.Machine.execBarr v w s
  | .watch v w => Sys2Proof.Machine.execWatch v w s
  | .unwatch v w => Sys2Proof.Machine.execUnwatch v w s
  | .waitNotification v => Sys2Proof.Machine.execWaitNotification v s
  | .syncFaultNotice v => Sys2Proof.Machine.execSyncFaultNotice v s
  | .wclr v w => Sys2Proof.Machine.execWclr v w s
  | .mma v w => Sys2Proof.Machine.execMma v w s
  | .tld v w => Sys2Proof.Machine.execTld v w s
  | .wpadd v w => Sys2Proof.Machine.execWpadd v w s
  | .wpack v w => Sys2Proof.Machine.execWpack v w s
  | .wcvt v w => Sys2Proof.Machine.execWcvt v w s
  | .wtov v w => Sys2Proof.Machine.execWtov v w s
  | .wstat v w => Sys2Proof.Machine.execWstat v w s
  | .vadd v w => Sys2Proof.Machine.execVadd v w s
  | .vsub v w => Sys2Proof.Machine.execVsub v w s
  | .vmul v w => Sys2Proof.Machine.execVmul v w s
  | .vfma v w => Sys2Proof.Machine.execVfma v w s
  | .vmin v w => Sys2Proof.Machine.execVmin v w s
  | .vmax v w => Sys2Proof.Machine.execVmax v w s
  | .vcmp v w => Sys2Proof.Machine.execVcmp v w s
  | .vsel v w => Sys2Proof.Machine.execVsel v w s
  | .vcvt v w => Sys2Proof.Machine.execVcvt v w s
  | .vfun v w => Sys2Proof.Machine.execVfun v w s
  | .vred v w => Sys2Proof.Machine.execVred v w s
  | .vlog v w => Sys2Proof.Machine.execVlog v w s
  | .vbcast v w => Sys2Proof.Machine.execVbcast v w s
  | .vext v w => Sys2Proof.Machine.execVext v w s
  | .vperm v w => Sys2Proof.Machine.execVperm v w s
  | .vld v w => Sys2Proof.Machine.execVld v w s
  | .vst v w => Sys2Proof.Machine.execVst v w s
  | .spcmp v w => Sys2Proof.Machine.execSpcmp v w s
  | .spexp v w => Sys2Proof.Machine.execSpexp v w s
  | .spgath v w => Sys2Proof.Machine.execSpgath v w s
  | .spscat v w => Sys2Proof.Machine.execSpscat v w s
  | .topk v w => Sys2Proof.Machine.execTopk v w s
  | .disp v w => Sys2Proof.Machine.execDisp v w s
  | .xcopy v w => Sys2Proof.Machine.execXcopy v w s
  | .xfill v w => Sys2Proof.Machine.execXfill v w s
  | .xexp v w => Sys2Proof.Machine.execXexp v w s
  | .xchurn v w => Sys2Proof.Machine.execXchurn v w s
  | .xgath v w => Sys2Proof.Machine.execXgath v w s
  | .xstat v w => Sys2Proof.Machine.execXstat v w s
  | .engineComplete v e => Sys2Proof.Machine.execEngineComplete v e s
  | .channelSlot ch => Sys2Proof.Machine.execChannelSlot ch s
  | .granuleComplete ch errs => Sys2Proof.Machine.execGranuleComplete ch errs s
  | .autonomousRefresh die => Sys2Proof.Machine.execAutonomousRefresh die s
  | .hotRefreshHold die => Sys2Proof.Machine.execHotRefreshHold die s
  | .dramTemperaturePoll pkg temp band beyond => Sys2Proof.Machine.execDramTemperaturePoll pkg temp band beyond s
  | .hostDramRead addr len errs => Sys2Proof.Machine.execHostDramRead addr len errs s
  | .hostDramWrite addr data errs => Sys2Proof.Machine.execHostDramWrite addr data errs s
  | .hostSramRead addr len => Sys2Proof.Machine.execHostSramRead addr len s
  | .hostSramWrite addr data => Sys2Proof.Machine.execHostSramWrite addr data s
  | .sramClearDone => Sys2Proof.Machine.execSramClearDone s
  | .bankOpen c b => Sys2Proof.Machine.execBankOpen c b s
  | .bankCommit c b => Sys2Proof.Machine.execBankCommit c b s
  | .bankDiscard c b => Sys2Proof.Machine.execBankDiscard c b s
  | .data p u => Sys2Proof.Machine.execData p u s
  | .landingComplete c => Sys2Proof.Machine.execLandingComplete c s
  | .switchArmTimed c => Sys2Proof.Machine.execSwitchArmTimed c s
  | .switchArmCancel c => Sys2Proof.Machine.execSwitchArmCancel c s
  | .fenceWrite c off data => Sys2Proof.Machine.execFenceWrite c off data s
  | .fabricResetRequest => Sys2Proof.Machine.execFabricResetRequest s
  | .fabricResetForce => Sys2Proof.Machine.execFabricResetForce s
  | .signalDetect p => Sys2Proof.Machine.execSignalDetect p s
  | .equalizeDone p => Sys2Proof.Machine.execEqualizeDone p s
  | .lockDone p lanes => Sys2Proof.Machine.execLockDone p lanes s
  | .param p u => Sys2Proof.Machine.execParam p u s
  | .delayReq p u => Sys2Proof.Machine.execDelayReq p u s
  | .delayResp p u => Sys2Proof.Machine.execDelayResp p u s
  | .trainingRetry p => Sys2Proof.Machine.execTrainingRetry p s
  | .retrainReq p u => Sys2Proof.Machine.execRetrainReq p u s
  | .resetReq p u => Sys2Proof.Machine.execResetReq p u s
  | .retrainStart p => Sys2Proof.Machine.execRetrainStart p s
  | .retrainTimeout p => Sys2Proof.Machine.execRetrainTimeout p s
  | .idle p u => Sys2Proof.Machine.execIdle p u s
  | .sleep p u => Sys2Proof.Machine.execSleep p u s
  | .unitCrcFail p => Sys2Proof.Machine.execUnitCrcFail p s
  | .nakTimer p => Sys2Proof.Machine.execNakTimer p s
  | .ackDue p => Sys2Proof.Machine.execAckDue p s
  | .lossOfSignal p => Sys2Proof.Machine.execLossOfSignal p s
  | .linkCtrlRetrain p => Sys2Proof.Machine.execLinkCtrlRetrain p s
  | .linkCtrlReset p => Sys2Proof.Machine.execLinkCtrlReset p s
  | .linkCtrlWakePeer p => Sys2Proof.Machine.execLinkCtrlWakePeer p s
  | .creditTimeout p => Sys2Proof.Machine.execCreditTimeout p s
  | .creditReturnDue p => Sys2Proof.Machine.execCreditReturnDue p s
  | .bcastAgeOut => Sys2Proof.Machine.execBcastAgeOut s
  | .rateWindow => Sys2Proof.Machine.execRateWindow s
  | .skimReqTimeout tag => Sys2Proof.Machine.execSkimReqTimeout tag s
  | .counterOperation p m => Sys2Proof.Machine.execCounterOperation p m s
  | .barrierArrival p m => Sys2Proof.Machine.execBarrierArrival p m s
  | .barrierRelease p m => Sys2Proof.Machine.execBarrierRelease p m s
  | .proxiedHostRequest p m => Sys2Proof.Machine.execProxiedHostRequest p m s
  | .dictionaryRequest p m => Sys2Proof.Machine.execDictionaryRequest p m s
  | .watchNotification p m => Sys2Proof.Machine.execWatchNotification p m s
  | .faultNotice p m => Sys2Proof.Machine.execFaultNotice p m s
  | .reply p m => Sys2Proof.Machine.execReply p m s
  | .statusCompletion p m => Sys2Proof.Machine.execStatusCompletion p m s
  | .echo p m => Sys2Proof.Machine.execEcho p m s
  | .wakePattern p => Sys2Proof.Machine.execWakePattern p s
  | .wakeBurst p => Sys2Proof.Machine.execWakeBurst p s
  | .wakeTimeout p => Sys2Proof.Machine.execWakeTimeout p s
  | .spOpAdd w => Sys2Proof.Machine.execSpOpAdd w s
  | .spOpSet w => Sys2Proof.Machine.execSpOpSet w s
  | .spOpArrive w => Sys2Proof.Machine.execSpOpArrive w s
  | .spRdreq w => Sys2Proof.Machine.execSpRdreq w s
  | .spWatch w => Sys2Proof.Machine.execSpWatch w s
  | .spUnwatch w => Sys2Proof.Machine.execSpUnwatch w s
  | .ctxResetReset c => Sys2Proof.Machine.execCtxResetReset c s
  | .ctxResetPreempt c => Sys2Proof.Machine.execCtxResetPreempt c s
  | .debugCounterSet client body => Sys2Proof.Machine.execDebugCounterSet client body s
  | .debugBarrierRelease client body => Sys2Proof.Machine.execDebugBarrierRelease client body s
  | .eventResume data => Sys2Proof.Machine.execEventResume data s
  | .lockstepEnable on => Sys2Proof.Machine.execLockstepEnable on s
  | .lockstepSignature u => Sys2Proof.Machine.execLockstepSignature u s
  | .lockstepTimeout => Sys2Proof.Machine.execLockstepTimeout s
  | .perturbArm client n => Sys2Proof.Machine.execPerturbArm client n s
  | .perturbDisarm client n => Sys2Proof.Machine.execPerturbDisarm client n s
  | .perturbEnable client on => Sys2Proof.Machine.execPerturbEnable client on s
  | .perturbInject n => Sys2Proof.Machine.execPerturbInject n s
  | .powerSample watts => Sys2Proof.Machine.execPowerSample watts s
  | .budgetW client watts => Sys2Proof.Machine.execBudgetW client watts s
  | .budgetReport c body => Sys2Proof.Machine.execBudgetReport c body s
  | .budgetReportRetry c => Sys2Proof.Machine.execBudgetReportRetry c s
  | .thermalLoop tmax kind => Sys2Proof.Machine.execThermalLoop tmax kind s
  | .thermalTrip kind index temp limit => Sys2Proof.Machine.execThermalTrip kind index temp limit s
  | .thermalShutdown => Sys2Proof.Machine.execThermalShutdown s
  | .pfailN vin iin bulk => Sys2Proof.Machine.execPfailN vin iin bulk s
  | .underVoltage vin iin bulk pfail => Sys2Proof.Machine.execUnderVoltage vin iin bulk pfail s
  | .powerFailCommitDone => Sys2Proof.Machine.execPowerFailCommitDone s
  | .bulkDepleted => Sys2Proof.Machine.execBulkDepleted s
  | .inputRestored micros => Sys2Proof.Machine.execInputRestored micros s
  | .voteOwn client w => Sys2Proof.Machine.execVoteOwn client w s
  | .domainFall d => Sys2Proof.Machine.execDomainFall d s
  | .domainTransitionDone d => Sys2Proof.Machine.execDomainTransitionDone d s
  | .offRequest client => Sys2Proof.Machine.execOffRequest client s
  | .wakeN => Sys2Proof.Machine.execWakeN s
  | .wakeHoldExpiry => Sys2Proof.Machine.execWakeHoldExpiry s
  | .pcieFlr => Sys2Proof.Machine.execPcieFlr s
  | .pcieHotReset => Sys2Proof.Machine.execPcieHotReset s
  | .pcieLinkLost => Sys2Proof.Machine.execPcieLinkLost s
  | .perstN low => Sys2Proof.Machine.execPerstN low s
  | .msixUnmask n => Sys2Proof.Machine.execMsixUnmask n s
  | .mbGo m => Sys2Proof.Machine.execMbGo m s
  | .mbDataWrite m n value => Sys2Proof.Machine.execMbDataWrite m n value s
  | .mbTake m => Sys2Proof.Machine.execMbTake m s
  | .mbAcknowledge m code => Sys2Proof.Machine.execMbAcknowledge m code s
  | .mbAckRead m => Sys2Proof.Machine.execMbAckRead m s
  | .mbHack m w => Sys2Proof.Machine.execMbHack m w s
  | .mpMailboxPost m words => Sys2Proof.Machine.execMpMailboxPost m words s
  | .dbIn bits => Sys2Proof.Machine.execDbIn bits s
  | .dbOutSet n => Sys2Proof.Machine.execDbOutSet n s
  | .eqEnable q w => Sys2Proof.Machine.execEqEnable q w s
  | .eqConsWrite q w => Sys2Proof.Machine.execEqConsWrite q w s
  | .eqCoalesceTimer q => Sys2Proof.Machine.execEqCoalesceTimer q s
  | .proxyGo slot w => Sys2Proof.Machine.execProxyGo slot w s
  | .proxyHome pnid => Sys2Proof.Machine.execProxyHome pnid s
  | .xFunctionScheduled x => Sys2Proof.Machine.execXFunctionScheduled x s
  | .xFunctionStorage x => Sys2Proof.Machine.execXFunctionStorage x s
  | .xFunctionBridge x => Sys2Proof.Machine.execXFunctionBridge x s
  | .dictRead slot cmd => Sys2Proof.Machine.execDictRead slot cmd s
  | .dictWrite slot cmd dma => Sys2Proof.Machine.execDictWrite slot cmd dma s
  | .dictDesc slot cmd => Sys2Proof.Machine.execDictDesc slot cmd s
  | .dictNext slot cmd => Sys2Proof.Machine.execDictNext slot cmd s
  | .domainChunk slot => Sys2Proof.Machine.execDomainChunk slot s
  | .restoreDefaults client => Sys2Proof.Machine.execRestoreDefaults client s
  | .debugToken client off data => Sys2Proof.Machine.execDebugToken client off data s
  | .tokenLockoutEnd => Sys2Proof.Machine.execTokenLockoutEnd s
  | .debugClose client => Sys2Proof.Machine.execDebugClose client s
  | .debugSessionExpiry => Sys2Proof.Machine.execDebugSessionExpiry s
  | .canRead bcast frame => Sys2Proof.Machine.execCanRead bcast frame s
  | .canWrite bcast frame => Sys2Proof.Machine.execCanWrite bcast frame s
  | .canDesc bcast frame => Sys2Proof.Machine.execCanDesc bcast frame s
  | .canNext bcast frame => Sys2Proof.Machine.execCanNext bcast frame s
  | .segment frame => Sys2Proof.Machine.execSegment frame s
  | .blockAck frame => Sys2Proof.Machine.execBlockAck frame s
  | .abort frame => Sys2Proof.Machine.execAbort frame s
  | .canSegTimeout => Sys2Proof.Machine.execCanSegTimeout s
  | .heartbeat => Sys2Proof.Machine.execHeartbeat s
  | .canBusOffRecovery => Sys2Proof.Machine.execCanBusOffRecovery s
  | .resetRelease samples fref => Sys2Proof.Machine.execResetRelease samples fref s
  | .norVerifyDone => Sys2Proof.Machine.execNorVerifyDone s
  | .pushWindowEnd => Sys2Proof.Machine.execPushWindowEnd s
  | .bootWatchdog => Sys2Proof.Machine.execBootWatchdog s
  | .moduleReset client => Sys2Proof.Machine.execModuleReset client s
  | .fwImage client off data => Sys2Proof.Machine.execFwImage client off data s
  | .fwVerify client => Sys2Proof.Machine.execFwVerify client s
  | .fwVerifyDone => Sys2Proof.Machine.execFwVerifyDone s
  | .fwActivate client => Sys2Proof.Machine.execFwActivate client s
  | .fwProgram client => Sys2Proof.Machine.execFwProgram client s
  | .fwProgramDone ok => Sys2Proof.Machine.execFwProgramDone ok s
  | .fwClear client => Sys2Proof.Machine.execFwClear client s
  | .fwBootNor client => Sys2Proof.Machine.execFwBootNor client s
  | .fwIdleTimeout => Sys2Proof.Machine.execFwIdleTimeout s
  | .fwWatchdog => Sys2Proof.Machine.execFwWatchdog s
  | .echoService m => Sys2Proof.Machine.execEchoService m s
  | .restartMp m => Sys2Proof.Machine.execRestartMp m s
  | .configCompact m bad => Sys2Proof.Machine.execConfigCompact m bad s
  | .csCompact client bad => Sys2Proof.Machine.execCsCompact client bad s
  | .rollbackFloor client value => Sys2Proof.Machine.execRollbackFloor client value s
  | .attestNonce client data => Sys2Proof.Machine.execAttestNonce client data s
  | .attestDone => Sys2Proof.Machine.execAttestDone s
  | .mateN low => Sys2Proof.Machine.execMateN low s
  | .inputSwitchClose => Sys2Proof.Machine.execInputSwitchClose s
  | .overVoltage vin iin bulk => Sys2Proof.Machine.execOverVoltage vin iin bulk s
  | .softStartDone => Sys2Proof.Machine.execSoftStartDone s
  | .frefLost ppb => Sys2Proof.Machine.execFrefLost ppb s
  | .frefFailoverLock => Sys2Proof.Machine.execFrefFailoverLock s
  | .frefReturn => Sys2Proof.Machine.execFrefReturn s
  | .pcieLinkTrained width gen => Sys2Proof.Machine.execPcieLinkTrained width gen s
  | .pcieLinkStateExit => Sys2Proof.Machine.execPcieLinkStateExit s
  | .firmwareReportsRunning identity => Sys2Proof.Machine.execFirmwareReportsRunning identity s
  | .syncReadResult v => Sys2Proof.Machine.execSyncReadResult v s
  | .trainingSequence p stored => Sys2Proof.Machine.execTrainingSequence p stored s
  | .undefinedOpcode v w => Sys2Proof.Machine.execUndefinedOpcode v w s

end Sys2Proof.Machine
end

