-- ==== Sys2Proof/Safety.lean ====
section
/-! DEFINITION. What counts as a safe run, and the terms the statements use. -/
namespace Sys2Proof.Machine
open Sys2Proof

/-- A step goes on: it answers a next state, neither a fault nor a refusal. -/
def StepGoesOn (s : State) : Prop := ∃ t, step s = .next t

/-- The command answers a next state: `t`, with the waiting commands as they were. -/
def Runs (c : Instr) (s t : State) : Prop := exec c s = .next { t with pending := s.pending }

/-- A vat stands at an instruction that issues normally: it is running its program, no fault has stopped it and its island is not gated; its
address is in vat SRAM; the predicate holds; and every register the instruction uses is at hand (05 R170, R174, R175, R180). -/
def Ready (s : State) (v : Nat) (w : Word56) (u : Uses) : Prop :=
  (s.vat v).canIssue = true ∧ (s.vat v).pc.toNat < vatSize ∧ (s.vat v).pred w = true ∧ (s.vat v).free u = true

/-- Every field of a list is zero, as R169 asks of the fields an instruction does not use. -/
def AllZero (l : List Nat) : Prop := ∀ n ∈ l, n = 0

/-- A vat that has taken an instruction into a queue of an engine, with the registers it uses (06 R204, R206); queues begin what they can. -/
def queuedAt (s : State) (v : Nat) (e : Engine) (o : EngineOp) : State :=
  (s.setVat v { s.vat v with
    queue := (s.vat v).queue ++ [(⟨e, o, (s.vat v).nextAge, (s.vat v).pc, false⟩ : QEntry)], nextAge := (s.vat v).nextAge + 1 }.retire).startEngines v

/-- Room in the queue of an engine: two entries, eight for the transfer engine (R204). -/
def roomFor (s : State) (v : Nat) (e : Engine) (n : Nat) : Prop := ((s.vat v).queue.filter (fun q => q.eng == e)).length < n

/-- What a read of any byte of the module's memories gives is the same: pail and vat SRAM, the churn extensions, and DRAM. -/
def SameMemory (s t : State) : Prop :=
  (∀ a, t.sramRead a 1 = s.sramRead a 1) ∧ (∀ a, t.dramRead a 1 = s.dramRead a 1) ∧ ∀ n, t.ext16 n = s.ext16 n

/-- Two states agree in everything but the vats. -/
def SameButVats (s t : State) : Prop := t = { s with vats := t.vats }

/-- Two states agree in everything but the ports. -/
def SameButPorts (s t : State) : Prop := t = { s with ports := t.ports }

/-- Every waiting command is one that can arrive. -/
def QueueWellFormed (s : State) : Prop := ∀ c ∈ s.pending, c.wellFormed = true

end Sys2Proof.Machine
end

