-- ==== Sys2Proof/Certificates/Slice0/Obligations.lean ====
section
/-! DEFINITION. What is claimed of the module, family by family. A result statement says the whole next state that a command answers, so it is also its
frame; `Runs c s t` says that the command answers t with the waiting commands as they were. -/
open Sys2Proof Sys2Proof.Machine

/-! ### Vats: scalar, predicate and address instructions (05) -/

/-- R181: the arithmetic of S[a] and S[b], with the unused fields zero (R169). Registers are 32 bits wide and results wrap. Nothing but the vat changes. -/
def Obligations.AluRegisterResults : Prop :=
  ∀ (s : State) (v : Vat) (w : Word56), Ready s v w ⟨[fDst w, fSa w, fSb w], [], []⟩ → fFn w = 0 → fImm w = 0 →
    let a := (s.vat v).s (fSa w)
    let b := (s.vat v).s (fSb w)
    let put := fun (r : W32) => s.setVat v ((s.vat v).setS (fDst w) r).retire
    Runs (.add v w) s (put (a + b)) ∧ Runs (.sub v w) s (put (a - b)) ∧ Runs (.mul v w) s (put (a * b)) ∧
    Runs (.mulhu v w) s (put (BitVec.ofNat 32 (a.toNat * b.toNat / 2 ^ 32))) ∧
    Runs (.mulhs v w) s (put (BitVec.ofInt 32 (a.toInt * b.toInt / 2 ^ 32))) ∧
    Runs (.and v w) s (put (a &&& b)) ∧ Runs (.or v w) s (put (a ||| b)) ∧ Runs (.xor v w) s (put (a ^^^ b)) ∧
    Runs (.shl v w) s (put (a <<< (b.toNat % 32))) ∧ Runs (.shr v w) s (put (a >>> (b.toNat % 32))) ∧
    Runs (.sra v w) s (put (a.sshiftRight (b.toNat % 32))) ∧
    Runs (.min v w) s (put (if a.toInt ≤ b.toInt then a else b)) ∧ Runs (.max v w) s (put (if a.toInt < b.toInt then b else a)) ∧
    Runs (.minu v w) s (put (if a.toNat ≤ b.toNat then a else b)) ∧ Runs (.maxu v w) s (put (if a.toNat < b.toNat then b else a))

/-- R183: S[d] from S[a] and the 32-bit immediate; a shift amount is the low five bits of the immediate, and the rest of it must be zero, else the instruction is illegal with reason 2. -/
def Obligations.AluImmediateResults : Prop :=
  ∀ (s : State) (v : Vat) (w : Word56), Ready s v w ⟨[fDst w, fSa w], [], []⟩ → fSb w = 0 → fFn w = 0 →
    let a := (s.vat v).s (fSa w)
    let i : W32 := BitVec.ofNat 32 (fImm w)
    let put := fun (r : W32) => s.setVat v ((s.vat v).setS (fDst w) r).retire
    Runs (.addi v w) s (put (a + i)) ∧ Runs (.andi v w) s (put (a &&& i)) ∧ Runs (.ori v w) s (put (a ||| i)) ∧
    Runs (.xori v w) s (put (a ^^^ i)) ∧ (fSa w = 0 → Runs (.movi v w) s (put i)) ∧
    (fImm w < 32 → Runs (.shli v w) s (put (a <<< fImm w)) ∧ Runs (.shri v w) s (put (a >>> fImm w)) ∧
      Runs (.srai v w) s (put (a.sshiftRight (fImm w)))) ∧
    (32 ≤ fImm w → ∀ e ∈ [(Instr.shli v w, 0x25), (.shri v w, 0x26), (.srai v w, 0x27)],
      Runs e.1 s (s.vatFault v (illegalInfo v (s.vat v).pc.toNat e.2 w 2)))

/-- R182: the condition codes of CMP and CMPI, of which codes 7 to 31 are not defined and fault with reason 6; and PLOG, whose FN is the truth table of
any two-input function. -/
def Obligations.ConditionCodes : Prop :=
  (∀ x y : W32, Machine.cond 0 x y = decide (x = y) ∧ Machine.cond 1 x y = decide (x ≠ y) ∧ Machine.cond 2 x y = decide (x.toInt < y.toInt) ∧
    Machine.cond 3 x y = decide (y.toInt ≤ x.toInt) ∧ Machine.cond 4 x y = decide (x.toNat < y.toNat) ∧
    Machine.cond 5 x y = decide (y.toNat ≤ x.toNat) ∧ (Machine.cond 6 x y = true ↔ x &&& y ≠ 0)) ∧
  (∀ (s : State) (v : Vat) (w : Word56), (s.vat v).canIssue = true → (s.vat v).pc.toNat < vatSize → fDst w < 8 → 7 ≤ fFn w →
    (fImm w = 0 → Runs (.cmp v w) s (s.vatFault v (illegalInfo v (s.vat v).pc.toNat 0x10 w 6))) ∧
    (fSb w = 0 → Runs (.cmpi v w) s (s.vatFault v (illegalInfo v (s.vat v).pc.toNat 0x28 w 6)))) ∧
  (∀ (f : Bool → Bool → Bool) (a b : Bool),
    plogBit (b2n (f false false) + 2 * b2n (f false true) + 4 * b2n (f true false) + 8 * b2n (f true true)) a b = f a b) ∧
  (∀ a b : Bool, plogBit 0x8 a b = (a && b) ∧ plogBit 0xE a b = (a || b) ∧ plogBit 0x6 a b = xor a b ∧ plogBit 0x3 a b = !a)

/-- R181-R183: CMP, CMPI and PLOG write a predicate register 0-7; a write to P0 is discarded (R171). -/
def Obligations.PredicateResults : Prop :=
  ∀ (s : State) (v : Vat) (w : Word56), fDst w < 8 →
    let put := fun (b : Bool) => s.setVat v ((s.vat v).setP (fDst w) b).retire
    (Ready s v w ⟨[fSa w, fSb w], [], []⟩ → fImm w = 0 → fFn w ≤ 6 →
      Runs (.cmp v w) s (put (Machine.cond (fFn w) ((s.vat v).s (fSa w)) ((s.vat v).s (fSb w))))) ∧
    (Ready s v w ⟨[fSa w], [], []⟩ → fSb w = 0 → fFn w ≤ 6 →
      Runs (.cmpi v w) s (put (Machine.cond (fFn w) ((s.vat v).s (fSa w)) (BitVec.ofNat 32 (fImm w))))) ∧
    (Ready s v w ⟨[], [], []⟩ → fImm w = 0 → fFn w < 16 → fSa w < 8 → fSb w < 8 →
      Runs (.plog v w) s (put ((fFn w).testBit (2 * b2n ((s.vat v).p (fSa w)) + b2n ((s.vat v).p (fSb w)))))) ∧
    ((s.vat v).setP 0 true = s.vat v ∧ (s.vat v).p 0 = true)

/-- R181, R183: address registers are 48 bits wide; AGETL and AGETH read their halves, AMOVH replaces bits 47:32. -/
def Obligations.AddressResults : Prop :=
  ∀ (s : State) (v : Vat) (w : Word56), fFn w = 0 →
    let x := s.vat v
    let d := fDst w
    let putA := fun (r : W48) => s.setVat v (x.setA d r).retire
    (Ready s v w ⟨[fSb w], [d, fSa w], []⟩ → fImm w = 0 → d < 16 → fSa w < 16 →
      Runs (.aadd v w) s (putA (x.a (fSa w) + (x.s (fSb w)).signExtend 48))) ∧
    (Ready s v w ⟨[], [d, fSa w], []⟩ → fSb w = 0 → fImm w = 0 → d < 16 → fSa w < 16 → Runs (.amov v w) s (putA (x.a (fSa w)))) ∧
    (Ready s v w ⟨[d], [fSa w], []⟩ → fSb w = 0 → fImm w = 0 → fSa w < 16 →
      Runs (.agetl v w) s (s.setVat v (x.setS d ((x.a (fSa w)).extractLsb' 0 32)).retire) ∧
      Runs (.ageth v w) s (s.setVat v (x.setS d (((x.a (fSa w)).extractLsb' 32 16).setWidth 32)).retire)) ∧
    (Ready s v w ⟨[], [d], []⟩ → fSa w = 0 → fSb w = 0 → d < 16 → Runs (.amovi v w) s (putA (BitVec.ofNat 48 (fImm w)))) ∧
    (Ready s v w ⟨[], [d, fSa w], []⟩ → fSb w = 0 → d < 16 → fSa w < 16 →
      Runs (.aaddi v w) s (putA (x.a (fSa w) + (BitVec.ofNat 32 (fImm w)).signExtend 48)) ∧
      (fImm w < 2 ^ 16 →
        Runs (.amovh v w) s (putA (BitVec.ofNat 16 (fImm w) ++ (x.a (fSa w)).extractLsb' 0 32))))

/-- R170, R186, R187: NOP only moves on; a false predicate retires a legal instruction without effect; HALT ends the program and gives the tokens
back that no queued array instruction keeps (DEDUCED, log entry 71). Outside a loop the next instruction is 8 bytes on. -/
def Obligations.NopHaltAndPredicate : Prop :=
  ∀ (s : State) (v : Vat) (w : Word56),
    (fDst w = 0 → fSa w = 0 → fSb w = 0 → fFn w = 0 → fImm w = 0 → Ready s v w ⟨[], [], []⟩ →
      Runs (.nop v w) s (s.setVat v (s.vat v).retire) ∧
      Runs (.halt v w) s (s.setVat v { (s.vat v).retire with
        run := .halted, tokens := if ∃ q ∈ (s.vat v).queue, q.eng = .array then (s.vat v).tokens else 0 })) ∧
    ((s.vat v).canIssue = true → (s.vat v).pc.toNat < vatSize → (s.vat v).pred w = false → fFn w = 0 → fImm w = 0 →
      (∀ c ∈ [Instr.add v w, .sub v w, .mul v w, .mulhu v w, .mulhs v w, .and v w, .or v w, .xor v w, .shl v w, .shr v w, .sra v w, .min v w,
        .max v w, .minu v w, .maxu v w], Runs c s (s.setVat v (s.vat v).retire)) ∧
      (fSb w = 0 → ∀ c ∈ [Instr.addi v w, .andi v w, .ori v w, .xori v w, .shli v w, .shri v w, .srai v w],
        Runs c s (s.setVat v (s.vat v).retire)) ∧
      (fDst w = 0 → fSa w = 0 → fSb w = 0 → ∀ c ∈ [Instr.nop v w, .halt v w, .br v w], Runs c s (s.setVat v (s.vat v).retire))) ∧
    ((s.vat v).loops = [] → (s.vat v).retire = { s.vat v with pc := (s.vat v).pc + 8 })

/-- R185, R186: branches. The target is a multiple of 8 within vat SRAM, and any other is a precise fault of kind 4 or 5; a taken branch leaves every loop whose body does not hold the target. BRL
links the address of the next instruction. -/
def Obligations.BranchResults : Prop :=
  ∀ (s : State) (v : Vat) (w : Word56), fSb w = 0 → fFn w = 0 →
    let x := s.vat v
    let away := 8 * (BitVec.ofNat 32 (fImm w)).signExtend 48
    let good := fun (t : W48) => t.toNat < vatSize ∧ t.toNat % 8 = 0
    let go := fun (y : VatState) (t : W48) => s.setVat v { y with pc := t, loops := loopsAfterBranch t x.loops }
    (Ready s v w ⟨[], [], []⟩ → fDst w = 0 → fSa w = 0 → good (x.pc + away) → Runs (.br v w) s (go x (x.pc + away))) ∧
    (Ready s v w ⟨[], [fDst w], []⟩ → fSa w = 0 → fDst w < 16 → good (x.pc + away) →
      Runs (.brl v w) s (go (x.setA (fDst w) (x.pc + 8)) (x.pc + away))) ∧
    (Ready s v w ⟨[], [fSa w], []⟩ → fDst w = 0 → fSa w < 16 → good (x.a (fSa w) + away) →
      Runs (.jmpa v w) s (go x (x.a (fSa w) + away))) ∧
    (let bad := fun (t : W48) => s.vatFault v (boundsInfo v x.pc.toNat t.toNat 8 (if vatSize ≤ t.toNat then 4 else 5) true)
     (Ready s v w ⟨[], [], []⟩ → fDst w = 0 → fSa w = 0 → ¬ good (x.pc + away) → Runs (.br v w) s (bad (x.pc + away))) ∧
     (Ready s v w ⟨[], [fDst w], []⟩ → fSa w = 0 → fDst w < 16 → ¬ good (x.pc + away) → Runs (.brl v w) s (bad (x.pc + away))) ∧
     (Ready s v w ⟨[], [fSa w], []⟩ → fDst w = 0 → fSa w < 16 → ¬ good (x.a (fSa w) + away) → Runs (.jmpa v w) s (bad (x.a (fSa w) + away))))

/-- R186: LOOP runs the N instructions that follow S[a] times: a count of zero skips them, any other opens a loop frame, of which there are at most
four; a fifth is illegal with reason 4. -/
def Obligations.LoopResults : Prop :=
  ∀ (s : State) (v : Vat) (w : Word56), Ready s v w ⟨[fSa w], [], []⟩ → fDst w = 0 → fSb w = 0 → fFn w = 0 → 0 < fImm w → fImm w < 65536 →
    let x := s.vat v
    let n := x.s (fSa w)
    let last := x.pc + 8 * BitVec.ofNat 48 (fImm w)
    (n = 0 → Runs (.loop v w) s (s.setVat v { x with pc := last + 8 })) ∧
    (n ≠ 0 → x.loops.length < 4 → (∀ f ∈ x.loops.head?, x.pc.toNat + 8 * fImm w ≤ f.last.toNat) →
      Runs (.loop v w) s (s.setVat v { x with loops := ⟨x.pc + 8, last, n, 0⟩ :: x.loops, pc := x.pc + 8 })) ∧
    (n ≠ 0 → x.loops.length = 4 → Runs (.loop v w) s (s.vatFault v (illegalInfo v x.pc.toNat 0x43 w 4)))

/-- R176, R177, R184, 06 R236: an undefined opcode byte, a nonzero unused field, an address beyond vat SRAM and a misaligned one are precise
faults: the vat stops at the instruction, which does not retire. The fault names the address, the size of the access, and its kind. -/
def Obligations.PreciseFaults : Prop :=
  ∀ (s : State) (v : Vat), (s.vat v).canIssue = true → (s.vat v).pc.toNat < vatSize →
    (∀ w : W64, undefinedOp (w.toNat / 2 ^ 56) = true →
      Runs (.undefinedOpcode v w) s (s.vatFault v (illegalInfo v (s.vat v).pc.toNat (w.toNat / 2 ^ 56) (w.setWidth 56) 1))) ∧
    (∀ w : Word56, fFn w ≠ 0 ∨ fImm w ≠ 0 →
      ∀ e ∈ [(Instr.add v w, 0x01), (.sub v w, 0x02), (.mul v w, 0x03), (.mulhu v w, 0x04), (.mulhs v w, 0x05), (.and v w, 0x06), (.or v w, 0x07),
        (.xor v w, 0x08), (.shl v w, 0x09), (.shr v w, 0x0A), (.sra v w, 0x0B), (.min v w, 0x0C), (.max v w, 0x0D), (.minu v w, 0x0E),
        (.maxu v w, 0x0F)], Runs e.1 s (s.vatFault v (illegalInfo v (s.vat v).pc.toNat e.2 w 2))) ∧
    (∀ w : Word56,
      let x := s.vat v
      let bad := fun (a size top kind : Nat) => s.vatFault v (boundsInfo v x.pc.toNat a size (if top < a then kind else 5) true)
      let ea := (x.a (fSa w) + (BitVec.ofNat 32 (fImm w)).signExtend 48).toNat
      let va := (x.a (vAr w) + 64 * (BitVec.ofNat 16 (vImm w)).signExtend 48).toNat
      (fSb w = 0 → fFn w = 0 → fSa w < 16 →
        (Ready s v w ⟨[fDst w], [fSa w], []⟩ → vatSize ≤ ea ∨ ea % 4 ≠ 0 →
          Runs (.ld v w) s (bad ea 4 0x1FFFFF 1) ∧ Runs (.st v w) s (bad ea 4 0x1FFFFF 2)) ∧
        (Ready s v w ⟨[], [fDst w, fSa w], []⟩ → fDst w < 16 → vatSize ≤ ea ∨ ea % 8 ≠ 0 →
          Runs (.lda v w) s (bad ea 8 0x1FFFFF 1) ∧ Runs (.sta v w) s (bad ea 8 0x1FFFFF 2))) ∧
      (fSa w = 0 → fSb w = 0 → fFn w = 0 → vTy w = 0 → mSd w = 0 → vFn w = 0 → Ready s v w ⟨[], [vAr w], [fDst w]⟩ →
        0x1FFF00 < va ∨ va % 64 ≠ 0 → Runs (.vld v w) s (bad va 256 0x1FFF00 1) ∧ Runs (.vst v w) s (bad va 256 0x1FFF00 2)))

/-- R188, R189, R192, 06 R249: reading any special register of R172, recording an event, reading STIME, and reading the transfer engine's status. A
read of CYC_LO finds CYC risen by a free amount since the last (DESIGN CHOICE, log entry 26) and latches its upper half for CYC_HI; LSTAT
is read once no watch is under way; an index that is not defined is illegal with reason 6. -/
def Obligations.SpecialRegisterResults : Prop :=
  ∀ (s : State) (v : Vat) (w : Word56),
    let x := s.vat v
    (Ready s v w ⟨[fDst w], [], []⟩ → fSa w = 0 → fSb w = 0 → fFn w = 0 →
      let reads := fun (r : W32) => Runs (.mfsr v w) s (s.setVat v (x.setS (fDst w) r).retire)
      (fImm w = 0 → reads (x.pc.setWidth 32)) ∧ (fImm w = 1 → reads (BitVec.ofNat 32 (v.val / 160 * 256 + v.val % 160))) ∧
      (∀ c, s.vatCtx v = some c → (fImm w = 2 → reads (BitVec.ofNat 32 c)) ∧ (fImm w = 3 → reads ((s.ctx c).lnid.setWidth 32))) ∧
      (fImm w = 4 → reads (x.step.extractLsb' 0 32)) ∧ (fImm w = 5 → reads (x.step.extractLsb' 32 32)) ∧
      (fImm w = 6 → reads (x.trel.extractLsb' 0 32)) ∧ (fImm w = 7 → reads ((x.trel.extractLsb' 32 16).setWidth 32)) ∧
      (fImm w = 8 → ∃ d : BitVec 56, let n : W64 := x.cyc + d.setWidth 64
        Runs (.mfsr v w) s ({ s with fresh := s.fresh + 1 }.setVat v
          ({ x with cyc := n, cycHi := n.extractLsb' 32 32 }.setS (fDst w) (n.extractLsb' 0 32)).retire)) ∧
      (fImm w = 9 → reads x.cycHi) ∧ (fImm w = 10 → x.pendLstat = false → reads (x.lstat.setWidth 32)) ∧
      (fImm w = 11 → reads (BitVec.ofNat 32 x.loops.length)) ∧
      (∀ k, k < 4 → (fImm w = 0x10 + k → reads (x.loopAt k).index) ∧ (fImm w = 0x14 + k → reads (x.loopAt k).remaining)) ∧
      (fImm w < 256 → 11 < fImm w → fImm w < 0x10 ∨ 0x17 < fImm w →
        Runs (.mfsr v w) s (s.vatFault v (illegalInfo v x.pc.toNat 0x45 w 6)))) ∧
    (Ready s v w ⟨[fSa w, fSb w], [], []⟩ → fDst w = 0 → fFn w = 0 → fImm w < 65536 → x.events.length < 8 →
      Runs (.evt v w) s (s.setVat v { x with events := x.events ++ [(⟨BitVec.ofNat 16 (fImm w), x.s (fSa w), x.s (fSb w), x.pc⟩ : VatEvent)] }.retire)) ∧
    (Ready s v w ⟨[], [fDst w], []⟩ → fDst w < 16 → fSa w = 0 → fSb w = 0 → fFn w = 0 → fImm w = 0 → ∀ c, s.vatCtx v = some c →
      Runs (.rdst v w) s (s.setVat v { x with stimes := x.stimes ++ [(fDst w, s.stime48 c)] }.retire)) ∧
    (∀ d t rest, x.stimes = (d, t) :: rest → Runs (.stimeReadResult v) s (s.setVat v ({ x with stimes := rest }.setA d t))) ∧
    (Ready s v w ⟨[mSd w], [], []⟩ → pAd w = 0 → pAa w = 0 → pAb w = 0 → mSa w = 0 → mSb w = 0 → xPol w = false → xSrc w = 0 → xDst w = 0 →
      pImm w = 0 → x.queue = [] → Runs (.xstat v w) s (s.setVat v (x.setS (mSd w) (BitVec.ofNat 32 (x.satCnt.toNat * 65536))).retire))

/-- R190, R191, R193, 02 R85, R86: TWAIT waits for the tick A[a] + i, and its release takes the tick into TREL and its step counter into STEP. PREADY queues
a mark of a page assigned as outbound; the mark, once earlier writes of the vat's transfers into pail SRAM are done, replaces the page's generation, and
the sync requests that waited for it go. -/
def Obligations.TickWaitAndPailReady : Prop :=
  (
    ∀ (s : State) (v : Vat) (w : Word56) (c : Nat), s.vatCtx v = some c →
      let x := s.vat v
      let t := x.a (fSa w) + (BitVec.ofNat 32 (fImm w)).signExtend 48
      (Ready s v w ⟨[], [fSa w], []⟩ → fDst w = 0 → fSb w = 0 → fFn w = 0 → fSa w < 16 → (s.ctx c).reached t = false → (s.ctx c).stale t = false →
        Runs (.twait v w) s (s.setVat v { x with run := .tickWait t })) ∧
      (∀ t, x.run = .tickWait t → (s.ctx c).reached t = true → x.gated = false →
        Runs (.tickWaitRelease v) s (s.setVat v { x with run := .issuing, trel := t, step := (s.ctx c).stepAt t }.retire)) ∧
      (∀ t, x.run = .tickWait t → (s.ctx c).reached t = false → Runs (.tickWaitRelease v) s s)) ∧ (
    ∀ (s : State) (v : Vat) (w : Word56) (c : Nat), s.vatCtx v = some c →
      let x := s.vat v
      (Ready s v w ⟨[fSa w, fSb w], [], []⟩ → fDst w = 0 → fFn w = 0 → fld (fImm w) 24 7 = 0 → fld (fImm w) 15 1 = 0 → bitOf (fImm w) 31 = false →
        s.pageKind c ((fImm w % 32768 + (x.s (fSa w)).toNat) % 2 ^ 32) = 1 → x.marks.length < 4 →
        Runs (.pready v w) s (s.setVat v { x with
          marks := x.marks ++ [(⟨false, (fImm w % 32768 + (x.s (fSa w)).toNat) % 2 ^ 32, BitVec.ofNat 8 (fImm w / 2 ^ 16 % 2 ^ 8 + (x.s (fSb w)).toNat),
            x.nextAge⟩ : Mark)],
          nextAge := x.nextAge + 1 }.retire)) ∧
      (∀ m rest, x.marks = m :: rest → m.slot = false → x.olderPailWrite m.age = false →
        Runs (.pailReadyMark v) s (((s.setVat v { x with marks := rest }).setPageGen m.num m.gen).runSync v)) ∧
      (∀ m rest, x.marks = m :: rest → x.olderPailWrite m.age = true → Runs (.pailReadyMark v) s s))

/-- R183, R184, 06 R236: loads and stores of the vat's own SRAM, little-endian, aligned and with no queued engine instruction in the way. -/
def Obligations.LoadStoreResults : Prop :=
  ∀ (s : State) (v : Vat) (w : Word56),
    let x := s.vat v
    let ea := (x.a (fSa w) + (BitVec.ofNat 32 (fImm w)).signExtend 48).toNat
    let at_ := vatBase v + ea
    (fSb w = 0 → fFn w = 0 → fSa w < 16 → ea < vatSize →
      (Ready s v w ⟨[fDst w], [fSa w], []⟩ → ea % 4 = 0 →
        (s.memWaits v [ownRegion v ea 4] [] = false →
          Runs (.ld v w) s (s.setVat v (x.setS (fDst w) (BitVec.ofNat 32 (leNat (s.sramRead at_ 4)))).retire)) ∧
        (s.memWaits v [] [ownRegion v ea 4] = false →
          Runs (.st v w) s ((s.sramWrite at_ (leBytes 4 (x.s (fDst w)).toNat)).setVat v x.retire))) ∧
      (Ready s v w ⟨[], [fDst w, fSa w], []⟩ → ea % 8 = 0 → fDst w < 16 →
        (s.memWaits v [ownRegion v ea 8] [] = false →
          Runs (.lda v w) s (s.setVat v (x.setA (fDst w) (BitVec.ofNat 48 (leNat (s.sramRead at_ 8)))).retire)) ∧
        (s.memWaits v [] [ownRegion v ea 8] = false →
          Runs (.sta v w) s ((s.sramWrite at_ (leBytes 8 (x.a (fDst w)).toNat)).setVat v x.retire)))) ∧
    (fSa w = 0 → fSb w = 0 → fFn w = 0 → vTy w = 0 → mSd w = 0 → vFn w = 0 → Ready s v w ⟨[], [vAr w], [fDst w]⟩ →
      let va := (x.a (vAr w) + 64 * (BitVec.ofNat 16 (vImm w)).signExtend 48).toNat
      va ≤ 0x1FFF00 → va % 64 = 0 →
      (s.memWaits v [ownRegion v va 256] [] = false →
        Runs (.vld v w) s (s.setVat v (x.setV (fDst w) (words 64 (s.sramRead (vatBase v + va) 256))).retire)) ∧
      (s.memWaits v [] [ownRegion v va 256] = false →
        Runs (.vst v w) s ((s.sramWrite (vatBase v + va) ((x.lanes (fDst w)).flatMap (fun l => leBytes 4 l.toNat))).setVat v x.retire)))

/-- The frame of a store (R183, R184): the bytes it stores read as stored, every other byte of SRAM reads as before, and so do DRAM and the churn
extensions; a load changes no byte. The address is the one ST computes. -/
def Obligations.StoreFrame : Prop :=
  ∀ (s t : State) (v : Vat) (w : Word56), fSb w = 0 → fFn w = 0 → fSa w < 16 → Ready s v w ⟨[fDst w], [fSa w], []⟩ →
    let ea := ((s.vat v).base (fSa w) w).toNat
    ea < vatSize → ea % 4 = 0 → s.memWaits v [] [ownRegion v ea 4] = false → s.memWaits v [ownRegion v ea 4] [] = false →
    (Runs (.st v w) s t →
      (∀ a, t.sramRead a 1 = if vatBase v + ea ≤ a ∧ a < vatBase v + ea + 4
        then [(leBytes 4 ((s.vat v).s (fDst w)).toNat).getD (a - (vatBase v + ea)) 0] else s.sramRead a 1) ∧
      (∀ a, t.dramRead a 1 = s.dramRead a 1) ∧ (∀ n, t.ext16 n = s.ext16 n) ∧ t.objs = s.objs ∧ t.ports = s.ports ∧ t.ctxs = s.ctxs) ∧
    (Runs (.ld v w) s t → SameMemory s t ∧ SameButVats s t)

/-! ### Vats: the vector engine on registers (06) -/

/-- R231, R232: lane by lane, lanes 0-63, with lane type TY; VLOG has TY = 2. The fields an instruction does not use are zero (R169, R230). -/
def Obligations.VectorLaneResults : Prop :=
  ∀ (s : State) (v : Vat) (w : Word56), fFn w = 0 → mSd w = 0 → vAr w = 0 → vImm w = 0 → Ready s v w ⟨[], [], [fDst w, fSa w, fSb w]⟩ →
    let x := s.vat v
    let put := fun (f : W32 → W32 → W32) =>
      s.setVat v (x.setV (fDst w) ((List.range 64).map (fun i => f (x.lane (fSa w) i) (x.lane (fSb w) i)))).retire
    (vTy w < 3 → vFn w = 0 → Runs (.vadd v w) s (put (laneAdd (vTy w))) ∧ Runs (.vsub v w) s (put (laneSub (vTy w))) ∧
      Runs (.vmul v w) s (put (laneMul (vTy w))) ∧ Runs (.vmin v w) s (put (laneMin (vTy w))) ∧
      Runs (.vmax v w) s (put (laneMax (vTy w)))) ∧
    (vTy w < 3 → vFn w < 4 → Runs (.vcmp v w) s (put (laneCmp (vTy w) (vFn w)))) ∧
    (vTy w = 2 → vFn w < 6 → Runs (.vlog v w) s (put (fun a b =>
      if vFn w = 0 then a &&& b else if vFn w = 1 then a ||| b else if vFn w = 2 then a ^^^ b else if vFn w = 3 then a <<< (b.toNat % 32)
      else if vFn w = 4 then a >>> (b.toNat % 32) else a.sshiftRight (b.toNat % 32)))) ∧
    (vTy w = 0 → vFn w = 0 → Runs (.vperm v w) s
      (s.setVat v (x.setV (fDst w) ((List.range 64).map (fun i => x.lane (fSa w) ((x.lane (fSb w) i).toNat % 64)))).retire))

/-- R231, R233-R235: the three-source, one-source and scalar vector operations. -/
def Obligations.VectorOtherResults : Prop :=
  ∀ (s : State) (v : Vat) (w : Word56), vAr w = 0 →
    let x := s.vat v
    let put := fun (l : List W32) => s.setVat v (x.setV (fDst w) l).retire
    let each := fun (f : Nat → W32) => (List.range 64).map f
    (mSd w = 0 → vFn w = 0 → vImm w = 0 → Ready s v w ⟨[], [], [fDst w, fSa w, fSb w, fFn w]⟩ →
      (vTy w < 3 → Runs (.vfma v w) s
        (put (each (fun i => laneFma (vTy w) (x.lane (fSa w) i) (x.lane (fSb w) i) (x.lane (fFn w) i))))) ∧
      (vTy w = 0 → Runs (.vsel v w) s
        (put (each (fun i => if x.lane (fFn w) i ≠ 0 then x.lane (fSa w) i else x.lane (fSb w) i))))) ∧
    (fSb w = 0 → fFn w = 0 → mSd w = 0 → vImm w = 0 → Ready s v w ⟨[], [], [fDst w, fSa w]⟩ →
      (vTy w = 0 → vFn w < 6 → Runs (.vcvt v w) s (put (each (fun i => laneCvt (vFn w) (x.lane (fSa w) i))))) ∧
      (vTy w < 2 → vFn w < 5 → Runs (.vfun v w) s (put (each (fun i => laneFun (vTy w) (vFn w) (x.lane (fSa w) i))))) ∧
      (vTy w < 3 → vFn w < 3 → Runs (.vred v w) s (put (reduce (vFn w) (vTy w) (x.lanes (fSa w)) :: List.replicate 63 0)))) ∧
    (fSa w = 0 → fSb w = 0 → fFn w = 0 → vTy w = 0 → vFn w = 0 → vImm w = 0 → Ready s v w ⟨[mSd w], [], [fDst w]⟩ →
      Runs (.vbcast v w) s (put (each (fun _ => x.s (mSd w))))) ∧
    (fDst w = 0 → fSb w = 0 → fFn w = 0 → vTy w = 0 → vFn w = 0 → vImm w < 64 → Ready s v w ⟨[mSd w], [], [fSa w]⟩ →
      Runs (.vext v w) s (s.setVat v (x.setS (mSd w) (x.lane (fSa w) (vImm w))).retire))

/-- R231, R232, R128: INT32 lanes are computed modulo 2^32 and compared as signed; an FP32 operation on a NaN returns 0x7FC0_0000, a NaN makes
=, < and ≥ false and ≠ true; VMIN and VMAX order -0 below +0. -/
def Obligations.LaneArithmetic : Prop :=
  (∀ a b c : W32, laneAdd 2 a b = a + b ∧ laneSub 2 a b = a - b ∧ laneMul 2 a b = a * b ∧ laneFma 2 a b c = a * b + c ∧
    laneMin 2 a b = (if a.toInt < b.toInt then a else b) ∧ laneMax 2 a b = (if a.toInt < b.toInt then b else a) ∧
    laneCmp 2 0 a b = (if a = b then 1 else 0) ∧ laneCmp 2 1 a b = (if a = b then 0 else 1) ∧
    laneCmp 2 2 a b = (if a.toInt < b.toInt then 1 else 0) ∧ laneCmp 2 3 a b = (if a.toInt < b.toInt then 0 else 1)) ∧
  (∀ a b : W32, (FP.read fp32 a.toNat = .nan ∨ FP.read fp32 b.toNat = .nan) →
    laneAdd 0 a b = 0x7FC00000 ∧ laneSub 0 a b = 0x7FC00000 ∧ laneMul 0 a b = 0x7FC00000 ∧ laneMin 0 a b = 0x7FC00000 ∧
    laneMax 0 a b = 0x7FC00000 ∧ laneCmp 0 0 a b = 0 ∧ laneCmp 0 1 a b = 1 ∧ laneCmp 0 2 a b = 0 ∧ laneCmp 0 3 a b = 0) ∧
  (laneMin 0 0 0x80000000 = 0x80000000 ∧ laneMin 0 0x80000000 0 = 0x80000000 ∧ laneMax 0 0 0x80000000 = 0 ∧ laneMax 0 0x80000000 0 = 0 ∧
    laneCmp 0 0 0 0x80000000 = 1)

/-! ### Vats: sync instructions (05, 10) -/

/-- R196, R197, R200, R179: a posted sync operation, a read and a watch go to the sync unit in program order and the vat moves on; the vid is i[11:0]
+ S[a], its low 12 bits. A posted operation needs one of 16 places (R196). -/
def Obligations.SyncSends : Prop :=
  ∀ (s : State) (v : Vat) (w : Word56),
    let x := s.vat v
    let vid := (fImm w % 4096 + (x.s (fSa w)).toNat) % 4096
    let send := fun (r : SyncReq) =>
      (s.setVat v { x with syncq := x.syncq ++ [(⟨r, x.nextAge, x.pc⟩ : SyncEntry)], nextAge := x.nextAge + 1 }.retire).runSync v
    (fDst w = 0 → x.posted < 16 →
      (Ready s v w ⟨[fSa w, fSb w], [], []⟩ →
        (fFn w = 0 → fImm w < 4096 → Runs (.sadd v w) s (send (.add vid (x.s (fSb w)).toInt))) ∧
        (fFn w = 1 → fSb w = 0 → Runs (.sadd v w) s (send (.add vid (BitVec.ofNat 20 (fImm w / 4096)).toInt))) ∧
        (fFn w = 0 → fImm w < 4096 → Runs (.sset v w) s (send (.set vid (x.s (fSb w)))))) ∧
      (Ready s v w ⟨[fSa w], [], []⟩ → fSb w = 0 → fFn w = 0 → fImm w = 0 →
        Runs (.unwatch v w) s (send (.unwatch ((x.s (fSa w)).setWidth 16))))) ∧
    (Ready s v w ⟨[fDst w, fSa w], [], []⟩ → fSb w = 0 → fFn w = 0 → fImm w < 4096 → Runs (.srd v w) s (send (.read vid (fDst w)))) ∧
    (Ready s v w ⟨[fDst w, fSa w, fSb w], [], []⟩ → fFn w < 3 → fImm w < 65536 → fImm w / 4096 = 0 ∨ 8 ≤ fImm w / 4096 →
      Runs (.watch v w) s (send (.watch vid (fFn w) (x.s (fSb w)) (fImm w / 4096) (fDst w))))

/-- R197-R201: SWAIT, SCLAIM and BARR wait on the sync unit; a claim of zero is granted at once. What comes back to a vat: the value of a read, the handle
and status of a watch, the one notification that ends a wait, and the notice of a sync-unit fault, which stops issue. -/
def Obligations.SyncWaitsAndAnswers : Prop :=
  (
    ∀ (s : State) (v : Vat) (w : Word56), (s.vat v).pendLstat = false → fImm w < 4096 →
      let x := s.vat v
      let vid := (fImm w + (x.s (fSa w)).toNat) % 4096
      let send := fun (r : SyncReq) (run : Run) =>
        (s.setVat v { x with syncq := x.syncq ++ [(⟨r, x.nextAge, x.pc⟩ : SyncEntry)], nextAge := x.nextAge + 1, run := run }).runSync v
      (Ready s v w ⟨[fDst w, fSa w, fSb w], [], []⟩ →
        (fFn w < 2 → Runs (.swait v w) s (send (.wait vid (fFn w == 1) (x.s (fSb w))) (.syncWait (fDst w)))) ∧
        (fFn w = 0 → x.s (fSb w) ≠ 0 → Runs (.sclaim v w) s (send (.claim vid (x.s (fSb w))) (.syncWait (fDst w)))) ∧
        (fFn w = 0 → x.s (fSb w) = 0 → Runs (.sclaim v w) s (s.setVat v { x.setS (fDst w) 0 with lstat := 0 }.retire))) ∧
      (Ready s v w ⟨[fSa w], [], []⟩ → fDst w = 0 → fSb w = 0 → fFn w = 0 → Runs (.barr v w) s (send (.arrive vid) .barrierWait))) ∧ (
    ∀ (s : State) (v : Vat),
      let x := s.vat v
      (∀ r rest, x.results = r :: rest → Runs (.syncReadResult v) s
        (s.setVat v { ({ x with results := rest }.setS r.d r.value) with lstat := r.lstat.getD ({ x with results := rest }.setS r.d r.value).lstat })) ∧
      (∀ n rest d, x.notices = n :: rest → x.gated = false → x.run = .syncWait d → Runs (.waitNotification v) s
        (s.setVat v ({ x with notices := rest, run := .issuing, lstat := n.status }.setS d n.value).retire)) ∧
      (∀ n rest, x.notices = n :: rest → x.gated = false → x.run = .barrierWait → Runs (.waitNotification v) s
        (s.setVat v { x with notices := rest, run := .issuing, lstat := n.status }.retire)) ∧
      (∀ rest d, x.echoes = .read d :: rest → Runs (.syncFaultNotice v) s
        (s.setVat v ({ x with echoes := rest, stopped := true }.setS d 0))) ∧
      (∀ rest, x.echoes = .none :: rest → Runs (.syncFaultNotice v) s (s.setVat v { x with echoes := rest, stopped := true })))

/-! ### Vats: compute engines (06) -/

/-- R204, R206, R219-R229: an array or loader instruction with room in its queue captures its registers, joins the queue and begins when its turn
comes. The fields it does not use are zero; its addresses are 64-byte aligned and its regions lie in vat SRAM. -/
def Obligations.ArrayIssue : Prop :=
  ∀ (s : State) (v : Vat) (w : Word56),
    let x := s.vat v
    let runs := fun (c : Instr) (e : Engine) (op : Nat) => Runs c s (queuedAt s v e
      ⟨BitVec.ofNat 8 op, w, x.a (mSa w), 0, 0, x.s (mSb w), x.s (mSb w + 1), x.s (mSb w + 2), x.step⟩)
    let fits := fun (n : Nat) => (x.a (mSa w)).toNat % 64 = 0 ∧ (x.a (mSa w)).toNat + n ≤ vatSize
    (roomFor s v .array 2 →
      (Ready s v w ⟨[], [], []⟩ →
        (AllZero [mTcls w, b2n (mPol w), b2n (mHalf w), mTa w, mTb w, mSa w, mSb w, mSd w, mFa w, mFb w, mSpk w, fld w.toNat 12 3] →
          mImm w < 1024 → runs (.wclr v w) .array 0x60) ∧
        (AllZero [mSa w, mSb w, mSd w, mImm w] → mFa w ≤ 11 → mFb w ≤ 11 → mSpk w ≠ 3 → (macs (mFa w) (mFb w)).isSome = true →
          (mFb w = 11 → mSpk w = 0) → kFits (mFa w) (mFb w) (mSpk w) (mK w) = true → mmaClass w ≤ mTcls w →
          runs (.mma v w) .array 0x61)) ∧
      (Ready s v w ⟨[], [mSa w], []⟩ → mSa w < 16 → mImm w < 4 → fits (partialSize (bitOf (mImm w) 0) (bitOf (mImm w) 1)) →
        AllZero [b2n (mPol w), b2n (mHalf w), mTa w, mTb w, mSb w, mSd w, mFa w, mFb w, mSpk w, fld w.toNat 12 3] →
        runs (.wpadd v w) .array 0x63 ∧ runs (.wpack v w) .array 0x64) ∧
      (Ready s v w ⟨[mSb w, mSb w + 1, mSb w + 2], [mSa w], []⟩ → mSa w < 16 → mSb w ≤ 29 → mImm w < 4 → fits 64 →
        AllZero [b2n (mHalf w), mTa w, mTb w, mSd w, mFa w, mFb w, mSpk w, fld w.toNat 12 3] → runs (.wcvt v w) .array 0x65) ∧
      (Ready s v w ⟨[], [], [mSd w]⟩ → mImm w < 64 →
        AllZero [b2n (mHalf w), mTa w, mTb w, mSa w, mSb w, mFa w, mFb w, mSpk w, fld w.toNat 12 3] → runs (.wtov v w) .array 0x66) ∧
      (Ready s v w ⟨[mSd w], [], []⟩ → mImm w < 2 →
        AllZero [b2n (mPol w), b2n (mHalf w), mTa w, mTb w, mSa w, mSb w, mFa w, mFb w, mSpk w, fld w.toNat 12 3] →
        runs (.wstat v w) .array 0x67)) ∧
    (roomFor s v .loader 2 → Ready s v w ⟨[mSb w], [mSa w], []⟩ → mSa w < 16 → fits 64 →
      AllZero [mTcls w, b2n (mPol w), b2n (mHalf w), mWb w, mTb w, mSd w, mFa w, mFb w, mSpk w, mImm w] → runs (.tld v w) .loader 0x62)

/-- R204, R206, R238-R248: the same for the sparse and the transfer engine. A register's address lies in its memory even where its region holds no byte
(R243; DESIGN CHOICE, log entry 15). The spaces of a transfer are 0 own vat SRAM, 1 pail SRAM and 2 another vat's. -/
def Obligations.SparseAndTransferIssue : Prop :=
  (
    ∀ (s : State) (v : Vat) (w : Word56), roomFor s v .sparse 2 → pFn w = 0 →
      let x := s.vat v
      let runs := fun (c : Instr) (op : Nat) => Runs c s (queuedAt s v .sparse
        ⟨BitVec.ofNat 8 op, w, x.a (pAd w), x.a (pAa w), x.a (pAb w), x.s (mSa w), x.s (mSb w), x.s (mSd w), x.step⟩)
      let fits := fun (a n : Nat) => a + max n 1 ≤ vatSize
      let d := (x.a (pAd w)).toNat
      let a := (x.a (pAa w)).toNat
      let b := (x.a (pAb w)).toNat
      let n := (x.s (mSa w)).toNat
      let r := (x.s (mSb w)).toNat
      (Ready s v w ⟨[mSa w, mSb w, mSd w], [pAd w, pAa w], []⟩ →
        (AllZero [pAb w, mSb w, pImm w] → 0 < n → n ≤ 4096 → a % 8 = 0 → d % 8 = 0 → fits a (8 * n) → fits d (8 + actBitmap n) →
          runs (.spcmp v w) 0xA0) ∧
        (AllZero [pAb w, mSa w, mSb w, pImm w] → a % 8 = 0 → d % 8 = 0 → fits a 8 → fits d 8 → runs (.spexp v w) 0xA1) ∧
        (AllZero [pAb w] → pImm w < 512 → topkTf w ≠ 3 → 0 < topkK w → topkK w ≤ 32 → topkK w ≤ n → n ≤ 4096 → fits a (r * n * topkSize w) →
          fits d (8 * topkK w * r) → runs (.topk v w) 0xA4)) ∧
      (Ready s v w ⟨[mSa w, mSb w, mSd w], [pAd w, pAa w, pAb w], []⟩ →
        (AllZero [mSd w, pImm w] → r ≠ 0 → r % 8 = 0 → fits b (4 * n) →
          (fits a 0 → fits d (n * r) → runs (.spgath v w) 0xA2) ∧ (fits d 0 → fits a (n * r) → runs (.spscat v w) 0xA3)) ∧
        (AllZero [mSa w, mSb w, pImm w] → b % 64 = 0 → fits b 64 → fits a 0 → fits d 0 → runs (.disp v w) 0xA5))) ∧ (
    ∀ (s : State) (v : Vat) (w : Word56), roomFor s v .transfer 8 → pImm w = 0 →
      let x := s.vat v
      let runs := fun (c : Instr) (op : Nat) => Runs c s (queuedAt s v .transfer
        ⟨BitVec.ofNat 8 op, w, x.a (pAd w), x.a (pAa w), x.a (pAb w), x.s (mSa w), x.s (mSb w), x.s (mSd w), x.step⟩)
      let fits := fun (space a n : Nat) => a + max n 1 ≤ if space = 1 then pailSize else vatSize
      let d := (x.a (pAd w)).toNat
      let a := (x.a (pAa w)).toNat
      let b := (x.a (pAb w)).toNat
      let n := (x.s (mSa w)).toNat
      let id := (x.s (mSb w)).toNat
      (Ready s v w ⟨[mSa w, mSb w, mSd w], [pAd w, pAa w], []⟩ →
        (AllZero [pAb w, mSd w, b2n (xPol w)] → xSrc w < 3 → xDst w < 3 → ¬ (xSrc w = 2 ∧ xDst w = 2) → 0 < n → n % 64 = 0 → a % 64 = 0 →
          d % 64 = 0 → fits (xSrc w) a n → fits (xDst w) d n →
          (∀ y z, placeIn v (xSrc w) a id = some y → placeIn v (xDst w) d id = some z → y + n ≤ z ∨ z + n ≤ y) → runs (.xcopy v w) 0xC0) ∧
        (AllZero [pAb w, mSb w, b2n (xPol w), xSrc w, xDst w] → a % 32 = 0 → d % 64 = 0 → fits 0 a 0 → fits 0 d (512 * n) →
          runs (.xexp v w) 0xC2) ∧
        (AllZero [pAb w, mSb w, mSd w, xDst w] → xSrc w < 2 → a % 16 = 0 → d % 16 = 0 → fits 1 a (16 * n) → fits 0 d (16 * n) →
          runs (.xchurn v w) 0xC4)) ∧
      (Ready s v w ⟨[mSa w, mSb w, mSd w], [pAd w], []⟩ → AllZero [pAa w, pAb w, mSd w, b2n (xPol w), xSrc w] → xDst w < 2 → 0 < n → n % 64 = 0 →
        fits (xDst w) d n → runs (.xfill v w) 0xC3) ∧
      (Ready s v w ⟨[mSa w, mSb w, mSd w], [pAd w, pAa w, pAb w], []⟩ → AllZero [mSa w, mSd w, b2n (xPol w), xSrc w] → xDst w < 2 →
        a % 64 = 0 → fits 0 a 256 → fits 0 b 0 → fits (xDst w) d 256 → runs (.xgath v w) 0xC5))

/-- R204, R220, 02 R91-R94: a completed instruction leaves its queue and what waited may begin; the governor grants the difference to the tokens a
waiting array instruction needs if the context's sum stays within its ceiling, and raises the high-water mark; else TOKEN_OVERSUB. -/
def Obligations.EngineProgress : Prop :=
  ∀ (s : State) (v : Vat),
    let x := s.vat v
    (∀ e q, x.headOf e = some q → q.begun = true → x.gated = false → e ≠ .array → Runs (.engineComplete v e) s
      (((s.setVat v { x with queue := x.queue.filter (fun y => y.age != q.age) }).startEngines v).runSync v)) ∧
    (∀ q, x.headOf .array = some q → q.begun = true → x.gated = false → (∀ y ∈ x.queue, y.eng = .array → y.age = q.age) →
      Runs (.engineComplete v .array) s
      (((s.setVat v { x with queue := x.queue.filter (fun y => y.age != q.age), tokens := 0 }).startEngines v).runSync v)) ∧
    (∀ q c, s.readyHead v .array = some q → s.vatCtx v = some c → x.tokens < tokenWeight q.tcls →
      let held := s.tokensHeld c (dieOf v)
      let top := s.tokenCeiling c (dieOf v)
      let sum := held + (tokenWeight q.tcls - x.tokens)
      let key := if dieOf v = 0 then Obj.tokenHighWaterD0 c else Obj.tokenHighWaterD1 c
      (sum ≤ top → Runs (.tokenRequest v) s
        (((s.setObj key (max (s.obj key) sum)).setVat v { x with tokens := tokenWeight q.tcls }).startEngines v)) ∧
      (top < sum → Runs (.tokenRequest v) s
        (s.engineFault v q ⟨0x2002, leBytes 1 q.tcls ++ [0] ++ leBytes 2 held ++ leBytes 2 top⟩)))

/-- R224, R229, R244, R245: what some compute instructions do when they begin. WCLR clears a bank and sets its W; WSTAT reads its status; XFILL
repeats a 32-bit pattern; XCOPY moves bytes between regions that do not overlap, here within the vat's own SRAM. -/
def Obligations.EngineEffects : Prop :=
  ∀ (s : State) (v : Nat) (o : EngineOp),
    let x := s.vat v
    let n := o.s0.toNat
    let d := vatBase v + o.a0.toNat
    let a := vatBase v + o.a1.toNat
    runWclr s v o = (s.setVat v ((x.setAccs (mWb o.w) (List.replicate 1024 0)).setBank (mWb o.w) ⟨BitVec.ofNat 10 (mImm o.w), false, false, 0⟩), none) ∧
    (mImm o.w = 0 → runWstat s v o = (s.setVat v (x.setS (mSd o.w) (BitVec.ofNat 32 (b2n (x.bank (mWb o.w)).ovf * 2 ^ 31 +
      b2n (x.bank (mWb o.w)).sat * 2 ^ 30 + (x.bank (mWb o.w)).w.toNat))), none)) ∧
    (mImm o.w = 1 → runWstat s v o = (s.setVat v (x.setS (mSd o.w) (x.bank (mWb o.w)).inexact), none)) ∧
    (xDst o.w = 0 → runXfill s v o = (s.sramWrite d (List.replicate (n / 4) (leBytes 4 o.s1.toNat)).flatten, none)) ∧
    (xSrc o.w = 0 → xDst o.w = 0 → a + n ≤ d ∨ d + n ≤ a → runXcopy s v o = (s.sramWrite d (s.sramRead a n), none)) ∧
    (xSrc o.w = 0 → xDst o.w = 0 → a < d + n → d < a + n → runXcopy s v o = (s, some (descFault o.a1.toNat 10 6 0 [])))

/-! ### Clock islands (02) -/

/-- R75-R77, R79, R95: a droop stretch counts; a recovery raises an adaptive island by 50 MHz up to its ceiling; a reading above it lowers it;
islands gate and ungate; a token grace ends. -/
def Obligations.IslandResults : Prop :=
  ∀ (s : State) (v : Vat),
    let x := s.vat v
    (∀ b, (if b then x.stretchRun + 1 else 1) < max 1 (s.obj Obj.stretchRun) → Runs (.droopStretch v b) s
      (s.setVat v { x with stretches := if x.stretches = 0xFFFFFFFF then x.stretches else x.stretches + 1,
                           stretchRun := if b then x.stretchRun + 1 else 1 })) ∧
    (s.obj Obj.clockMode = 1 → x.runSinceRecover = false → x.freq < s.thermalCeiling v → Runs (.adaptRecover v) s
      (s.setVat v { x with freq := min (x.freq + 50) (s.thermalCeiling v), runSinceRecover := false })) ∧
    (s.obj Obj.clockMode = 1 → x.runSinceRecover = true → Runs (.adaptRecover v) s (s.setVat v { x with runSinceRecover := false })) ∧
    (s.obj Obj.clockMode ≠ 1 → Runs (.adaptRecover v) s s) ∧
    (∀ t, Runs (.temperatureRead v t) s ((s.setVat v { x with temp := t }).settleIsland v)) ∧
    (∀ c, s.vatCtx v = some c → s.gatePending c = true → x.queue.any (fun q => q.begun) = false → x.gated = false →
      Runs (.islandGate v) s (s.setVat v { x with gated := true, tokens := 0 })) ∧
    (∀ c : CtxId, s.gatePending c = false → Runs (.islandUngate c) s (s.ungate c)) ∧
    (∀ c : CtxId, s.gatePending c = true → Runs (.islandUngate c) s s) ∧
    (∀ c : CtxId, Runs (.tokenGraceExpiry c) s
      (s.setCtx c { s.ctx c with grace := (s.ctx c).grace.filter (fun g => decide ((s.ctx c).stime < g.until_)) }).settleIslands)

/-! ### Time, compare units and pins (01) -/

/-- R14, R20-R22, R58, R59, R61, R64, R66: a compare unit that has come fires once, or again by its period: its target moves on until it lies ahead, each
further addition counted in MISSED; it drives its pin, is logged and launches as its fields say. A pulse ends at its inactive level; an enabled
capture unit takes its base on an edge, which a dark module ignores. A snapshot takes every base at once, with STIME and STEP of the named context;
a PTM response takes it for the last context; HTIME steps by whole nanoseconds; a correction moves ATIME back by the error, but in DEEP and OFF. -/
def Obligations.TimeAndCompareResults : Prop :=
  (
    ∀ (s : State),
      (∀ n, let u := s.cmp n.val
        u.en = true → u.armed = true → u.mode = 0 → u.base = 1 → s.cmpReached u = true → u.target.toNat ≤ s.times.ftime.toNat →
        s.times.ftime.toNat < u.target.toNat + 2 ^ 63 → u.pulse = false → u.event = false → u.launch = false →
        Runs (.compareFire n) s (s.setCmp n { u with fired := true, armed := false })) ∧
      (∀ n : Fin 16, let u := s.cmp n
        let due := sgn u.width (wrap u.width ((s.baseNow u : Int) - u.target.toNat))
        u.en = true → u.armed = true → u.mode < 2 → s.cmpReached u = true →
        let t := s.setCmp n (u.advance (if due < 0 then u.target.toNat else s.baseNow u))
        let p := if u.pulse then t.pulseOn u else t
        let e := if u.event then p.log (srcCmp n) 0x0022 ([1] ++ zeros 7 ++ leBytes 8 u.target.toNat) else p
        Runs (.compareFire n) s (if u.launch = true ∧ (e.ctx u.ctx).unit = n.val then e.launch u.ctx else e)) ∧
      (∀ (u : Compare) now, u.mode = 1 → u.period.toNat % 2 ^ u.width ≠ 0 → let y := u.advance now
        y.fired = true ∧ y.armed = u.armed ∧ (y.target.toNat < 2 ^ u.width) ∧
        let step : Nat := u.period.toNat % 2 ^ u.width
        let behind := fun (t : Int) => 0 ≤ sgn u.width (wrap u.width ((now : Nat) - t))
        (step ≤ 2 ^ (u.width - 1) → ¬ behind y.target.toNat) ∧
        ∃ k, y.target.toNat = (u.target.toNat + (k + 1) * step) % 2 ^ u.width ∧ y.missed.toNat = min 0xFFFF (u.missed.toNat + k) ∧
          ∀ j, 0 < j → j ≤ k → behind (u.target.toNat + j * step)) ∧
      (∀ n : Fin 16, (s.cmp n).en = false ∨ (s.cmp n).armed = false ∨ s.cmpReached (s.cmp n) = false → Runs (.compareFire n) s s) ∧
      (∀ pin x, s.times.pulses.find? (fun e => e.pin == pin.val) = some x → x.until_ ≤ 4 * s.times.grid + 3 → Runs (.tpulseEnd pin) s
        { s with times := { s.times with pulses := s.times.pulses.filter (fun e => e.pin != pin.val) }, out := .pulse pin (!x.level) :: s.out }) ∧
      (∀ pin x, s.times.pulses.find? (fun e => e.pin == pin.val) = some x → 4 * s.times.grid + 3 < x.until_ → Runs (.tpulseEnd pin) s s) ∧
      (∀ pin rising, s.dark = true → Runs (.tinEdge pin rising) s s) ∧
      (∀ pin rising, s.dark = false → Runs (.tinEdge pin rising) s ((List.range 16).foldl (fun t n =>
        if (t.cmp n).en ∧ (t.cmp n).mode = 2 ∧ (t.cmp n).f 18 1 = pin.val ∧ (t.cmp n).pol ≠ rising then t.capture n (s.takeFree 2).1.toNat else t)
          (s.takeFree 2).2)) ∧
      (∀ n j, (s.cmp n).event = false → s.capture n j = s.setCmp n { s.cmp n with
        capture := BitVec.ofNat 64 (s.baseAt (s.cmp n) j), captured := true, overrun := (s.cmp n).overrun || (s.cmp n).captured })) ∧ (
    ∀ (s : State),
      let snap := fun (c : Nat) => { s with times := { s.times with
        snapCtx := c, snapF := s.times.ftime, snapH := s.times.htime, snapA := s.times.atime.setWidth 64,
        snapS := (BitVec.ofNat 48 (s.ctx c).stime).setWidth 64, snapN := (s.ctx c).step } }
      (∀ w : W32, w.getLsbD 0 = true → Runs (.snapTake w) s (snap (w.toNat / 2 ^ 8 % 16))) ∧
      (∀ w : W32, w.getLsbD 0 = false → Runs (.snapTake w) s s) ∧
      Runs .ptmResponse s (snap s.times.snapCtx) ∧
      (∀ ns, Runs (.htimeStep ns) s { s with times := { s.times with htime := s.times.htime + ns } }) ∧
      (∀ err, s.dark = false → Runs (.atimeCorrection err) s { s with times := { s.times with atime := s.times.atime - BitVec.ofInt 48 err } }))

/-- R5, R11, R14, R17, R21: in OFF a grid tick changes nothing; in DEEP only ATIME counts; otherwise the bases count on, then the contexts, the
ports, the vats' event queues, the records bound for remote queues and the power domains take their tick. A tick is 2.56 ns: FTIME goes to its next multiple of 16, HTIME and
ATIME count in fractions. -/
def Obligations.GridTickResults : Prop :=
  ∀ (s : State),
    (s.power.off = true → Runs .gridTick s s) ∧
    (s.power.off = false → s.dark = true → Runs .gridTick s s.advanceAtime) ∧
    (s.power.off = false → s.dark = false → Runs .gridTick s s.settleTicks.advanceTime.ctxTicks.portTicks.drainVats.pump.settlePower.fallAll) ∧
    (s.advanceTime.times.ftime = BitVec.ofNat 64 (s.times.ftime.toNat / 16 * 16 + 16) ∧ s.advanceTime.times.grid = s.times.grid + 1 ∧
      s.advanceTime.times.atime = s.times.atime + BitVec.ofNat 48 ((s.times.afrac + 256) / 100000) ∧
      s.advanceTime.times.afrac = (s.times.afrac + 256) % 100000 ∧
      (s.times.hrate = 0 → s.times.hfrac < 100 * 2 ^ 32 → s.advanceTime.times.htime = s.times.htime + BitVec.ofNat 64 ((s.times.hfrac + 256 * 2 ^ 32) / (100 * 2 ^ 32))) ∧
      s.advanceAtime.times.ftime = s.times.ftime)

/-! ### Holds and launch (01) -/

/-- R29-R32, R36, R39: a hold field without V says nothing; a field of no job here is counted; a late one is a schedule miss; any other is accepted
for the one tick congruent to START in the window around STIME, before the launch around tick 0. A mantissa of 0 is no duration and is logged. The waiting tick of a release or of a soft resume runs; an extension answers for
this module's own records. -/
def Obligations.HoldResults : Prop :=
  ∀ (s : State),
    (∀ p (f : BitVec 40), f.getLsbD 39 = false → Runs (.holdRequest p f) s s) ∧
    (∀ p (f : BitVec 40), f.getLsbD 39 = true → s.ctxOfJob (f.toNat / 2 ^ 35 % 16) = none → Runs (.holdRequest p f) s (s.discardHold p f.toNat)) ∧
    (∀ p (f : BitVec 40) c, f.getLsbD 39 = true → s.ctxOfJob (f.toNat / 2 ^ 35 % 16) = some c → (s.ctx c).job = .running →
      f.toNat / 2 ^ 10 % 2 ^ 7 ≠ 0 →
      let t := reconstruct (s.ctx c).stime (f.toNat % 1024)
      let origin := BitVec.ofNat 12 (fld f.toNat 23 12)
      ((s.ctx c).lateFor t origin = true → Runs (.holdRequest p f) s (s.fault c (schedMiss (srcSched c) 0x14))) ∧
      ((s.ctx c).lateFor t origin = false → Runs (.holdRequest p f) s (s.acceptHold c (fieldRec f.toNat t.toNat) (some p)))) ∧
    (∀ p (f : BitVec 40) c, f.getLsbD 39 = true → s.ctxOfJob (f.toNat / 2 ^ 35 % 16) = some c →
      (f.toNat / 2 ^ 10 % 2 ^ 7 = 0 → Runs (.holdRequest p f) s (s.log (srcSched c) 0x0011 (leBytes 5 f.toNat))) ∧
      (f.toNat / 2 ^ 10 % 2 ^ 7 ≠ 0 → (s.ctx c).job = .armed → Runs (.holdRequest p f) s
        (s.acceptHold c (fieldRec f.toNat (wrap 48 (reconstruct 0 (f.toNat % 1024)))) (some p)))) ∧
    (∀ c : CtxId, (s.ctx c).deferred = false → Runs (.holdRelease c) s s ∧ Runs (.softResumeWindow c) s s) ∧
    (∀ c : CtxId, (s.ctx c).deferred = true → ((s.ctx c).hold.isSome = true → Runs (.holdRelease c) s (s.resume c)) ∧
      ((s.ctx c).hold = none → Runs (.softResumeWindow c) s (s.resume c))) ∧
    (∀ c : CtxId, (s.ctx c).raised.filter (fun e => s.untilRelease c e.1 == some (s.lead c)) = [] → Runs (.extensionCheck c) s s) ∧
    (∀ (c : CtxId) t w len, (s.ctx c).raised.filter (fun e => s.untilRelease c e.1 == some (s.lead c)) = [(t, w)] → s.ownLen c t = some len →
      s.stillNeeds c w ≠ 0 → Runs (.extensionCheck c) s (s.extendBy c t len (s.stillNeeds c w) w))

/-- R32: the start a receiver reconstructs from a hold field is the one value congruent to START modulo 1,024 from now - 256 to now + 767. -/
def Obligations.HoldStartReconstruction : Prop :=
  ∀ (now start : Nat) (t : Int), t = reconstruct now start ↔
    (now : Int) - 256 ≤ t ∧ t ≤ (now : Int) + 767 ∧ t % 1024 = (start : Int) % 1024

/-- R29, R30, R34: a hold record and its 40-bit field say the same: decoding the field of any record with a representable duration gives back its
origin, duration, cause, power bit and the low ten bits of its start, and the field names its job and is valid. -/
def Obligations.HoldFieldRoundTrip : Prop :=
  ∀ (jobn : Nat) (h : HoldRec) (t : Nat), jobn < 16 → h.cause < 8 →
    (h.dur = none ∨ ∃ d, h.dur = some d ∧ encodable d = d ∧ 0 < d) →
    let f := holdField jobn h
    f < 2 ^ 40 ∧ f / 2 ^ 39 = 1 ∧ f / 2 ^ 35 % 16 = jobn ∧ f % 1024 = h.start % 1024 ∧ f / 2 ^ 10 % 2 ^ 7 ≠ 0 ∧ fieldRec f t = { h with start := t }

/-- R30: the smallest representable duration that covers a need: it is not below it, and every smaller representable one is. -/
def Obligations.DurationRounding : Prop :=
  ∀ n, 0 < n → n ≤ longestHold →
    n ≤ encodable n ∧ encodable n ≤ longestHold ∧ fieldsDur (durFields (some (encodable n))).1 (durFields (some (encodable n))).2 = some (encodable n) ∧
    ∀ m k, m ≤ 127 → k ≤ 3 → ¬ (m = 127 ∧ k = 3) → n ≤ m * 16 ^ k → encodable n ≤ m * 16 ^ k

/-- R54, R56, R57, R593: arming by barrier or by FTIME checks the image and claims what it names; a failing check answers its status and claims
nothing (of several that fail, one of them; DESIGN CHOICE, log entry 20); a job armed or running is refused; IDLE takes an armed job back. -/
def Obligations.LaunchArmResults : Prop :=
  ∀ (s : State) (c : CtxId),
    ((s.ctx c).busy = false → s.armFails c true = [] → Runs (.launchArmBarrier c) s (s.armJob c true).ok) ∧
    ((s.ctx c).busy = false → s.armFails c false = [] → Runs (.launchArmFtime c) s (s.armJob c false).ok) ∧
    ((s.ctx c).busy = true → Runs (.launchArmBarrier c) s (s.withStatus stWrongState) ∧ Runs (.launchArmFtime c) s (s.withStatus stWrongState)) ∧
    ((s.ctx c).busy = false → (s.armFails c false ≠ [] → ∃ st ∈ s.armFails c false, Runs (.launchArmFtime c) s ({ s with fresh := s.fresh + 1 }.withStatus st)) ∧
      (s.armFails c true ≠ [] → ∃ st ∈ s.armFails c true, Runs (.launchArmBarrier c) s ({ s with fresh := s.fresh + 1 }.withStatus st))) ∧
    ((s.ctx c).job = .armed → Runs (.launchArmIdle c) s (s.resetCtx c 1).ok) ∧
    ((s.ctx c).job = .running → Runs (.launchArmIdle c) s (s.withStatus stWrongState)) ∧
    ((s.ctx c).job ≠ .armed → (s.ctx c).job ≠ .running → Runs (.launchArmIdle c) s s.ok)

/-! ### Schedule tables (08) -/

/-- R306, R307, R326, R328, R333, 05 R194: the states of a table bank; an accepted COMMIT leaves it LOADED and clears its error object; an epoch
switch is armed, refused where its segment lies outside the table (DESIGN CHOICE, log entry 40), a schedule miss where it is late, and
cancelled; FENCE is written; SEL emits a selector. -/
def Obligations.TableResults : Prop :=
  ∀ (s : State) (c : CtxId) (b : BankId),
    ((s.ctx c).bank b = .empty → Runs (.bankOpen c b) s ((s.clearBank c b).setCtx c (((s.clearBank c b).ctx c).setBank b .loading)).ok) ∧
    ((s.ctx c).bank b = .loaded → Runs (.bankOpen c b) s (s.setCtx c ((s.ctx c).setBank b .loading)).ok ∧
      Runs (.bankDiscard c b) s ((s.clearBank c b).setCtx c (((s.clearBank c b).ctx c).setBank b .empty)).ok) ∧
    ((s.ctx c).bank b = .active ∨ (s.ctx c).bank b = .draining → Runs (.bankOpen c b) s (s.withStatus stHeld) ∧
      Runs (.bankDiscard c b) s (s.withStatus stHeld) ∧ Runs (.bankCommit c b) s (s.withStatus stHeld)) ∧
    ((s.ctx c).bank b = .loading → Runs (.bankOpen c b) s (s.withStatus stWrongState) ∧
      Runs (.bankDiscard c b) s ((s.clearBank c b).setCtx c (((s.clearBank c b).ctx c).setBank b .empty)).ok) ∧
    ((s.ctx c).bank b = .empty → Runs (.bankDiscard c b) s (s.withStatus stWrongState)) ∧
    ((s.ctx c).bank b = .empty ∨ (s.ctx c).bank b = .loaded → Runs (.bankCommit c b) s (s.withStatus stWrongState)) ∧
    ((s.ctx c).bank b = .loading → s.bankBad c b = none → (s.ctx c).busy = false →
      (b = 0 → Runs (.bankCommit c b) s
        ((s.setObj (Obj.commitError c) 0).setCtx c { (s.ctx c).setBank b .loaded with measure0 := s.measure c b }).ok) ∧
      (b = 1 → Runs (.bankCommit c b) s
        ((s.setObj (Obj.commitError c) 0).setCtx c { (s.ctx c).setBank b .loaded with measure1 := s.measure c b }).ok)) ∧
    (∀ t r i, (s.ctx c).bank b = .loading → s.bankBad c b = some (t, r, i) → Runs (.bankCommit c b) s
      ((s.setObj (Obj.commitError c) (t * 2 ^ 56 + r * 2 ^ 48 + b.val * 2 ^ 32 + i)).withStatus (if r = 8 then stHeld else stRefused))) ∧
    ((s.ctx c).bank (1 - s.activeBank c) ≠ .loaded → Runs (.switchArmTimed c) s (s.withStatus stHeld)) ∧
    ((s.ctx c).bank (1 - s.activeBank c) = .loaded → (s.ctx c).busy = false → Runs (.switchArmTimed c) s (s.withStatus stWrongState)) ∧
    ((s.ctx c).busy = true → (s.ctx c).bank (1 - s.activeBank c) = .loaded → s.obj (Obj.segBase c) + s.obj (Obj.switchSeg c) < 4096 →
      (s.ctx c).stime ≤ s.switchBy c (s.obj (Obj.switchAt c)) → Runs (.switchArmTimed c) s
        (s.setCtx c { s.ctx c with switch := some (s.obj (Obj.switchAt c), s.obj (Obj.switchSeg c)) }).ok) ∧
    ((s.ctx c).busy = true → (s.ctx c).bank (1 - s.activeBank c) = .loaded →
      (4096 ≤ s.obj (Obj.segBase c) + s.obj (Obj.switchSeg c) → Runs (.switchArmTimed c) s (s.withStatus stRefused)) ∧
      (s.obj (Obj.segBase c) + s.obj (Obj.switchSeg c) < 4096 → s.switchBy c (s.obj (Obj.switchAt c)) < (s.ctx c).stime →
        Runs (.switchArmTimed c) s (s.fault c
          ⟨0x1001, srcSched c, 0, runDetail 0x12 0 0 (s.activeBank c) 0 (s.obj (Obj.switchAt c)) 0 0 0, false⟩).ok)) ∧
    (∀ x, (s.ctx c).switch = some x → (s.ctx c).stime ≤ s.switchBy c x.1 → Runs (.switchArmCancel c) s (s.setCtx c { s.ctx c with switch := none }).ok) ∧
    ((s.ctx c).busy = true → (s.ctx c).switch = none → s.switchBy c (s.obj (Obj.switchAt c)) < (s.ctx c).stime →
      Runs (.switchArmCancel c) s (s.withStatus stWrongState)) ∧
    (∀ off data, 512 < off + data.length → Runs (.fenceWrite c off data) s (s.withStatus stRefused)) ∧
    (∀ off data, off + data.length ≤ 512 → Runs (.fenceWrite c off data) s
      (let t := s.setDom (Obj.fence c) off data
       (t.setCtx c { t.ctx c with fenceSeen := (t.ctx c).fenceSeen.filter (fun e => s.fenced c e.1 && t.fenced c e.1) }).ok)) ∧
    (∀ (v : Vat) (w : Word56), s.vatCtx v = some c.val → Ready s v w ⟨[fSa w], [], []⟩ → fDst w = 0 → fSb w = 0 → fFn w = 0 → fImm w < 4 →
      Runs (.sel v w) s ((s.setVat v (s.vat v).retire).emitSelector c (((s.vat v).step + BitVec.ofNat 64 (fImm w)).setWidth 32)
        (((s.vat v).s (fSa w)).toNat % 16)))

/-! ### The Septox link (09, 04) -/

/-- R344-R346: a port trains: lane sequences lead to LOCK or EQUALIZE, lanes that locked to PARAM with the width this end offers and whether
it resumed from stored coefficients, none to a failure; a sequence from a peer that slept wakes its direction, and the lock that follows ends the wait (R376); a retraining port whose lanes locked makes
the delay exchanges if it is the end that measures (R346, R349); a port that failed trains again after its delay; elsewhere nothing happens. -/
def Obligations.TrainingResults : Prop :=
  ∀ (s : State) (p : PortId),
    let x := s.port p
    (x.link = .detect → x.coeffs = true → Runs (.trainingSequence p true) s ((s.setPort p { x with resumed := true }).setLink p .lock)) ∧
    (∀ b, x.link = .detect → (b && x.coeffs) = false → Runs (.trainingSequence p b) s
      ((s.setPort p { x with resumed := false }).setLink p .equalize)) ∧
    (∀ b, x.link = .active → x.peerSleep = true → Runs (.trainingSequence p b) s
      (s.setPort p { x with peerWake := s.times.grid + s.obj Obj.laneWake + 16 })) ∧
    (x.link = .equalize → Runs (.equalizeDone p) s ((s.setPort p { x with coeffs := true }).setLink p .lock)) ∧
    (∀ n : Byte, x.link = .lock → min (laneWidth n.toNat) (laneWidth (if isUplink p then 1 else s.obj (Obj.linkWidthCap p))) = 0 →
      Runs (.lockDone p n) s (s.linkDown p 8 0)) ∧
    (∀ n : Byte, x.link = .lock →
      let m := min (laneWidth n.toNat) (laneWidth (if isUplink p then 1 else s.obj (Obj.linkWidthCap p)))
      let t := (s.setPort p { x with lanes := m }).setLink p .param
      m ≠ 0 → Runs (.lockDone p n) s (t.emitTc3 p 5 (t.paramPay p (b2n x.resumed)))) ∧
    (s.obj (Obj.downReason p) = 8 → x.link = .down → s.mayTrain p = true → Runs (.trainingRetry p) s (s.startTraining p)) ∧
    (∀ b, x.link ≠ .detect → x.link ≠ .active ∨ x.peerSleep = false → Runs (.trainingSequence p b) s s) ∧
    (x.link ≠ .equalize → Runs (.equalizeDone p) s s) ∧
    (∀ n : Byte, (x.link = .active → Runs (.lockDone p n) s (s.setPort p { x with peerWake := 0 })) ∧
      (x.link = .retrain → x.lanes ≤ n.toNat → s.measures p = true → x.exchanges = 0 → Runs (.lockDone p n) s (s.emitTc3 p 3 [])) ∧
      (x.link = .retrain → n.toNat < x.lanes ∨ s.measures p = false ∨ x.exchanges ≠ 0 → Runs (.lockDone p n) s s) ∧
      (x.link ≠ .lock → x.link ≠ .active → x.link ≠ .retrain → Runs (.lockDone p n) s s)) ∧
    (s.obj (Obj.downReason p) ≠ 8 ∨ x.link ≠ .down ∨ s.mayTrain p = false → Runs (.trainingRetry p) s s) ∧
    (∀ n, laneWidth n = if 4 ≤ n then 4 else if 2 ≤ n then 2 else if n = 1 then 1 else 0)

/-- R347-R349, R379: retraining begins when its start has come and fails by its timeout; a lost signal takes a port down, but for the
silence of a peer that sleeps; LINK_CTRL retrains, resets
or wakes; the wake pattern is sent in bursts until its timeout. -/
def Obligations.LinkControlResults : Prop :=
  ∀ (s : State) (p : PortId),
    let x := s.port p
    (∀ r, x.retrain = some r → x.link = .active → s.retrainDue r = true → Runs (.retrainStart p) s
      ((s.setPort p { x with exchanges := 0, rttSum := 0, wantRetrain := false }).setLink p .retrain)) ∧
    (∀ r, x.retrain = some r → x.link ≠ .active ∨ s.retrainDue r = false → Runs (.retrainStart p) s s) ∧
    (x.retrain = none → Runs (.retrainStart p) s s) ∧
    (x.link = .retrain → Runs (.retrainTimeout p) s (s.linkDown p 4 0)) ∧ (x.link ≠ .retrain → Runs (.retrainTimeout p) s s) ∧
    ((x.link = .active ∧ x.peerSleep = false) ∨ x.link = .retrain → Runs (.lossOfSignal p) s (s.linkDown p 3 0)) ∧
    (x.link = .active → x.peerSleep = true → Runs (.lossOfSignal p) s s) ∧
    (x.link = .lock ∨ x.link = .equalize ∨ x.link = .detect ∨ x.link = .param ∨ x.link = .delay → Runs (.lossOfSignal p) s (s.linkDown p 8 0)) ∧
    (x.link = .listen ∨ x.link = .down → Runs (.lossOfSignal p) s s) ∧
    Runs (.linkCtrlRetrain p) s (s.requestRetrain p).ok ∧
    Runs (.linkCtrlReset p) s (s.linkDown p 6 0).ok ∧
    (isUplink p = true → Runs (.linkCtrlWakePeer p) s (s.withStatus stRefused)) ∧
    (isUplink p = false → x.link = .down → Runs (.linkCtrlWakePeer p) s (s.setPort p { x with wakeSend := true }).ok) ∧
    (isUplink p = false → x.link ≠ .down → Runs (.linkCtrlWakePeer p) s s.ok) ∧
    (x.wakeSend = true → Runs (.wakeBurst p) s { s with out := .wakeBurst p :: s.out }) ∧
    (x.wakeSend = false → Runs (.wakeBurst p) s s ∧ Runs (.wakeTimeout p) s s) ∧
    (x.wakeSend = true → Runs (.wakeTimeout p) s
      (let t := ((s.setPort p { x with wakeSend := false, skim1 := [], skim2 := [] }).log (srcPort p) 0x0052 (leBytes 1 p)).dropSkim (x.skim1 ++ x.skim2)
       t.failRequests (t.skim.reqs.filter (fun r => r.port == p.val))))

/-- R354, R355, R365, R367, R371-R373, R375, 04 R153: a bad CRC is counted and the first one sends a NAK, which its timer repeats; acknowledgements and credits
fall due; a class that starves for credit takes the port down; a sleeping port wakes. Rates recover at a window's end, the oldest broadcast identifier
ages out, a request without reply fails, and TIME units go out. -/
def Obligations.LinkTimers : Prop :=
  (
    ∀ (s : State) (p : PortId),
      let x := s.port p
      let counted := s.setObj (Obj.crcErrors p) ((s.obj (Obj.crcErrors p) + 1) % 2 ^ 64)
      let carries := x.link = .active ∨ x.link = .retrain
      (carries → x.discarding = false → Runs (.unitCrcFail p) s (counted.sendNak p)) ∧
      (x.discarding = true ∨ ¬ carries → Runs (.unitCrcFail p) s counted) ∧
      (carries → x.discarding = true → Runs (.nakTimer p) s (s.sendNak p)) ∧
      (x.discarding = false ∨ ¬ carries → Runs (.nakTimer p) s s) ∧
      (x.unacked ≠ 0 → Runs (.ackDue p) s (s.setPort p { x with ackOwed := true })) ∧ (x.unacked = 0 → Runs (.ackDue p) s s) ∧
      Runs (.creditReturnDue p) s (s.setPort p { x with creditDue := true }) ∧
      (x.link = .active → starved x.credit1 x.skim1 = true ∨ starved x.credit2 x.skim2 = true → Runs (.creditTimeout p) s (s.linkDown p 2 0)) ∧
      (starved x.credit1 x.skim1 = false → starved x.credit2 x.skim2 = false → Runs (.creditTimeout p) s s) ∧
      (x.link ≠ .active → Runs (.creditTimeout p) s s) ∧
      Runs (.laneWakeStart p) s (s.startWake p)) ∧ (
    ∀ (s : State),
      Runs .rateWindow s (allPorts.foldl (fun s p => s.setPort p { s.port p with
        credit1 := (s.port p).credit1.window (maxRate p), credit2 := (s.port p).credit2.window (maxRate p) }) s) ∧
      (∀ (k : Credit) top, k.window top = { k with rate := if k.echoed then k.rate else min top (k.rate + 1), echoed := false, sent := 0 }) ∧
      (maxRate 0 = 48 ∧ maxRate 16 = 12 ∧ maxRate 33 = 48) ∧
      Runs .bcastAgeOut s { s with skim := { s.skim with seen := s.skim.seen.dropLast } } ∧
      (∀ tag : BitVec 12, Runs (.skimReqTimeout tag) s (s.failRequests (s.skim.reqs.filter (fun r => r.tag == tag)))) ∧
      Runs .ftimeSyncSend s (allPorts.foldl State.sendTimes s) ∧
      (∀ p, (s.port p).link = .active → isUplink p = false → s.parentPort ≠ some p →
        s.sendTimes p = s.stirPort p (fun y => { y with tc3 := y.tc3 ++ [(2, [])] })) ∧
      (∀ p, (s.port p).link ≠ .active → s.sendTimes p = s))

/-- R355, R368-R371: an ACTIVE port takes a unit in order; its expected count and what it has to acknowledge move on for a sequenced unit, and no replay
is awaited any more. A message of a class arrives alone in a unit, and enters. -/
def Obligations.UnitAndMessageRows : Prop :=
  (
    ∀ (s : State) (p : PortId) (u : RxUnit), (s.port p).link = .active → u.badFormat = false → u.hdr.toNat / 2 ^ 12 % 8 = 0 → u.hdr.getLsbD 63 = false →
      let heard := s.setPort p { s.port p with peerSleep := false, peerWake := 0, lastFtime := s.times.ftime }
      (u.tc = 0 → ¬ (p.val = 33 ∧ s.lockOwns = true) →
        Runs (.data p u) s ((heard.landUnit p (u.hdr.toNat / 2 ^ 21 % 2) (u.hdr.getLsbD 20) u.pay).countUnit p true)) ∧
      (u.tc = 0 → p.val = 33 → s.lockOwns = true → Runs (.lockstepSignature u) s ((heard.takeSignature u.pay).countUnit p true)) ∧
      (u.tc = 1 ∨ u.tc = 2 → Runs (.data p u) s ((u.msgs.foldl (fun s m => s.msgIn p u.tc m) heard).countUnit p true)) ∧
      (u.tc = 3 →
        (u.kind = 0 → Runs (.idle p u) s (heard.countUnit p false)) ∧
        (u.kind = 1 → Runs (.sleep p u) s ((heard.setPort p { heard.port p with peerSleep := true }).countUnit p false)) ∧
        (u.kind = 2 → Runs (.time p u) s ((heard.recvTime p u.pay).countUnit p false)) ∧
        (u.kind = 3 → Runs (.delayReq p u) s ((heard.recvDelayReq p u.pay).countUnit p false)) ∧
        (u.kind = 4 → Runs (.delayResp p u) s ((heard.recvDelayResp p u.pay).countUnit p false)) ∧
        (u.kind = 5 → Runs (.param p u) s ((heard.recvParam p u.pay).countUnit p false)) ∧
        (u.kind = 6 → Runs (.retrainReq p u) s ((heard.recvRetrain p u.pay).countUnit p false)) ∧
        (u.kind = 7 → Runs (.resetReq p u) s ((heard.recvReset p u.pay).countUnit p false)))) ∧ (
    ∀ (s : State) (p : PortId) (b : Bool),
      ((s.port p).link = .active → ((s.countUnit p b).port p).discarding = false ∧
        ((s.countUnit p b).port p).expect = (s.port p).expect + (if b then 1 else 0) ∧
        ((s.countUnit p b).port p).unacked = (s.port p).unacked + (if b then 1 else 0)) ∧
      ((s.port p).link = .down → s.countUnit p b = s)) ∧ (
    ∀ (s : State) (p : PortId) (m : SkimMsg), (s.port p).link = .active → m.body.length = 16 * m.blocks → m.hdr.toNat % 2 ^ 13 = 0 →
      let heard := s.setPort p { s.port p with peerSleep := false, peerWake := 0, lastFtime := s.times.ftime }
      let entered := fun (cls : Nat) => (heard.msgIn p cls m).countUnit p true
      Runs (.counterOperation p m) s (entered 1) ∧ Runs (.barrierArrival p m) s (entered 1) ∧
      Runs (.proxiedHostRequest p m) s (entered 1) ∧ Runs (.dictionaryRequest p m) s (entered 1) ∧
      Runs (.watchNotification p m) s (entered 2) ∧ Runs (.barrierRelease p m) s (entered 2) ∧
      Runs (.selector p m) s (entered 2) ∧ Runs (.faultNotice p m) s (entered 2) ∧ Runs (.reply p m) s (entered 2) ∧
      Runs (.statusCompletion p m) s (entered 2) ∧ Runs (.echo p m) s (entered 2))

/-- R345, R346, R348, R355, R375: what the units of TC3 do to the port: parameters while training, delay exchanges, retrain requests, resets, and time. -/
def Obligations.TrainingUnitResults : Prop :=
  ∀ (s : State) (p : PortId) (pay : List Byte),
    let x := s.port p
    (∀ u : RxUnit, x.link = .param → u.tc = 3 → u.kind = 5 → u.badFormat = false → Runs (.param p u) s
      ((s.setPort p { x with peerSleep := false, peerWake := 0, lastFtime := s.times.ftime }).takeParam p u.pay)) ∧
    (∀ u : RxUnit, x.link ≠ .active → x.link ≠ .retrain → u.tc < 3 → Runs (.data p u) s s) ∧
    (x.link = .active → isUplink p = false → s.recvDelayReq p pay =
      s.stirPort p (fun y => { y with tc3 := y.tc3 ++ [(4, zeros 8 ++ (slice pay 8 8 ++ leBytes 8 s.times.ftime.toNat))] })) ∧
    (x.link = .delay → s.measures p = false → s.recvDelayResp p pay = (s.setDelay p (leAt pay 32 4)).activate p) ∧
    (x.link = .active → x.retrain = none → isUplink p = false → s.recvRetrain p pay = s.stirPort p (fun y =>
      { y with retrain := some (retrainOf pay), wantRetrain := false, tc3 := y.tc3 ++ [(6, retrainPay (retrainOf pay))] })) ∧
    (s.recvReset p pay = s.linkDown p 5 (leAt pay 0 1)) ∧
    (x.link = .active → isUplink p = false → s.timeSource p = true → s.recvTime p pay =
      s.takeOffset p (sgn 64 (leAt pay 8 8 + s.obj (Obj.linkDelay p) + 2 ^ 64 - s.times.ftime.toNat))) ∧
    (s.rttOf 100 = 13 + 2 * s.obj Obj.laneWake) ∧
    (∀ f : PortState → PortState, (f x).txSleep = false → s.stirPort p f = s.setPort p (f x))

/-- R371, R374, 10 R388, R398, 11 R415, 13 R485, R488: what each TYPE does at its destination: a counter operation is applied and answered, arrivals
and releases reach their barrier, a selector its context, a notice is kept and holds the job, replies complete their request. -/
def Obligations.MessageEffects : Prop :=
  ∀ (s : State) (p : PortId) (m : SkimMsg),
    (∀ c l s1 n t, m.type = 0x01 → s.power.fabric.descending = false → s.ctxOfJob m.jobn = some c → (s.ctx c).sync = .live → leAt m.body 2 1 = 1 →
      s.originLnid c m.src = (l, s1) → s1.resolve c (leAt m.body 0 2 % 4096) = .counter n → n / 4096 = c →
      s1.applyCounter c ⟨srcPort p, 0, 5, l, none⟩ (leAt m.body 0 2 % 4096) n ((s1.counter n).value.toNat + sgn 32 (leAt m.body 4 4))
        (sgn 32 (leAt m.body 4 4)) .none = (true, t) →
      s.deliverMsg p m = t.sendStatus m stSuccess) ∧
    (m.type = 0x01 → s.ctxOfJob m.jobn = none → s.deliverMsg p m = s.sendStatus m stResetting) ∧
    (∀ c n, m.type = 0x11 → s.ctxOfJob m.jobn = some c → (s.ctx c).sync = .live → s.resolve c (leAt m.body 0 2 % 4096) = .barrier n →
      s.deliverMsg p m = s.releaseBarrier c n (bitOf (leAt m.body 2 1) 0) (BitVec.ofNat 32 (leAt m.body 4 4)) m.src (leAt m.body 8 8)) ∧
    (∀ c, m.type = 0x12 → s.ctxOfJob m.jobn = some c → s.deliverMsg p m =
      (s.keepSelector c (BitVec.ofNat 32 (leAt m.body 0 4)) (leAt m.body 4 1 % 16)).lookAhead c) ∧
    (∀ c, m.type = 0x13 → s.ctxOfJob m.jobn = some c → padTo 64 m.body ∈ (s.ctx c).notices → s.deliverMsg p m = s) ∧
    (m.type = 0x14 → s.deliverMsg p m = s.completeRequest m (leAt m.body 0 2) (slice m.body 16 32)) ∧
    (m.type = 0x15 → s.deliverMsg p m = s.completeRequest m (leAt m.body 0 2) []) ∧
    (m.type = 0x10 → s.host.linkUp = false → s.deliverMsg p m = s.sendStatus m stPathLost) ∧
    (m.type = 0x03 → s.xUse p ≠ 1 → (leAt m.body 0 1 = 0 ∨ 6 < leAt m.body 0 1) → s.deliverMsg p m = s.sendReply m stRefused []) ∧
    (m.type = 0x04 → s.xUse p = 1 → s.deliverMsg p m = s.sendReply m stDenied [])

/-! ### The sync unit (10) -/

/-- R383, R384, R395: an operation gives a counter its exact result; below zero is an underflow and above the limit an overflow, neither of which
changes the counter; a changed value flips SENSE; then watches fire and claims are granted, and the operation is counted. -/
def Obligations.CounterRules : Prop :=
  ∀ (s : State) (c vid n : Nat) (src : SyncSrc) (new amount : Int) (echo : FaultEcho),
    let k := s.counter n
    (new < 0 → s.applyCounter c src vid n new amount echo =
      (false, s.syncFault c src 0x3001 src.kind vid k.value.toNat amount k.limit.toNat n echo)) ∧
    ((k.limit.toNat : Int) < new → s.applyCounter c src vid n new amount echo =
      (false, s.syncFault c src 0x3002 src.kind vid k.value.toNat amount k.limit.toNat n echo)) ∧
    (new = k.value.toNat → new ≤ k.limit.toNat → s.applyCounter c src vid n new amount echo =
      (true, ((s.setCounter n k).settle (.counter n)).bump64 (Obj.syncOps c) 1)) ∧
    (0 ≤ new → new ≤ k.limit.toNat → new ≠ k.value.toNat → s.applyCounter c src vid n new amount echo =
      (true, ((s.setCounter n { k with value := BitVec.ofNat 32 new.toNat, sense := !k.sense }).settle (.counter n)).bump64 (Obj.syncOps c) 1))

/-- R400-R403, R406, 11 R433: the host sync port: an operation on a live context is applied, on a context without a job or a frozen one it is discarded with
its flag; a read has its status and value, a watch its handle or status, DONE within eight cycles, earlier at
a free choice (DESIGN CHOICE, log entry 126), and a request while one is under way is discarded as BUSY; UNWATCH ends a registration. A debugger sets a counter, which inverts SENSE and, where its
owner is frozen, fires and grants nothing, or releases a barrier, within its token's scope; without it the write is refused. -/
def Obligations.HostAndDebugSync : Prop :=
  (
    ∀ (s : State) (w : W64) (r : W32), s.dark = false → s.hostReady = true →
      let c := w.toNat / 2 ^ 16 % 16
      let vid := w.toNat % 4096
      let arg : W32 := BitVec.ofNat 32 (w.toNat / 2 ^ 32)
      let src := fun (kind : Nat) => (⟨srcHost, 0, kind, (s.ctx c).lnid.toNat, none⟩ : SyncSrc)
      let nojob := { s with sync := { s.sync with nojob := true, last := BitVec.ofNat 16 stResetting } }
      let refused := { s with sync := { s.sync with refused := true, last := BitVec.ofNat 16 stOwnerLost } }
      let rd := r.toNat / 2 ^ 16 % 16
      let asked := fun (st : Nat) (v : W32) => { s with sync := { s.sync with
        rdDone := false, rdPend := some s.times.grid, rdStatus := BitVec.ofNat 16 st, rdValue := v } }
      ((s.ctx c).sync = .none → Runs (.spOpAdd w) s nojob ∧ Runs (.spOpSet w) s nojob ∧ Runs (.spOpArrive w) s nojob) ∧
      ((s.ctx c).sync = .frozen → Runs (.spOpAdd w) s refused ∧ Runs (.spOpSet w) s refused ∧ Runs (.spOpArrive w) s refused) ∧
      (∀ n, (s.ctx c).sync = .live → s.resolve c vid = .counter n →
        Runs (.spOpAdd w) s (s.applyCounter c (src 3) vid n ((s.counter n).value.toNat + arg.toInt) arg.toInt .none).2 ∧
        Runs (.spOpSet w) s (s.syncSet c vid (src 4) arg).2) ∧
      (∀ n, (s.ctx c).sync = .live → s.resolve c vid = .barrier n → Runs (.spOpArrive w) s (s.localArrive c n (src 9))) ∧
      (s.sync.rdPend = none →
        (∀ n, (s.ctx rd).sync = .live → s.resolve rd (r.toNat % 4096) = .counter n → Runs (.spRdreq r) s (asked stSuccess (s.counter n).value)) ∧
        (∀ n, (s.ctx rd).sync = .frozen → s.resolve rd (r.toNat % 4096) = .counter n → Runs (.spRdreq r) s (asked stOwnerLost (s.counter n).value)) ∧
        ((s.ctx rd).sync = .none → Runs (.spRdreq r) s (asked stResetting 0))) ∧
      (∀ t, s.sync.rdPend = some t → s.times.grid < t + 3 → ∃ u, Runs (.spRdreq r) s u ∧
        (u = { s with fresh := s.fresh + 1, sync := { s.sync with busy := true } } ∨ (u.sync.rdDone = false ∧ u.sync.rdPend = some s.times.grid))) ∧
      (s.sync.wPend = none → (s.ctx c).sync = .none → Runs (.spWatch w) s
        { s with sync := { s.sync with wDone := false, wPend := some s.times.grid, wFail := true, wHandle := BitVec.ofNat 16 stResetting } }) ∧
      (∀ n h t, s.sync.wPend = none → (s.ctx c).sync = .live → w.toNat / 2 ^ 30 % 4 ≠ 3 → s.resolve c vid = .counter n →
        s.registerPool (.counter n) c vid (condOf (w.toNat / 2 ^ 30 % 4)) arg (.queue (w.toNat / 2 ^ 27 % 8)) = (.ok h, t) →
        Runs (.spWatch w) s { t with sync := { t.sync with wDone := false, wPend := some t.times.grid, wFail := false, wHandle := h } }) ∧
      (∀ t, s.sync.wPend = some t → s.times.grid < t + 3 → ∃ u, Runs (.spWatch w) s u ∧
        (u = { s with fresh := s.fresh + 1, sync := { s.sync with busy := true } } ∨ (u.sync.wDone = false ∧ u.sync.wPend = some u.times.grid))) ∧
      (∀ t, t + 3 ≤ s.times.grid → s.sync.rdPend = some t → s.rdSettle = { s with sync := { s.sync with rdDone := true, rdPend := none } }) ∧
      (∀ t, t + 3 ≤ s.times.grid → s.sync.wPend = some t → s.wSettle = { s with sync := { s.sync with wDone := true, wPend := none } }) ∧
      Runs (.spUnwatch r) s (s.unwatch (r.toNat / 2 ^ 16 % 16) (r.setWidth 16))) ∧ (
    ∀ (s : State) (client : Byte) (body : W64) (b : BitVec 16),
      let c := body.toNat / 2 ^ 12 % 16
      let v : W32 := BitVec.ofNat 32 (body.toNat / 2 ^ 32)
      (s.inScope client 1 = false → Runs (.debugCounterSet client body) s (s.withStatus stToken) ∧
        Runs (.debugBarrierRelease client b) s (s.withStatus stToken)) ∧
      (∀ n, s.inScope client 1 = true → (s.ctx c).sync ≠ .none → body.toNat / 2 ^ 16 % 2 ^ 16 = 0 →
        s.resolve c (body.toNat % 4096) = .counter n ∨ s.resolve c (body.toNat % 4096) = .gone n → v.toNat ≤ (s.counter n).limit.toNat →
        v ≠ (s.counter n).value →
        let t := s.setCounter n { s.counter n with value := v, sense := !(s.counter n).sense }
        let note := fun (u : State) => u.noteDebug (body.toNat % 2 ^ 16) (s.counter n).value.toNat v.toNat client.toNat
        ((s.ctx (n / 4096)).sync = .frozen → Runs (.debugCounterSet client body) s (note t)) ∧
        ((s.ctx (n / 4096)).sync ≠ .frozen → s.resolve c (body.toNat % 4096) = .counter n →
          Runs (.debugCounterSet client body) s (note ((t.settle (.counter n)).bump64 (Obj.syncOps c) 1)))) ∧
      (∀ n, s.inScope client 1 = true → s.resolve c (body.toNat % 4096) = .counter n → (s.counter n).limit.toNat < v.toNat →
        Runs (.debugCounterSet client body) s (s.withStatus stRefused)) ∧
      (∀ n, s.inScope client 1 = true → (s.ctx (b.toNat / 2 ^ 12)).sync = .live → s.resolve (b.toNat / 2 ^ 12) (b.toNat % 4096) = .barrier n →
        (s.barrier n).root = (s.ctx (b.toNat / 2 ^ 12)).lnid → Runs (.debugBarrierRelease client b) s
          ((s.rootRelease (b.toNat / 2 ^ 12) n).noteDebug b.toNat (s.barrier n).episode.toNat ((s.barrier n).episode + 1).toNat client.toNat)))

/-! ### Resets, lock-step and perturbation (08, 11) -/

/-- R337, R338, R427-R438: context resets; a fabric reset takes every port down and waits for relays unless forced; lock-step is switched while no
context has a job, and a phase the peer does not match in time diverges; slots are armed, injected and disarmed by a debugger in scope. -/
def Obligations.ResetAndPerturbResults : Prop :=
  ∀ (s : State) (c : CtxId) (client : Byte) (n : Fin 16),
    let token := s.withStatus stToken
    let w := s.slotWord n
    let x := s.slot n
    Runs (.ctxResetReset c) s (s.resetCtx c 1).ok ∧ Runs (.ctxResetPreempt c) s (s.resetCtx c 2).ok ∧
    (s.relays = true → Runs .fabricResetRequest s (s.withStatus stResetting)) ∧
    (s.relays = false → Runs .fabricResetRequest s (allPorts.foldl (fun s p => s.linkDown p 6 0) s).ok) ∧
    Runs .fabricResetForce s (allPorts.foldl (fun s p => s.linkDown p 6 0) s).ok ∧
    (∀ on, s.anyBusy = true → Runs (.lockstepEnable on) s (s.withStatus stWrongState)) ∧
    (∀ t, s.anyBusy = false → s.obj Obj.lockstepEnable = 0 → s.obj (Obj.xOwner 1) = clNone → s.obj (Obj.schedOwner 33) = clNone →
      s.commitScalar Obj.lockstepEnable 0x10 1 = t → t.succeeded = true → Runs (.lockstepEnable true) s ((t.dropQueued 33).setObj (Obj.xOwner 1) clLock).clearLock) ∧
    (∀ o rest, s.lock.own = o :: rest → s.lockOwns = true → Runs .lockstepTimeout s (s.diverge 4 o.step o.ps 0)) ∧
    (s.inScope client 0 = false → Runs (.perturbArm client n) s token ∧ Runs (.perturbDisarm client n) s token ∧
      ∀ on, Runs (.perturbEnable client on) s token) ∧
    (s.inScope client 0 = true →
      (x.armed = false → w.bad = false → Runs (.perturbArm client n) s
        ({ s.setSlot n ⟨client, true, w.count, w.first⟩ with boot := { s.boot with everPerturb := true } }).ok) ∧
      (w.bad = true → x.armed = false → Runs (.perturbArm client n) s (s.withStatus stRefused)) ∧
      (x.armed = true → x.owner ≠ client → Runs (.perturbArm client n) s (s.withStatus stHeld)) ∧
      Runs (.perturbDisarm client n) s (s.setSlot n Perturb.reset).ok ∧
      Runs (.perturbEnable client true) s (s.setObj Obj.perturbEnable 1).ok ∧
      Runs (.perturbEnable client false) s ({ s.setObj Obj.perturbEnable 0 with perturb := [] }).ok) ∧
    (x.armed = false → Runs (.perturbInject n) s s) ∧
    (x.armed = true → s.obj Obj.perturbEnable = 1 → s.triggered w x.due = true → x.left ≤ 1 → w.ftime = true → Runs (.perturbInject n) s
      ((((s.setSlot n Perturb.reset).injectKind w).bump64 Obj.perturbInjections 1).log (srcPerturb n) 0x0070
        (leBytes 1 w.kind ++ [0] ++ leBytes 2 w.target ++ leBytes 6 s.times.ftime.toNat)))

/-! ### DRAM streams and landings (07, 08) -/

/-- R252, R262, R275-R278, R318, R584: a channel slot serves a stream or the scrub, which reads its next sector when it is due; a
completed read is decoded into vat SRAM; a die's own refresh of its banks in order; the hold of a hot die, every HOT_HOLD_PERIOD of running ticks; the signal of a landing that is written. -/
def Obligations.DramResults : Prop :=
  ∀ (s : State) (ch : Fin 64) (die : Fin 2) (c : CtxId),
    (s.selfRefresh = true → Runs (.channelSlot ch) s s) ∧
    (s.selfRefresh = false →
      (s.streamCtx (ch / 32) = none → Runs (.channelSlot ch) s (s.scrubOne ch)) ∧
      (∀ k, s.streamCtx (ch / 32) = some k → (s.ctx k).ticksRun ≤ s.slotTick (Tab.get (fun _ => 0) s.mem.slots ch) → Runs (.channelSlot ch) s s) ∧
      (∀ k, s.streamCtx (ch / 32) = some k →
        let n := Tab.get (fun _ => 0) s.mem.slots ch
        let t := { s with mem := { s.mem with slots := Tab.set (fun _ => 0) s.mem.slots ch (n + 1) } }
        s.slotTick n < (s.ctx k).ticksRun → (slotReserved n = true → Runs (.channelSlot ch) s (t.scrubOne ch)) ∧
          (slotReserved n = false → Runs (.channelSlot ch) s (t.streamSlot k ch n)))) ∧
    (s.obj Obj.scrubInterval ≠ 0 → s.mem.fixes.find? (fun e => e.1 == ch.val) = none →
      let (i, due) := Tab.get (fun _ => (0, 0)) s.mem.patrol ch
      due ≤ s.times.grid → s.scrubOne ch = ({ s with mem := { s.mem with
        patrol := Tab.set (fun _ => (0, 0)) s.mem.patrol ch ((i + 1) % 2 ^ 28, due + s.scrubGap) } } : State).scrubSector ch (physical ch (32 * i))) ∧
    (∀ g errs r d t, s.mem.issued.find? (fun g => g.ch == ch.val) = some g → s.mem.streams.find? (fun r => g.of r) = some r →
      ({ s with mem := { s.mem with issued := s.mem.issued.erase g } } : State).eccRead 2 g.pa g.data errs = (d, none, t) → g.read = true →
      Runs (.granuleComplete ch errs) s ((t.sramWrite g.va d).finishGranule r)) ∧
    (∀ errs, s.mem.issued.find? (fun g => g.ch == ch.val) = none → Runs (.granuleComplete ch errs) s s) ∧
    (∀ k, s.streamCtx die = some k → (s.ctx k).hold = none → Runs (.autonomousRefresh die) s s) ∧
    (s.streamCtx die = none → (∀ b, s.bankShut die b = true) →
      let b := Tab.get (fun _ => 0) s.mem.auto die
      b < 16 → Runs (.autonomousRefresh die) s { s with mem := { s.mem with
        refreshed := Tab.set (fun _ => 0) s.mem.refreshed die 0, auto := Tab.set (fun _ => 0) s.mem.auto die ((b + 1) % 16) } }) ∧
    (∀ k, s.streamCtx die = some k → s.hotDie die = true → s.obj Obj.hotHoldPeriod ≤ Tab.get (fun _ => 0) s.mem.refreshed die →
      (s.ctx k).hold = none → (s.ctx k).job = .running →
      let t := { s with mem := { s.mem with
        refreshed := Tab.set (fun _ => 0) s.mem.refreshed die (Tab.get (fun _ => 0) s.mem.refreshed die - s.obj Obj.hotHoldPeriod)
        asked := Tab.set (fun _ => 0) s.mem.asked die (s.holdStart k + 1) } }
      Runs (.hotRefreshHold die) s (t.raiseHold k (s.holdStart k) 64 2 false none)) ∧
    (∀ g rest, (s.ctx c).signals = g :: rest → Runs (.landingComplete c) s
      ((s.setCtx c { s.ctx c with signals := rest }).syncAdd c g.vid ⟨srcPort g.port, g.entry, 6, (s.ctx c).lnid.toNat, none⟩ 1).2) ∧
    ((s.ctx c).signals = [] → Runs (.landingComplete c) s s)

/-! ### Power (12) -/

/-- R439-R449, R452, R466: a power sample updates POWER_NOW, ENERGY and BUDGET_EFFECTIVE, and governs; BUDGET_W takes 150 to 500 W; a report replaces
its member's entry; the thermal loop lowers and raises the cap; a trip and a shutdown. In a dark module none of the sensors counts. -/
def Obligations.PowerSensorResults : Prop :=
  ∀ (s : State) (c : CtxId) (client : Byte) (watts : BitVec 16),
    let sampled := (s.setObj Obj.powerNow watts.toNat).bump64 Obj.energy watts.toNat
    (s.dark = true → Runs (.powerSample watts) s s ∧ (∀ t k, Runs (.thermalLoop t k) s s) ∧ (∀ k i t l, Runs (.thermalTrip k i t l) s s) ∧
      Runs .thermalShutdown s s) ∧
    (s.dark = false → Runs (.powerSample watts) s (allCtxs.foldl State.permit
      ((sampled.setObj Obj.budgetEffective (min (sampled.obj Obj.budgetW) (sampled.obj Obj.thermalCap))).govern watts.toNat))) ∧
    (∀ theta p b k m, nextTheta theta p b k m = if k < p then m else if b < p then min m (theta + ceilDiv (64 * (p - b)) p) else theta - 1) ∧
    (s.clientGate client = none → s.served Obj.budgetW = true → (watts.toNat < 150 ∨ 500 < watts.toNat) →
      Runs (.budgetW client watts) s (s.withStatus stRefused)) ∧
    (s.clientGate client = none → s.served Obj.budgetW = true → 150 ≤ watts.toNat → watts.toNat ≤ 500 →
      let t := s.commitScalar Obj.budgetW client watts.toNat
      t.succeeded = true → Runs (.budgetW client watts) s
        (t.log srcPower 0x0091 (leBytes 2 (s.obj Obj.budgetW) ++ leBytes 2 watts.toNat ++ leBytes 1 client.toNat))) ∧
    (∀ body : W32, s.served (Obj.budgetReport c) = true → body.toNat / 2 ^ 12 % 16 = 0 → body.toNat / 2 ^ 24 = 0 → body.toNat % 4096 ∈ s.members c →
      Runs (.budgetReport c body) s (s.setCtx c { s.ctx c with
        reports := Tab.set (fun _ => s.obj (Obj.launchVariant c)) (s.ctx c).reports (body.toNat % 4096) (body.toNat / 2 ^ 16 % 256) }).ok) ∧
    ((s.ctx c).owedReport = true → (s.ctx c).job = .running → Runs (.budgetReportRetry c) s
      ((s.sendReport c).setCtx c { (s.sendReport c).ctx c with quiet := (s.ctx c).quiet, hot := (s.ctx c).hot })) ∧
    (∀ t k, s.dark = false → Runs (.thermalLoop t k) s (s.thermal t k.toNat)) ∧
    (∀ k i t l, s.dark = false → Runs (.thermalTrip k i t l) s (s.trip k.toNat i.toNat t l)) ∧
    (s.dark = false → Runs .thermalShutdown s ((s.sendFlags 2).restart 1 false))

/-- R452-R454, 15 R558: a power fail is detected once, reported as POWER_FAIL with what was measured; after its records are committed the links, the C-dies and the
DRAM are off; without bulk the module is OFF; a restored input ends it, or after the cut restarts the module. -/
def Obligations.PowerFailResults : Prop :=
  ∀ (s : State) (vin iin bulk : BitVec 16),
    let detail := fun (k : Nat) => leBytes 1 k ++ [0] ++ leBytes 2 vin.toNat ++ leBytes 2 iin.toNat ++ leBytes 2 bulk.toNat ++
      leBytes 2 (s.obj Obj.powerNow)
    let failed := fun (k : Nat) => ({ s with power := { s.power with fail := .detected } } : State).faultAll ⟨0x6001, srcPower, 0, detail k, false⟩
    (s.power.off = false → s.power.fail = .none → Runs (.pfailN vin iin bulk) s (failed 1) ∧ Runs (.underVoltage vin iin bulk false) s (failed 2) ∧
      Runs (.underVoltage vin iin bulk true) s (failed 3)) ∧
    (s.power.fail = .detected → Runs (.pfailN vin iin bulk) s s ∧ Runs .powerFailCommitDone s s.powerCut ∧
      ∀ us : W32, Runs (.inputRestored us) s
        (({ s with power := { s.power with fail := .none } } : State).log srcPower 0x0096 (leBytes 4 us.toNat))) ∧
    (s.powerCut.sram = [] ∧ s.powerCut.dram = [] ∧ s.powerCut.vats = [] ∧ s.powerCut.ext = [] ∧ s.powerCut.host.linkUp = false) ∧
    (s.power.fail = .committed → ∀ us, Runs (.inputRestored us) s (s.restart 2 true)) ∧
    (s.power.fail ≠ .none → Runs .bulkDepleted s { s.restart 1 false with entry := { (s.restart 1 false).entry with switch := false } }) ∧
    (s.power.fail = .none → Runs .bulkDepleted s s ∧ Runs .powerFailCommitDone s s)

/-- R456-R466: wakes, votes and the movement of the domains: WAKE_N, a wake pattern, a signal and the PCIe link wake a module as their source says, and WAKE_N
one in OFF, with FABRIC and HOST in IDLE and the others where they are; the wake hold ends; a vote takes its client's slot; OFF is refused while a claim stands; a domain whose
floor time has passed falls when it may, and its move completes. -/
def Obligations.PowerStateResults : Prop :=
  ∀ (s : State) (p : PortId) (d : Domain) (client : Byte) (w : W32),
    (s.power.off = false → Runs .wakeN s (s.wake 1)) ∧
    (s.power.off = true → s.entry.switch = true → s.entry.soft = false →
      let t := (s.restart 1 true).setObj Obj.wakeCause 1
      let at_ := fun (l : Level) => (⟨l, none, false⟩ : DomainState)
      let power := { t.power with wakeHold := true, fabric := at_ .idle, host := at_ .idle, compute := at_ .deep, memory := at_ .deep }
      Runs .wakeN s { t with power := power }.settlePower) ∧
    (isUplink p = false → s.power.off = false → (s.wake 5).dark = false → Runs (.wakePattern p) s ((s.wake 5).signalDetect p)) ∧
    (isUplink p = true → Runs (.wakePattern p) s s) ∧
    (s.dark = false → Runs (.signalDetect p) s ((s.wake 4).signalDetect p) ∧
      (s.hostIn.host.linkUp = true → Runs .pcieLinkStateExit s { s.hostIn with host := { s.hostIn.host with link := .l0 } }) ∧
      (s.hostIn.host.linkUp = false → Runs .pcieLinkStateExit s s.hostIn)) ∧
    (s.hostReady = true → s.hostIn = s) ∧ (s.hostReady = false → s.hostIn = ((s.wake 3).serve .host).answered) ∧
    (s.dark = true → Runs (.signalDetect p) s s ∧ Runs .pcieLinkStateExit s s ∧ Runs (.domainFall d) s s ∧ Runs (.domainTransitionDone d) s s) ∧
    Runs .wakeHoldExpiry s { s with power := { s.power with wakeHold := false } } ∧
    (s.clientGate client = none → s.served Obj.voteOwn = true → voteBad w = true → Runs (.voteOwn client w) s (s.withStatus stRefused)) ∧
    (s.clientGate client = none → s.served Obj.voteOwn = true → voteBad w = false →
      let word : W32 := BitVec.ofNat 32 (w.toNat / 2 ^ 24 * 2 ^ 24 + client.toNat * 2 ^ 16 + w.toNat % 2 ^ 16)
      let t : State := { s with power := { s.power with votes := Tab.set (fun _ => 0) s.power.votes (voteSlot client.toNat) word } }
      ((t.asleep = false ∨ 2 ≤ t.target .fabric) → Runs (.voteOwn client w) s t.settlePower.ok) ∧
      (t.asleep = true → t.target .fabric < 2 → Runs (.voteOwn client w) s (t.wake 6).ok)) ∧
    (s.clientGate client = none → s.served Obj.offRequest = true → client ≠ 0x11 →
      (s.cannotStop = true → Runs (.offRequest client) s (s.withStatus stHeld)) ∧
      (s.cannotStop = false → Runs (.offRequest client) s ((s.sendFlags 2).restart 1 false).ok)) ∧
    (s.dark = false → (s.domain d).level.code < s.target d → Runs (.domainFall d) s (s.setDomain d { s.domain d with due := true }).fallAll) ∧
    (s.dark = false → s.target d ≤ (s.domain d).level.code → Runs (.domainFall d) s s) ∧
    (s.dark = false → (s.domain d).moving = none → Runs (.domainTransitionDone d) s s) ∧
    (s.dark = false → Runs (.domainTransitionDone d) s (s.moved d))

/-! ### The 36 V entry and the reference (16) -/

/-- R568, R579-R581, R583: MATE_N high opens the switch; it closes while MATE_N is low, and after the soft start a module that was OFF restarts; over-voltage
opens it as a power fail of trigger 2 or 3 (a free choice: DESIGN CHOICE, log entry 3); FREF is lost with or without a designated link, fails over, and returns. -/
def Obligations.EntryResults : Prop :=
  ∀ (s : State) (vin iin bulk : BitVec 16) (ppb : W32),
    let e := s.entry
    Runs (.mateN true) s { s with entry := { e with mate := true } } ∧
    Runs (.mateN false) s { s with entry := { e with mate := false, switch := false, soft := false } } ∧
    (e.mate = true → e.switch = false → Runs .inputSwitchClose s { s with entry := { e with switch := true, soft := true } }) ∧
    (e.mate = false → Runs .inputSwitchClose s s) ∧
    (e.soft = true → s.power.off = false → Runs .softStartDone s { s with entry := { e with soft := false } }) ∧
    (e.soft = true → s.power.off = true → Runs .softStartDone s (({ s with entry := { e with soft := false } } : State).restart 1 true)) ∧
    (∃ trigger ∈ [2, 3], Runs (.overVoltage vin iin bulk) s
      (({ s with entry := { e with switch := false, soft := false }, fresh := s.fresh + 1 } : State).powerFail trigger vin iin bulk)) ∧
    (e.fref = false → Runs (.frefLost ppb) s s) ∧
    (∀ p, e.fref = true → s.dark = false → s.designated = some p → Runs (.frefLost ppb) s
      (({ s with entry := { e with fref := false, ppb := ppb, failover := some p, pending := true } } : State).referenceLost 1 p)) ∧
    (e.fref = true → s.dark = false → s.designated = none → Runs (.frefLost ppb) s
      (({ s with entry := { e with fref := false, ppb := ppb, failover := none, pending := false } } : State).referenceLost 2 0xFF)) ∧
    (∀ p, e.fref = false → s.dark = false → s.designated = some p → e.pending = true → Runs .frefFailoverLock s
      { s with entry := { e with failover := some (e.failover.getD p), pending := false, barred := false } }) ∧
    Runs .frefReturn s { s with entry := { e with fref := true, failover := none, pending := false, barred := false } }

/-! ### The host interface (13, 07, 14) -/

/-- 07 R252, R284-R286, 13 R470, R471, R474: the DRAM and SRAM windows and the registers of a module that is not dark. A BAR4 byte reads as SRAM holds it where it
is mapped and SRAM has been cleared, as all ones elsewhere; the clear leaves every byte zero and opens BAR4. A package beyond its range trips. A
write of a register stages or applies. -/
def Obligations.HostAccessResults : Prop :=
  (
    ∀ (s : State), s.dark = false → s.hostReady = true →
      (∀ (a : BitVec 39) n errs d t, s.bar2Read a.toNat n errs = (some d, t) → Runs (.hostDramRead a n errs) s { t with out := .readData d :: t.out }) ∧
      (∀ (a : BitVec 39) n errs t, s.bar2Read a.toNat n errs = (none, t) → Runs (.hostDramRead a n errs) s { t with out := .poisoned :: t.out }) ∧
      (∀ (a : BitVec 39) data errs, Runs (.hostDramWrite a data errs) s (s.bar2Write a.toNat data errs)) ∧
      (∀ (a : BitVec 31) n, let t := s.rouse (barDomain a.toNat)
        Runs (.hostSramRead a n) s { t with out := .readData (t.bar4Read a.toNat n) :: t.out }) ∧
      (∀ a n i, i < n → (s.bar4Read a n)[i]? = some (if s.host.sram ∧ s.barMaps (a + i) then Tab.get memDefault s.sram (a + i) else 0xFF)) ∧
      (∀ (a : BitVec 31) data, Runs (.hostSramWrite a data) s
        ((List.range data.length).foldl (fun s i => s.barWrite (a.toNat + i) (data.getD i 0)) (s.rouse (barDomain a.toNat)))) ∧
      (s.host.sram = false → Runs .sramClearDone s { s with sram := [], ext := [], host := { s.host with sram := true } }) ∧
      (∀ (pkg : Fin 16) temp band,
        let t : State := { s with mem := { s.mem with temps := Tab.set (fun _ => (400 : Int)) s.mem.temps pkg temp,
                                                      bands := Tab.set (fun _ => (1 : Byte)) s.mem.bands pkg band } }
        Runs (.dramTemperaturePoll pkg temp band false) s t ∧
        Runs (.dramTemperaturePoll pkg temp band true) s (({ t with fresh := s.fresh + 1 } : State).trip 3 pkg temp
          ((Config.freeValue s.fresh).setWidth 16).toInt))) ∧ (
    ∀ (s : State) (off : BitVec 24), s.dark = false → s.hostReady = true →
      (off.toNat % 4 ≠ 0 →
        let u := if off.toNat / 0x10000 = 5 then s.rdSettle.wSettle else s
        Runs (.latchedRead off) s { u with out := .readData (zeros 4) :: u.out }) ∧
      (∀ v value, off.toNat % 8 = 0 → s.reg off.toNat = some (8, v) → Runs (.registerWrite off true value) s (s.write64 0x10 off.toNat value)) ∧
      (∀ value : W64, off.toNat % 4 = 0 → Runs (.registerWrite off false value) s (s.write32 0x10 off.toNat (value.setWidth 32))) ∧
      (∀ value : W32, off.toNat % 4 = 0 → Runs (.stagedHalfWrite off value) s (s.write32 0x10 off.toNat value)) ∧
      (∀ v : W64, s.write64 0x10 0x30000 v = s.ringBells v))

/-- R9: a 64-bit register is read as two 32-bit halves: reading the lower half latches the upper half, in place of an older latch; the next read of the
upper half returns the latch. -/
def Obligations.LatchedHalves : Prop :=
  ∀ (s : State) (low high : BitVec 24), s.dark = false → s.hostReady = true → low.toNat % 8 = 0 → high.toNat = low.toNat + 4 →
    ackMailbox low.toNat = none → ackMailbox high.toNat = none →
    let u := if low.toNat / 0x10000 = 5 then s.rdSettle.wSettle else s
    u.reg high.toNat = none → ∀ v, u.reg low.toNat = some (8, v) →
      let t : State := { u with
        times := { u.times with latches := (low.toNat, BitVec.ofNat 32 (v / 2 ^ 32)) :: u.times.latches.filter (fun e => e.1 != low.toNat) }
        out := .readData (leBytes 4 (v % 2 ^ 32)) :: u.out }
      Runs (.latchedRead low) s t ∧ t.times.latches.filter (fun e => e.1 == low.toNat) = [(low.toNat, BitVec.ofNat 32 (v / 2 ^ 32))] ∧
      ∀ w : W32, u.times.latches.find? (fun e => e.1 == low.toNat) = some (low.toNat, w) → Runs (.latchedRead high) s
        { u with
          times := { u.times with latches := u.times.latches.filter (fun e => e.1 != low.toNat) }
          out := .readData (leBytes 4 w.toNat) :: u.out }

/-- 14 R498-R519, 11 R422, 13 R487, R490: the dictionary engine: GO starts a request in a slot that is idle; a long one goes on chunk by chunk. RESTORE_DEFAULTS,
EVENT_RESUME, PROXY_HOME and X_FUNCTION are written with their checks, and an owner field by the rules of R502, in their order. -/
def Obligations.DictionaryResults : Prop :=
  ∀ (s : State) (i : Fin 8) (cmd : W32) (client : Byte),
    let go := fun (op : Nat) (dma : List Byte) => (s.setEngine i { s.engine i with cmd := withOp cmd op &&& 0x0F030001 }).runSlot i dma
    (s.dark = false → s.hostReady = true → (s.engine i).busy = false → Runs (.dictRead i cmd) s (go 1 []) ∧
      (∀ dma, Runs (.dictWrite i cmd dma) s (go 2 dma)) ∧ Runs (.dictDesc i cmd) s (go 3 []) ∧ Runs (.dictNext i cmd) s (go 4 [])) ∧
    ((s.engine i).busy = true → Runs (.domainChunk i) s (s.chunk i) ∧ (s.hostReady = true → Runs (.dictRead i cmd) s s)) ∧
    (s.clientGate client = none → s.served Obj.restoreDefaults = true →
      (s.anyBusy = true → Runs (.restoreDefaults client) s (s.withStatus stWrongState)) ∧
      (s.anyBusy = false → s.power.fail = .none → s.boot.failed = false →
        let changed := restorable.filter (fun e => s.objBytes e.1 e.2 != defaultBytes e.1 e.2)
        let t := (changed.foldl (fun s e => (s.setBytes e.1 e.2 (defaultBytes e.1 e.2)).csWrite e.1 (defaultBytes e.1 e.2)) s).settleX.settleIslands.settlePower
        Runs (.restoreDefaults client) s (t.log (srcOf client) 0x00B4 (leBytes 1 client.toNat ++ [0, 0, 0] ++ leBytes 2 changed.length)).ok)) ∧
    (∀ data : List Byte, data.length ≤ 393216 → data.length % 6 = 0 → Runs (.eventResume data) s (s.eventResume data).ok) ∧
    (∀ data : List Byte, 393216 < data.length ∨ data.length % 6 ≠ 0 → Runs (.eventResume data) s (s.withStatus stRefused)) ∧
    (∀ (ix : BitVec 16) (sub value : Byte),
      let key := 256 * ix.toNat + sub.toNat
      let held := s.obj key
      isOwnerField key = true → s.doorGate { hostDoor with client := client } false = none →
        (value = client → (held = clNone ∨ held = client.toNat) → client.toNat < 23 →
          Runs (.ownerWrite ix sub client value) s (s.setObj key client.toNat).ok) ∧
        (value = 0xFF → held = client.toNat → Runs (.ownerWrite ix sub client value) s (s.setObj key clNone).ok) ∧
        (23 ≤ value.toNat → value ≠ 0xFF → Runs (.ownerWrite ix sub client value) s (s.withStatus stRefused)) ∧
        (value.toNat < 23 → value ≠ client → Runs (.ownerWrite ix sub client value) s (s.withStatus stDenied)) ∧
        (value = 0xFF → held ≠ client.toNat → Runs (.ownerWrite ix sub client value) s (s.withStatus stDenied)) ∧
        (value = client → client.toNat < 23 → held ≠ clNone → held ≠ client.toNat →
          Runs (.ownerWrite ix sub client value) s (s.withStatus stHeld))) ∧
    (∀ v : BitVec 16, pnidOrNone v.toNat = false → Runs (.proxyHome v) s (s.withStatus stRefused)) ∧
    (∀ v : BitVec 16, pnidOrNone v.toNat = true →
      let t := s.commitScalar Obj.proxyHome 0x10 v.toNat
      (t.succeeded = true → Runs (.proxyHome v) s (({ t with events := { t.events with mute := true } } : State).log srcHost 0x00A4
        (leBytes 2 (s.obj Obj.proxyHome) ++ leBytes 2 v.toNat))) ∧
      (t.succeeded = false → Runs (.proxyHome v) s t)) ∧
    (∀ x : Fin 2,
      let t := fun (v : Nat) => s.commitScalar (Obj.xFunction x) 0x10 v
      let free := fun (code : Nat) => s.obj (Obj.xOwner x) = code ∨ (s.obj (Obj.xOwner x) = clNone ∧ s.obj (Obj.schedOwner (32 + x)) = clNone)
      ((t 0).succeeded = true → Runs (.xFunctionScheduled x) s (t 0).settleX.settlePower) ∧
      (free clStorage → (t 1).succeeded = true → Runs (.xFunctionStorage x) s ((t 1).setObj (Obj.xOwner x) clStorage).settlePower) ∧
      (free clBridge → (t 2).succeeded = true → Runs (.xFunctionBridge x) s ((t 2).setObj (Obj.xOwner x) clBridge).settlePower) ∧
      (¬ free clStorage → Runs (.xFunctionStorage x) s (s.withStatus stHeld)) ∧
      (¬ free clBridge → Runs (.xFunctionBridge x) s (s.withStatus stHeld)))

/-- 13 R476-R481: mailboxes and doorbells. A host message counts SEQ and fills its mailbox; a write into a FULL one is a collision; firmware takes,
acknowledges and posts; a stale HACK is only counted. A doorbell bit that rises rings. -/
def Obligations.MailboxResults : Prop :=
  ∀ (s : State) (m : Fin 8), s.dark = false → s.hostReady = true →
    let x := s.mbIn m
    (x.full = false → s.collide m = s) ∧
    (x.full = true → x.collision = false → s.collide m = (s.setMbIn m { x with collision := true }).noteCollision m 0 x.seq) ∧
    (let t := (s.setMbIn m { x with seq := x.seq + 1 }).collide m
     Runs (.mbGo m) s ((t.setMbIn m { t.mbIn m with full := true }).emit (.mp [BitVec.ofNat 32 m.val]))) ∧
    (∀ (i : Fin 16) (w : W32), Runs (.mbDataWrite m i w) s
      ((s.setMbIn m { x with data := Tab.set (fun _ => 0) x.data i w }).collide m)) ∧
    (s.fwRuns = true → x.full = true → x.taken = none → Runs (.mbTake m) s (s.setMbIn m { x with taken := some (x.seq, x.words) })) ∧
    (s.fwRuns = false → Runs (.mbTake m) s s ∧ ∀ words, Runs (.mpMailboxPost m words) s s) ∧
    (∀ (code : BitVec 16) k w, x.service = some (k, w) → s.fwRuns = true → Runs (.mbAcknowledge m code) s
      (s.acknowledge m (if k = 1 ∨ k = 2 ∨ k = 3 then code.toNat else stRefused))) ∧
    Runs (.mbAckRead m) s { s.setMbIn m { x with ack := 0 } with out := .readData (leBytes 4 x.ack.toNat) :: s.out } ∧
    (∀ w : W32, w.toNat / 2 ^ 16 % 256 = (s.mbOut m).seq.toNat → Runs (.mbHack m w) s
      { s.setMbOut m { s.mbOut m with full := false } with out := .mp [BitVec.ofNat 32 (0x100 + m.val), w &&& 0x00FFFFFF] :: s.out }) ∧
    (∀ w : W32, w.toNat / 2 ^ 16 % 256 ≠ (s.mbOut m).seq.toNat → Runs (.mbHack m w) s
      (s.setObj Obj.mbStaleAcks ((s.obj Obj.mbStaleAcks + 1) % 2 ^ 32))) ∧
    (∀ words, s.fwRuns = true → Runs (.mpMailboxPost m words) s (s.post m words)) ∧
    (∀ bits : W64, Runs (.dbIn bits) s
      (((List.range 64).filter (fun n => bitOf bits.toNat n && !bitOf s.host.dbIn.toNat n)).foldl State.setBell s).mpBells) ∧
    (∀ n : Fin 64, s.fwRuns = true → s.host.dbOut.getLsbD n = false → s.host.dbOutMask.getLsbD n = true → Runs (.dbOutSet n) s
      { s with host := { s.host with dbOut := s.host.dbOut ||| BitVec.ofNat 64 (2 ^ n.val) } }) ∧
    (∀ n : Fin 64, s.fwRuns = true → s.host.dbOut.getLsbD n = false → s.host.dbOutMask.getLsbD n = false → Runs (.dbOutSet n) s
      (({ s with host := { s.host with dbOut := s.host.dbOut ||| BitVec.ofNat 64 (2 ^ n.val) } } : State).signal (32 + n.val / 2)))

/-- 13 R471, R475, R482-R486, 14 R516: event queues, MSI-X vectors, proxy slots and the resets of the host door, of a module that the host reaches; in DEEP
and OFF it does not. -/
def Obligations.HostDoorResults : Prop :=
  ∀ (s : State),
   (s.dark = false → s.hostReady = true →
    (∀ (q : Fin 8) (w : W32), Runs (.eqConsWrite q w) s ((s.setEq q { s.eq q with cons := w }).deliver 4096 q)) ∧
    (∀ (q : Fin 8) (w : W32), (s.eq q).ctrl.getLsbD 31 = false → w.getLsbD 31 = true → 6 ≤ (s.eq q).size.toNat % 32 → (s.eq q).size.toNat % 32 ≤ 16 →
      Runs (.eqEnable q w) s ((s.setEq q { s.eq q with ctrl := (w &&& 0x0000FFFF) ||| (w &&& 0x40000000) ||| 0x80000000 }).deliver 4096 q)) ∧
    (∀ (q : Fin 8), (s.eq q).ctrl.getLsbD 31 = true → (s.eq q).ctrl.toNat % 256 ≠ 0 → (s.eq q).unsignalled ≠ 0 →
      Runs (.eqCoalesceTimer q) s ((s.setEq q { s.eq q with unsignalled := 0 }).signal (1 + q.val))) ∧
    (∀ (n : Fin 64), let bit : W64 := BitVec.ofNat 64 (2 ^ n.val)
      let t : State := { s with host := { s.host with masked := s.host.masked &&& ~~~ bit, pendingV := s.host.pendingV &&& ~~~ bit } }
      (s.host.pendingV.getLsbD n = true → Runs (.msixUnmask n) s (t.emit (.msix n))) ∧ (s.host.pendingV.getLsbD n = false → Runs (.msixUnmask n) s t)) ∧
    (∀ n, s.host.masked.toNat / 2 ^ n % 2 = 0 → s.signal n = s.emit (.msix n)) ∧
    (∀ (i : Fin 8) (w : W32), (s.proxy i).busy = false → w.toNat % 512 ≠ s.pnid →
      let x : ProxySlot := { s.proxy i with ctrl := w &&& 0x0FFF01FF }
      let t := s.setProxy i { x with busy := true }
      Runs (.proxyGo i w) s ((t.setObj Obj.proxyRequests ((t.obj Obj.proxyRequests + 1) % 2 ^ 64)).issueRequest (.proxy i)
        ((t.setObj Obj.proxyRequests ((t.obj Obj.proxyRequests + 1) % 2 ^ 64)).proxyMsg x))) ∧
    (∀ (i : Fin 8) (w : W32), (s.proxy i).busy = false → w.toNat % 512 = s.pnid → Runs (.proxyGo i w) s
      ((s.setProxy i { s.proxy i with ctrl := w &&& 0x0FFF01FF, done := true, status := BitVec.ofNat 16 stRefused }).signal 26))) ∧
    (s.dark = true → (∀ (q : Fin 8) (w : W32), Runs (.eqConsWrite q w) s s ∧ Runs (.eqEnable q w) s s) ∧ (∀ n, Runs (.msixUnmask n) s s) ∧
      ∀ (i : Fin 8) (w : W32), Runs (.proxyGo i w) s s) ∧
    (s.dark = false → Runs .pcieFlr s (s.resetDoor 1) ∧ Runs .pcieHotReset s (s.resetDoor 2) ∧ Runs .pcieLinkLost s (s.resetDoor 3)) ∧
    (s.dark = true → Runs .pcieFlr s s ∧ Runs .pcieHotReset s s ∧ Runs .pcieLinkLost s s) ∧
    (s.dark = false → s.host.perst = false → Runs (.perstN true) s (({ s with host := { s.host with perst := true } } : State).resetDoor 2)) ∧
    Runs (.perstN false) s { s with host := { s.host with perst := false } } ∧
    (∀ width gen, s.dark = false → s.host.perst = false → Runs (.pcieLinkTrained width gen) s (s.linkTrained width gen)) ∧
    (∀ width gen, s.host.perst = true → Runs (.pcieLinkTrained width gen) s s)

/-! ### Boot, firmware and identity (15) -/

/-- R532-R545: reset release runs the ROM; the NOR copy is verified; the push window ends; an image starts or its watchdog restarts the module; firmware
runs and is restarted; MODULE_RESET is refused while a claim stands. -/
def Obligations.BootResults : Prop :=
  ∀ (s : State) (client : Byte),
    (∀ samples fref, s.boot.mp = .off → s.entry.released = true → s.entry.switch = true → s.entry.soft = false → s.power.off = false →
      Runs (.resetRelease samples fref) s (s.bootRom samples fref)) ∧
    (∀ samples fref, s.boot.mp = .running → Runs (.resetRelease samples fref) s s) ∧
    (∀ b, s.boot.mp = .rom b → s.boot.norOk = none → Runs .norVerifyDone s s.norVerified) ∧
    (s.boot.mp = .running → Runs .norVerifyDone s s ∧ Runs .pushWindowEnd s s) ∧
    (∀ b, s.boot.mp = .rom b → s.boot.pushed = false → s.boot.norOk = some true → Runs .pushWindowEnd s (s.startImage 3 s.norBytes)) ∧
    (∀ b, s.boot.mp = .rom b → s.boot.pushed = true → Runs .pushWindowEnd s { s with boot := { s.boot with mp := .rom false } }) ∧
    (s.boot.mp = .starting ∨ s.boot.mp = .restarting → Runs .bootWatchdog s (s.restart 4 true) ∧
      ∀ id, Runs (.firmwareReportsRunning id) s (s.firmwareUp id)) ∧
    (s.boot.mp = .running → Runs .bootWatchdog s s) ∧
    (s.fwRuns = true → Runs .fwWatchdog s (s.restartInto s.boot.source s.boot.image)) ∧
    (s.clientGate client = none → s.served Obj.moduleReset = true →
      (s.cannotStop = true → Runs (.moduleReset client) s (s.withStatus stHeld)) ∧
      (s.cannotStop = false → Runs (.moduleReset client) s ((s.sendFlags 2).restart 3 true).ok)) ∧
    (∀ cause on, let t := s.restart cause on
      t.vats = [] ∧ t.ctxs = [] ∧ t.ports = [] ∧ t.sram = [] ∧ t.dram = [] ∧ t.objs = [] ∧ t.boot.records = s.boot.records ∧ t.boot.mp = .off ∧
      t.power.off = !on)

/-- R541-R543, R546: staging an image: its client owns the buffer from the first byte; it is verified, activated, programmed, cleared or given up; the rollback floor only rises. -/
def Obligations.StagingResults : Prop :=
  ∀ (s : State) (client : Byte), s.clientGate client = none → s.served Obj.fwCtrl = true → s.served Obj.fwImage = true →
    s.served Obj.rollbackFloor = true → s.boot.owner = 0xFF ∨ s.boot.owner = client →
    let b := s.boot
    (∀ off data, off + data.length ≤ 4194304 → b.fw = .loading → b.mp = .running → Runs (.fwImage client off data) s
      ({ s with boot := { b with owner := client, staged := Tab.write (fun _ => 0) b.staged off data, stagedLen := max b.stagedLen (off + data.length) } } : State).ok) ∧
    (∀ off data, off + data.length ≤ 4194304 → b.fw = .empty → b.mp = .running → Runs (.fwImage client off data) s
      ({ s with boot := { b with fw := .loading, owner := client, staged := Tab.write (fun _ => 0) [] off data, stagedLen := off + data.length } } : State).ok) ∧
    (∀ off data, 4194304 < off + data.length → Runs (.fwImage client off data) s (s.withStatus stRefused)) ∧
    (b.fw = .loading → Runs (.fwVerify client) s ({ s with boot := { b with fw := .verifying } } : State).ok ∧
      Runs .fwIdleTimeout s s.releaseStage.reopenWindow) ∧
    (b.fw = .verifying → Runs .fwVerifyDone s s.fwVerified ∧ Runs (.fwVerify client) s (s.withStatus stWrongState)) ∧
    (b.fw = .verified → s.fwRuns = true → Runs (.fwActivate client) s (s.releaseStage.restartInto 4 s.stagedImage).ok) ∧
    (b.fw = .verified → Runs (.fwProgram client) s
      ({ s with boot := { b with fw := .programming }, power := { s.power with busyMp := true } } : State).settlePower.ok) ∧
    (∀ r, b.fw = .programming → Runs (.fwProgramDone r) s (s.fwProgrammed r)) ∧
    (b.fw ≠ .verifying → b.fw ≠ .programming → Runs (.fwClear client) s ((s.logStage 5 0 client).releaseStage).reopenWindow.ok) ∧
    (∀ w, b.mp = .rom w → Runs (.fwBootNor client) s s.endWindow.ok) ∧
    (b.mp = .running → Runs (.fwBootNor client) s (s.withStatus stWrongState)) ∧
    (∀ v : W32, v.toNat < s.obj Obj.rollbackFloor ∨ s.runningSvn < v.toNat → Runs (.rollbackFloor client v) s (s.withStatus stRefused)) ∧
    (∀ v : W32, s.obj Obj.rollbackFloor < v.toNat → v.toNat ≤ s.runningSvn →
      let t := s.commitScalar Obj.rollbackFloor client v.toNat
      t.succeeded = true → Runs (.rollbackFloor client v) s
        (t.log srcMp 0x00C2 (leBytes 4 (s.obj Obj.rollbackFloor) ++ leBytes 4 v.toNat ++ leBytes 1 client.toNat)))

/-- R550-R562, 14 R516: services of firmware, attestation and debug sessions. -/
def Obligations.ServiceAndDebugResults : Prop :=
  ∀ (s : State) (m : Fin 8) (client : Byte),
    (∀ w, (s.mbIn m).service = some (1, w) → s.fwRuns = true → Runs (.echoService m) s ((s.post m w).acknowledge m stSuccess)) ∧
    (∀ w, (s.mbIn m).service = some (2, w) → s.fwRuns = true → s.boot.fw ≠ .programming →
      Runs (.restartMp m) s (s.acknowledge m stSuccess).restartMp) ∧
    (∀ w, (s.mbIn m).service = some (2, w) → s.fwRuns = true → s.boot.fw = .programming → Runs (.restartMp m) s (s.acknowledge m 0x8001)) ∧
    (∀ w n, (s.mbIn m).service = some (3, w) → s.fwRuns = true → s.power.fail = .none →
      Runs (.configCompact m n) s ((s.compact n).acknowledge m (if (s.compact n).boot.failed then 0x8002 else stSuccess))) ∧
    (∀ n, s.clientGate client = none → s.served Obj.csCompact = true → s.power.fail = .none → Runs (.csCompact client n) s (s.compact n).ok) ∧
    (∀ data : List Byte, client ≠ 0x12 → s.clientGate client = none → s.served Obj.attestNonce = true → data.length = 32 → s.boot.attBusy = false →
      s.boot.identity = some .ready →
      let t : State := { s with boot := { s.boot with nonce := data, attBusy := true, attReady := false, evidence := s.evidence data } }
      Runs (.attestNonce client data) s (t.log srcMp 0x00C6 (data.take 4 ++ leBytes 1 client.toNat ++ leBytes 1 (popCount 16 (s.obj Obj.attestCtx)))).ok) ∧
    (s.boot.attBusy = true → Runs .attestDone s
      { s with
        boot := { s.boot with
          attBusy := false, attReady := true, evidence := s.boot.evidence ++ padTo 17088 (Config.slhDsaSign s.boot.evidence s.host.draws) }
        host := { s.host with draws := s.host.draws + 1 } }) ∧
    (∀ off data, client ≠ 0x11 → Runs (.debugToken client off data) s (s.withStatus stDenied)) ∧
    (∀ off data, client = 0x11 → s.served Obj.debugToken = true → off + data.length < 7952 → Runs (.debugToken client off data) s
      ({ s with host := { s.host with token := Tab.write (fun _ => 0) s.host.token off data } } : State).ok) ∧
    (s.host.lockout = true → Runs .tokenLockoutEnd s { s with host := { s.host with lockout := false, refusals := 0 } }) ∧
    (client ≠ 0x12 → s.clientGate client = none → s.served Obj.debugClose = true → Runs (.debugClose client) s (s.closeSession 2).ok) ∧
    (∀ x, s.host.session = some x → s.times.atime = x.expiry → Runs .debugSessionExpiry s (s.closeSession 3)) ∧
    (∀ w n, (s.mbIn m).service = some (3, w) → s.fwRuns = true → s.power.fail ≠ .none → Runs (.configCompact m n) s (s.acknowledge m stResetting)) ∧
    (s.host.session = none → Runs .debugSessionExpiry s s)

/-! ### The management door (14) -/

/-- R520-R529: a frame wakes the module, is counted and answered; transfers advance by segments and acknowledgements, and end by an ABORT; the heartbeat and bus-off recovery. A door that is closed or
not enabled takes nothing. -/
def Obligations.CanResults : Prop :=
  ∀ (s : State) (b : Bool) (f : List Byte),
    let heard := (s.wake 2).bump64 Obj.canFramesRx 1
    (s.can.isOpen = false → Runs (.canRead b f) s s ∧ Runs (.canWrite b f) s s ∧ Runs (.canDesc b f) s s ∧ Runs (.canNext b f) s s ∧
      Runs (.segment f) s s ∧ Runs (.blockAck f) s s ∧ Runs (.abort f) s s ∧ Runs .heartbeat s s ∧ Runs .canBusOffRecovery s s) ∧
    (s.can.isOpen = true → s.can.busOff = false → s.power.off = false → s.power.fail ≠ .committed → s.obj Obj.canEnable = 1 →
      (leAt f 0 1 = 1 → Runs (.canRead b f) s (heard.canRequest b (1 :: f.drop 1)).busErrors) ∧
      (leAt f 0 1 = 2 → Runs (.canWrite b f) s (heard.canRequest b (2 :: f.drop 1)).busErrors) ∧
      (leAt f 0 1 = 3 → Runs (.canDesc b f) s (heard.canRequest b (3 :: f.drop 1)).busErrors) ∧
      (leAt f 0 1 = 4 → Runs (.canNext b f) s (heard.canRequest b (4 :: f.drop 1)).busErrors) ∧
      (∀ x, heard.can.xfer = some x → leAt f 1 1 = x.tid.toNat →
        (x.write = true → Runs (.segment f) s (heard.takeSegment x f).busErrors) ∧
        (x.write = false → Runs (.blockAck f) s (heard.takeAck x f).busErrors) ∧
        Runs (.abort f) s (heard.dropXfer x (leAt f 2 2) 1).busErrors)) ∧
    (∀ x, s.can.xfer = some x → s.dark = false → Runs .canSegTimeout s (s.segTimeout x)) ∧
    (s.can.xfer = none → Runs .canSegTimeout s s) ∧
    (s.dark = false → s.can.isOpen = true → s.obj Obj.canEnable = 1 → s.obj Obj.heartbeatPeriod ≠ 0 →
      let t := s.sendCan (0x600 + s.pnid) s.heartbeat
      Runs .heartbeat s ({ t with can := { t.can with beats := t.can.beats + 1, class2 := false } } : State).busErrors) ∧
    (s.can.busOff = true → Runs (.canRead b f) s s) ∧ (s.can.busOff = false → Runs .canBusOffRecovery s s) ∧
    (s.dark = false → s.can.isOpen = true → s.can.busOff = true → Runs .canBusOffRecovery s
      ((({ s with can := { s.can with busOff := false, tec := 0, rec_ := 0 } } : State).log srcCan 0x00B2 [3, 0, 0]).log srcCan 0x00B2 [0, 0, 0]))

/-! ### The block as a whole -/

/-- A step takes the command that has waited longest and runs it on the state with the queue's rest; an empty queue idles (DESIGN CHOICE, log entry 5). -/
def Obligations.StepRunsFront : Prop :=
  ∀ (c : Instr) (s : State) (rest : List Instr), step { s with pending := c :: rest } = exec c { s with pending := rest } ∧
    step { s with pending := [] } = .next { s with pending := [] }

/-- Every step answers a next state, whatever the state: no command stops the machine, and none but the first leaves the queue or joins it. Commands
that can arrive stay commands that can arrive. -/
def Obligations.EveryStepTakesOne : Prop :=
  ∀ s : State, ∃ t, step s = .next t ∧ t.pending = s.pending.tail ∧ (QueueWellFormed s → QueueWellFormed t)

/-- What reset leaves (00 R7; 02 R79, R590; 05 R173, R187; 09 R344; 08 R306; 10 R404; 13 R475): SRAM zero, vats halted with their registers zero, ports down, banks empty, no job, no mailbox full,
every vector masked. Register values the spec gives no reset for are the model's choice (DESIGN CHOICE, log entries 1 and 2). -/
def Obligations.ResetState : Prop :=
  (∀ a n, State.reset.sramRead a n = List.replicate n 0) ∧ (∀ n, State.reset.ext16 n = 0) ∧
  (∀ v r, (State.reset.vat v).run = .halted ∧ (State.reset.vat v).s r = 0 ∧ (State.reset.vat v).a r = 0 ∧ (State.reset.vat v).tokens = 0) ∧
  (∀ c b, (State.reset.ctx c).job = .none ∧ (State.reset.ctx c).bank b = .empty ∧ (State.reset.ctx c).hold = none) ∧
  (∀ p, (State.reset.port p).link = .down ∧ (State.reset.port p).credit1.rate = maxRate p) ∧
  (∀ m, (State.reset.mbIn m).full = false) ∧ (∀ n, n < 64 → State.reset.signal n = { State.reset with host := { State.reset.host with pendingV := BitVec.ofNat 64 (2 ^ n) } }) ∧
  (∀ k, State.reset.obj k = objDefault k) ∧ State.reset.boot.mp = .off ∧ State.reset.out = [] ∧
  QueueWellFormed State.reset ∧ Memory.wf State.reset.sram ∧ Memory.wf State.reset.dram ∧ Tab.Wf (fun _ => (0 : BitVec 16)) State.reset.ext

/-- The writes into pail and vat SRAM keep memory in its canonical form, and leave DRAM alone: plain writes into pail SRAM (02 R71; 03 R121), churn
adds (03 R119), fills and copies (06 R244, R245), and the host's writes (13 R474). So they keep the table of the churn cells' extensions. -/
def Obligations.MemoryFormKept : Prop :=
  ∀ (s : State), Memory.wf s.sram → Memory.wf s.dram → Tab.Wf (fun _ => (0 : BitVec 16)) s.ext →
    let kept := fun (t : State) => Memory.wf t.sram ∧ t.dram = s.dram ∧ Tab.Wf (fun _ => (0 : BitVec 16)) t.ext
    (∀ a b, kept (s.pailWrite a b)) ∧ (∀ space a b, kept (s.spaceWrite space a b)) ∧ (∀ a x, kept (s.barWrite a x)) ∧
    (∀ cell v, kept (s.cellAdd cell v)) ∧ (∀ v o, kept (runXfill s v o).1) ∧ (∀ v o, kept (runXcopy s v o).1) ∧
    (∀ pa b, Memory.wf (s.dramWrite pa b).dram ∧ (s.dramWrite pa b).sram = s.sram)

/-- A plain write into pail SRAM (03 R121): the bytes read as written, every other byte as before; the extension of every churn cell it touches is the
sign of the cell (where the table of extensions has its form, which MemoryFormKept keeps), and no other extension changes. -/
def Obligations.PailWriteEffect : Prop :=
  ∀ (s : State) (a : Nat) (b : List Byte),
    (∀ x, (s.pailWrite a b).sramRead x 1 = if a ≤ x ∧ x < a + b.length then [b.getD (x - a) 0] else s.sramRead x 1) ∧
    (∀ cell, cell ∉ s.churnCells a b.length → (s.pailWrite a b).ext16 cell = s.ext16 cell) ∧
    (Tab.Wf (fun _ => (0 : BitVec 16)) s.ext → ∀ cell ∈ s.churnCells a b.length, (s.pailWrite a b).ext16 cell =
      if ((s.pailWrite a b).sramRead (16 * cell + 15) 1).any (fun x => x.getLsbD 7) then 0xFFFF else 0) ∧ (s.pailWrite a b).dram = s.dram

/-- The frame of the register instructions (05 R181, R183): whenever one of them gives a next state, memory and everything but the vat is as
before, and within the vat every S register but the destination, every A, P and V register, the status fields and the queues are. S0 keeps
reading zero. -/
def Obligations.RegisterFrame : Prop :=
  ∀ (s t : State) (v : Vat) (w : Word56) (c : Instr), (s.vat v).pc.toNat < vatSize → fFn w = 0 →
    (fImm w = 0 ∧ c ∈ [Instr.add v w, .sub v w, .mul v w, .mulhu v w, .mulhs v w, .and v w, .or v w, .xor v w, .shl v w, .shr v w, .sra v w,
      .min v w, .max v w, .minu v w, .maxu v w]) ∨ (fSb w = 0 ∧ c ∈ [Instr.addi v w, .andi v w, .ori v w, .xori v w]) →
    exec c s = .next t →
      SameMemory s t ∧ SameButVats s t ∧ (∀ u, u ≠ v.val → t.vat u = s.vat u) ∧
      (∀ r, r ≠ fDst w → (t.vat v).s r = (s.vat v).s r) ∧ (t.vat v).s 0 = 0 ∧
      (t.vat v).areg = (s.vat v).areg ∧ (t.vat v).preg = (s.vat v).preg ∧ (t.vat v).vreg = (s.vat v).vreg ∧ (t.vat v).trel = (s.vat v).trel ∧
      (t.vat v).step = (s.vat v).step ∧ (t.vat v).lstat = (s.vat v).lstat ∧ (t.vat v).tokens = (s.vat v).tokens ∧
      (t.vat v).queue = (s.vat v).queue ∧ (t.vat v).syncq = (s.vat v).syncq ∧ (t.vat v).marks = (s.vat v).marks
end

