-- ==== Sys2Proof/Laws/Tab.lean ====
section
/-! SUPPORT. Laws of sparse tables: a read after a write, and the canonical form. -/
namespace Sys2Proof.Machine

set_option linter.unusedSectionVars false

variable {α : Type} [DecidableEq α] {d : Nat → α}

theorem Tab.get_of_above {t : List (Nat × α)} {k : Nat} (h : Tab.above k t) : Tab.get d t k = d k := by
  induction t with
  | nil => rfl
  | cons e t ih =>
    have h1 : k < e.1 := h e List.mem_cons_self
    have h2 : Tab.above k t := fun x hx => h x (List.mem_cons_of_mem _ hx)
    simp only [Tab.get]
    rw [if_neg (by omega)]
    exact ih h2

theorem Tab.above_trans {t : List (Nat × α)} {j k : Nat} (h : Tab.above k t) (hjk : j ≤ k) : Tab.above j t :=
  fun e he => Nat.lt_of_le_of_lt hjk (h e he)

/-- A read of the key written gives the value. -/
@[simp] theorem Tab.get_set_same (t : List (Nat × α)) (k : Nat) (v : α) (h : Tab.Wf d t) : Tab.get d (Tab.set d t k v) k = v := by
  induction t with
  | nil => by_cases hv : v = d k <;> simp [Tab.set, Tab.get, hv]
  | cons e t ih =>
    obtain ⟨ha, hne, hw⟩ := h
    simp only [Tab.set]
    split
    · rename_i hlt
      split
      · rename_i hv
        subst hv
        exact Tab.get_of_above (fun x hx => by
          rcases List.mem_cons.1 hx with rfl | hx
          · exact hlt
          · exact Nat.lt_trans hlt (ha x hx))
      · simp [Tab.get]
    · split
      · rename_i h1 h2
        split
        · rename_i hv
          subst hv
          exact Tab.get_of_above (h2 ▸ ha)
        · simp [Tab.get]
      · rename_i h1 h2
        simp only [Tab.get]
        rw [if_neg (by omega)]
        exact ih hw

/-- A write leaves every other key alone. -/
theorem Tab.get_set_other (t : List (Nat × α)) (k j : Nat) (v : α) (hjk : j ≠ k) :
    Tab.get d (Tab.set d t k v) j = Tab.get d t j := by
  induction t with
  | nil =>
    by_cases hv : v = d k
    · simp [Tab.set, Tab.get, hv]
    · simp [Tab.set, Tab.get, hv, Ne.symm hjk]
  | cons e t ih =>
    simp only [Tab.set]
    split
    · split
      · rfl
      · simp [Tab.get, Ne.symm hjk]
    · split
      · rename_i h1 h2
        have hje : ¬ e.1 = j := by omega
        split
        · simp [Tab.get, hje]
        · simp [Tab.get, hje, Ne.symm hjk]
      · by_cases hj : e.1 = j
        · simp [Tab.get, hj]
        · simp [Tab.get, hj, ih]

theorem Tab.above_set {t : List (Nat × α)} {j k : Nat} {v : α} (h : Tab.above j t) (hk : j < k) : Tab.above j (Tab.set d t k v) := by
  induction t with
  | nil =>
    simp only [Tab.set]
    split
    · exact h
    · intro x hx
      rcases List.mem_cons.1 hx with rfl | hx
      · exact hk
      · exact absurd hx List.not_mem_nil
  | cons e t ih =>
    have h1 : j < e.1 := h e List.mem_cons_self
    have h2 : Tab.above j t := fun x hx => h x (List.mem_cons_of_mem _ hx)
    simp only [Tab.set]
    split
    · split
      · exact h
      · intro x hx
        rcases List.mem_cons.1 hx with rfl | hx
        · exact hk
        · exact h x hx
    · split
      · split
        · exact h2
        · intro x hx
          rcases List.mem_cons.1 hx with rfl | hx
          · exact hk
          · exact h2 x hx
      · intro x hx
        rcases List.mem_cons.1 hx with rfl | hx
        · exact h1
        · exact ih h2 x hx

/-- A write keeps the canonical form. -/
theorem Tab.set_wf {t : List (Nat × α)} (k : Nat) (v : α) (h : Tab.Wf d t) : Tab.Wf d (Tab.set d t k v) := by
  induction t with
  | nil =>
    simp only [Tab.set]
    split
    · trivial
    · rename_i hv
      exact ⟨fun x hx => absurd hx List.not_mem_nil, hv, trivial⟩
  | cons e t ih =>
    obtain ⟨ha, hne, hw⟩ := h
    simp only [Tab.set]
    split
    · rename_i hlt
      split
      · exact ⟨ha, hne, hw⟩
      · rename_i hv
        refine ⟨fun x hx => ?_, hv, ha, hne, hw⟩
        rcases List.mem_cons.1 hx with rfl | hx
        · exact hlt
        · exact Nat.lt_trans hlt (ha x hx)
    · split
      · rename_i h1 h2
        split
        · exact hw
        · rename_i hv
          exact ⟨fun x hx => h2 ▸ ha x hx, hv, hw⟩
      · rename_i h1 h2
        exact ⟨Tab.above_set ha (by omega), hne, ih hw⟩

theorem Tab.filter_wf {t : List (Nat × α)} (p : Nat × α → Bool) (h : Tab.Wf d t) : Tab.Wf d (t.filter p) := by
  induction t with
  | nil => trivial
  | cons e t ih =>
    obtain ⟨ha, hne, hw⟩ := h
    simp only [List.filter_cons]
    split
    · exact ⟨fun x hx => ha x (List.mem_filter.1 hx).1, hne, ih hw⟩
    · exact ih hw

theorem Tab.append_wf {t u : List (Nat × α)} (ht : Tab.Wf d t) (hu : Tab.Wf d u) (h : ∀ a ∈ t, ∀ b ∈ u, a.1 < b.1) :
    Tab.Wf d (t ++ u) := by
  induction t with
  | nil => exact hu
  | cons e t ih =>
    obtain ⟨ha, hne, hw⟩ := ht
    refine ⟨fun x hx => ?_, hne, ih hw (fun a ha' => h a (List.mem_cons_of_mem _ ha'))⟩
    rcases List.mem_append.1 hx with hx | hx
    · exact ha x hx
    · exact h e List.mem_cons_self x hx

theorem Tab.run_keys (l : List α) (k : Nat) : ∀ e ∈ Tab.run d k l, k ≤ e.1 ∧ e.1 < k + l.length := by
  induction l generalizing k with
  | nil => intro e he; exact absurd he List.not_mem_nil
  | cons v vs ih =>
    intro e he
    simp only [Tab.run] at he
    simp only [List.length_cons]
    split at he
    · have := ih (k + 1) e he
      omega
    · rcases List.mem_cons.1 he with rfl | he
      · simp
      · have := ih (k + 1) e he
        omega

theorem Tab.run_wf (l : List α) (k : Nat) : Tab.Wf d (Tab.run d k l) := by
  induction l generalizing k with
  | nil => trivial
  | cons v vs ih =>
    simp only [Tab.run]
    split
    · exact ih (k + 1)
    · rename_i hv
      exact ⟨fun e he => by have := Tab.run_keys (d := d) vs (k + 1) e he; omega, hv, ih (k + 1)⟩

/-- A write of consecutive keys keeps the canonical form. -/
theorem Tab.write_wf {t : List (Nat × α)} (k : Nat) (l : List α) (h : Tab.Wf d t) : Tab.Wf d (Tab.write d t k l) := by
  unfold Tab.write
  refine Tab.append_wf (Tab.append_wf (Tab.filter_wf _ h) (Tab.run_wf l k) ?_) (Tab.filter_wf _ h) ?_
  · intro a ha b hb
    have h1 := (List.mem_filter.1 ha).2
    have h2 := Tab.run_keys l k b hb
    simp at h1
    omega
  · intro a ha b hb
    have h2 := (List.mem_filter.1 hb).2
    simp at h2
    rcases List.mem_append.1 ha with ha | ha
    · have h1 := (List.mem_filter.1 ha).2
      simp at h1
      omega
    · have h1 := Tab.run_keys l k a ha
      omega

theorem Tab.erase_wf {t : List (Nat × α)} (p : Nat → Bool) (h : Tab.Wf d t) : Tab.Wf d (Tab.erase p t) := Tab.filter_wf _ h

theorem Tab.get_append (t u : List (Nat × α)) (j : Nat) :
    Tab.get d (t ++ u) j = if (t.any (fun e => e.1 == j)) then Tab.get d t j else Tab.get d u j := by
  induction t with
  | nil => rfl
  | cons e t ih =>
    simp only [List.cons_append, Tab.get, List.any_cons]
    by_cases h : e.1 = j
    · simp [h]
    · have h2 : (e.1 == j) = false := by simpa using h
      rw [if_neg h, ih]
      simp only [h2, Bool.false_or, if_neg h]

theorem Tab.get_filter (t : List (Nat × α)) (p : Nat → Bool) (j : Nat) :
    Tab.get d (t.filter (fun e => p e.1)) j = if p j then Tab.get d t j else d j := by
  induction t with
  | nil => cases p j <;> rfl
  | cons e t ih =>
    simp only [List.filter_cons]
    by_cases h : e.1 = j
    · subst h
      cases hp : p e.1
      · simp only [Bool.false_eq_true, if_false, ih, hp]
      · simp [Tab.get]
    · split
      · simp only [Tab.get, if_neg h, ih]
      · simp only [ih, Tab.get, if_neg h]

theorem Tab.get_run (l : List α) (k j : Nat) :
    Tab.get d (Tab.run d k l) j = if k ≤ j then l.getD (j - k) (d j) else d j := by
  induction l generalizing k with
  | nil => simp [Tab.run, Tab.get]
  | cons v vs ih =>
    simp only [Tab.run]
    by_cases hj : j = k
    · subst hj
      split
      · rename_i hv
        rw [ih]
        simp [hv]
      · simp [Tab.get]
    · have h1 : k + 1 ≤ j ↔ k ≤ j := by omega
      have h2 : k ≤ j → j - k = (j - (k + 1)) + 1 := by omega
      split
      · rw [ih]
        by_cases hk : k ≤ j
        · simp [h1, hk, h2 hk]
        · simp [h1, hk]
      · simp only [Tab.get, if_neg (Ne.symm hj)]
        rw [ih]
        by_cases hk : k ≤ j
        · simp [h1, hk, h2 hk]
        · simp [h1, hk]

theorem Tab.get_none (t : List (Nat × α)) (j : Nat) (h : t.any (fun e => e.1 == j) = false) : Tab.get d t j = d j := by
  induction t with
  | nil => rfl
  | cons e t ih =>
    simp only [List.any_cons, Bool.or_eq_false_iff] at h
    simp only [Tab.get]
    rw [if_neg (by simpa using h.1)]
    exact ih h.2

/-- A read after a write of consecutive keys. -/
theorem Tab.get_write (t : List (Nat × α)) (k : Nat) (l : List α) (j : Nat) :
    Tab.get d (Tab.write d t k l) j = if k ≤ j ∧ j < k + l.length then l.getD (j - k) (d j) else Tab.get d t j := by
  unfold Tab.write
  rw [List.append_assoc]
  have hlow : ∀ j, Tab.get d (t.filter (fun e => decide (e.1 < k))) j = if j < k then Tab.get d t j else d j := by
    intro j; simpa using Tab.get_filter t (fun x => decide (x < k)) j
  have hhigh : ∀ j, Tab.get d (t.filter (fun e => decide (k + l.length ≤ e.1))) j =
      if k + l.length ≤ j then Tab.get d t j else d j := by
    intro j; simpa using Tab.get_filter t (fun x => decide (k + l.length ≤ x)) j
  by_cases h1 : j < k
  · have hr : (Tab.run d k l ++ t.filter (fun e => decide (k + l.length ≤ e.1))).any (fun e => e.1 == j) = false := by
      rw [List.any_eq_false]
      intro e he
      rcases List.mem_append.1 he with he | he
      · have := Tab.run_keys l k e he
        simp; omega
      · have := (List.mem_filter.1 he).2
        simp at this ⊢; omega
    have hh : ¬ (k ≤ j ∧ j < k + l.length) := by omega
    rw [Tab.get_append, hlow, Tab.get_none _ _ hr, if_neg hh, if_pos h1]
    by_cases ha : (t.filter (fun e => decide (e.1 < k))).any (fun e => e.1 == j) = true
    · rw [if_pos ha]
    · have h3 := Tab.get_none (d := d) _ j (Bool.eq_false_iff.2 ha)
      rw [hlow, if_pos h1] at h3
      rw [if_neg ha, h3]
  · have hl : (t.filter (fun e => decide (e.1 < k))).any (fun e => e.1 == j) = false := by
      rw [List.any_eq_false]
      intro e he
      have := (List.mem_filter.1 he).2
      simp at this ⊢; omega
    rw [Tab.get_append, hl]
    simp only [Bool.false_eq_true, if_false]
    rw [Tab.get_append]
    by_cases h2 : j < k + l.length
    · rw [if_pos (by omega : k ≤ j ∧ j < k + l.length)]
      by_cases ha : (Tab.run d k l).any (fun e => e.1 == j) = true
      · rw [if_pos ha, Tab.get_run, if_pos (by omega)]
      · have h3 := Tab.get_none (d := d) _ j (Bool.eq_false_iff.2 ha)
        rw [Tab.get_run, if_pos (by omega)] at h3
        rw [if_neg ha, h3, hhigh, if_neg (by omega)]
    · rw [if_neg (by omega : ¬ (k ≤ j ∧ j < k + l.length))]
      have hn : (Tab.run d k l).any (fun e => e.1 == j) = false := by
        rw [List.any_eq_false]
        intro e he
        have := Tab.run_keys l k e he
        simp; omega
      rw [hn]
      simp only [Bool.false_eq_true, if_false]
      rw [hhigh, if_pos (by omega)]

end Sys2Proof.Machine
end

