-- ==== Sys2Proof/Laws/Domains.lean ====
section
/-! SUPPORT. What the DOMAIN objects read as where nothing has written them: zeros, no pail page, no stream descriptor. -/
namespace Sys2Proof.Machine
open Sys2Proof

/-- No listed byte lies in a range of a DOMAIN. -/
def State.unwritten (s : State) (k off n : Nat) : Bool :=
  s.doms.all (fun e => decide (e.1 < domKey k off) || decide (domKey k off + n ≤ e.1))

theorem State.unwritten_iff {s : State} {k off n : Nat} :
    s.unwritten k off n = true ↔ ∀ e ∈ s.doms, e.1 < domKey k off ∨ domKey k off + n ≤ e.1 := by
  simp [State.unwritten]

/-- A range of a DOMAIN whose default is zero, of which no byte is listed, reads as zeros. -/
theorem State.dom_unwritten {s : State} {k off n : Nat} (h : s.unwritten k off n = true) (hn : off + n ≤ 2 ^ 32) (h1 : k ≠ 0x420001)
    (h2 : k ≠ 0x800005) : s.dom k off n = List.replicate n 0 := by
  refine List.ext_getElem (by simp [State.dom, Tab.read]) ?_
  intro i hi _
  simp only [State.dom, Tab.read, List.length_map, List.length_range] at hi
  simp only [State.dom, Tab.read, List.getElem_map, List.getElem_range, List.getElem_replicate]
  rw [Tab.get_none]
  · have : (domKey k off + i) / 2 ^ 32 = k := by simp only [domKey]; omega
    rw [domDefault, this, if_neg (by omega)]
  · simp only [List.any_eq_false, beq_iff_eq]
    intro e he
    have := State.unwritten_iff.mp h e he
    omega

/-- The same for a part of an unwritten range. -/
theorem State.unwritten_part {s : State} {k off n a m : Nat} (h : s.unwritten k off n = true) (h1 : off ≤ a) (h2 : a + m ≤ off + n) :
    s.unwritten k a m = true := by
  rw [State.unwritten_iff] at h ⊢
  intro e he
  have := h e he
  simp only [domKey] at this ⊢
  omega

/-- An unwritten range reads as the number zero. -/
theorem State.domLe_unwritten {s : State} {k off n : Nat} (h : s.unwritten k off n = true) (hn : off + n ≤ 2 ^ 32) (h1 : k ≠ 0x420001)
    (h2 : k ≠ 0x800005) : s.domLe k off n = 0 := by
  have z : ∀ m, leNat (List.replicate m (0 : Byte)) = 0 := by
    intro m; induction m with
    | zero => rfl
    | succ m ih => rw [List.replicate_succ, leNat, ih]; rfl
  rw [State.domLe, State.dom_unwritten h hn h1 h2, z]

/-- A context whose PAIL_PAGES nothing has written has no pages. -/
theorem State.pageKind_unwritten {s : State} {c : Nat} (h : s.unwritten (Obj.pailPages c) 0 8192 = true) (page : Nat) : s.pageKind c page = 0 := by
  simp only [State.pageKind]
  split
  · rw [State.domLe_unwritten (State.unwritten_part h (by omega) (by omega)) (by omega) (by simp only [Obj.pailPages]; omega)
      (by simp only [Obj.pailPages]; omega)]
    simp [fld]
  · rfl

/-- A stream table that nothing has written holds no descriptor. -/
theorem State.streamRecords_unwritten {s : State} {c b die : Nat} (hb : b < 2) (h : s.unwritten (streamBank die b) 0 (2048 * 64) = true) :
    s.streamRecords c b die = [] := by
  have e : (if die = 0 then Obj.streamBankD0 b else Obj.streamBankD1 b) = streamBank die b := rfl
  have key : ∀ i < 2048, s.dom (streamBank die b) (64 * i) 64 = List.replicate 64 0 := by
    intro i hi
    exact State.dom_unwritten (State.unwritten_part h (by omega) (by omega)) (by omega)
      (by simp only [streamBank, Obj.streamBankD0, Obj.streamBankD1]; split <;> omega)
      (by simp only [streamBank, Obj.streamBankD0, Obj.streamBankD1]; split <;> omega)
  simp only [State.streamRecords, e]
  split
  · simp only [List.filter_eq_nil_iff, List.mem_map, List.mem_range]
    rintro r ⟨i, hi, rfl⟩
    simp only [key i hi]
    decide
  · rfl

end Sys2Proof.Machine
end

