-- ==== Sys2Proof/Laws/Issue.lean ====
section
/-! SUPPORT. What the shared operations of the vats' instructions do: issue (05 R174-R180), branches (R185) and queueing (06 R204). -/
namespace Sys2Proof.Machine
open Sys2Proof

/-- A command whose meaning answers `t`. -/
theorem runs_of_answer {c : Instr} {s t u : State} (h : exec c s = answer s t) (e : t = u) : Runs c s u := by
  subst e; exact h

/-- An instruction at a ready vat that no decode check refuses has its effect. -/
theorem issue_ready {s : State} {v op : Nat} {w : Word56} {check : Option Nat} {u : Uses} {eff : State → State}
    (h : Ready s v w u) (hc : check = none) : issue s v op w check u eff = eff s := by
  obtain ⟨h1, h2, h3, h4⟩ := h
  subst hc
  have : ¬ (vatSize ≤ (s.vat v).pc.toNat) := by omega
  simp [issue, h1, h3, h4, this]

/-- The same for an instruction that only changes the vat's registers: the vat moves on. -/
theorem issueRegs_ready {s : State} {v op : Nat} {w : Word56} {check : Option Nat} {u : Uses} {f : VatState → VatState}
    (h : Ready s v w u) (hc : check = none) : issueRegs s v op w check u f = s.setVat v (f (s.vat v)).retire := by
  rw [issueRegs, issue_ready h hc]

/-- A decode check that refuses makes a precise fault, whatever the predicate says. -/
theorem issue_illegal {s : State} {v op r : Nat} {w : Word56} {check : Option Nat} {u : Uses} {eff : State → State}
    (h1 : (s.vat v).canIssue = true) (h2 : (s.vat v).pc.toNat < vatSize) (hc : check = some r) :
    issue s v op w check u eff = s.vatFault v (illegalInfo v (s.vat v).pc.toNat op w r) := by
  subst hc
  have : ¬ (vatSize ≤ (s.vat v).pc.toNat) := by omega
  simp [issue, h1, this]

/-- A false predicate retires a legal instruction without effect. -/
theorem issue_not_predicated {s : State} {v op : Nat} {w : Word56} {check : Option Nat} {u : Uses} {eff : State → State}
    (h1 : (s.vat v).canIssue = true) (h2 : (s.vat v).pc.toNat < vatSize) (hc : check = none) (hp : (s.vat v).pred w = false) :
    issue s v op w check u eff = s.setVat v (s.vat v).retire := by
  subst hc
  have : ¬ (vatSize ≤ (s.vat v).pc.toNat) := by omega
  simp [issue, h1, this, hp]

/-- A branch to an aligned address of vat SRAM is taken. -/
theorem branchTo_good {s : State} {v : Nat} {t : W48} {f : VatState → VatState} (h1 : t.toNat < vatSize) (h2 : t.toNat % 8 = 0) :
    branchTo s v t f = s.setVat v ((f (s.vat v)).branch t) := by
  have : ¬ 0x1FFFFF < t.toNat := by simp [vatSize] at h1; omega
  simp [branchTo, this, h2, State.onVat]

/-- An instruction bound for a queue with room, whose register checks pass, joins it. -/
theorem issueEngine_ready {s : State} {v op : Nat} {w : Word56} {check : Option Nat} {u : Uses} {e : Engine} {mk : VatState → EngineOp}
    {regs : EngineOp → Option EngFault} (h : Ready s v w u) (hc : check = none) (hr : roomFor s v e (queueDepth e))
    (hb : regs (mk (s.vat v)) = none) : issueEngine s v op w check u e mk regs = queuedAt s v e (mk (s.vat v)) := by
  have : ¬ queueDepth e ≤ ((s.vat v).queue.filter (fun q => q.eng == e)).length := by simp only [roomFor] at hr; omega
  unfold issueEngine
  rw [issue_ready h hc]
  simp only [this, hb, ↓reduceIte]
  rfl

/-- Two registers lane by lane. -/
theorem zipWith_lanes (x : VatState) (a b : Nat) (f : W32 → W32 → W32) :
    List.zipWith f (x.lanes a) (x.lanes b) = (List.range 64).map (fun i => f (x.lane a i) (x.lane b i)) := by
  simp [VatState.lanes, List.zipWith_map]

/-- A write through a door that is admitted and served reaches its object. -/
theorem asClient_admitted {s : State} {c : Byte} {k : Nat} {f : State → State} (h : s.clientGate c = none) (h2 : s.served k = true) :
    s.asClient c k f = f s := by
  simp [State.asClient, h, h2]

end Sys2Proof.Machine
end

