-- ==== Sys2Proof/Laws/Memory.lean ====
section
/-! SUPPORT. Memory: what a read gives after a write, and that every memory operation keeps the canonical form. -/
namespace Sys2Proof.Machine
open Sys2Proof

/-- The canonical form of memory is that of its table. -/
theorem Memory.wf_iff (m : List Host.Cell) : Memory.wf m ↔ Tab.Wf memDefault m := by
  induction m with
  | nil => simp [Memory.wf, Tab.Wf]
  | cons e t ih =>
    simp only [Memory.wf, Tab.Wf, List.pairwise_cons, List.mem_cons, forall_eq_or_imp] at ih ⊢
    constructor
    · rintro ⟨⟨h1, h2⟩, h3, h4⟩
      exact ⟨h1, h3, ih.1 ⟨h2, h4⟩⟩
    · rintro ⟨h1, h2, h3⟩
      have h := ih.2 h3
      exact ⟨⟨h1, h.1⟩, h2, h.2⟩

/-- A write into SRAM keeps its canonical form. -/
theorem State.sramWrite_wf {s : State} (a : Nat) (b : List Byte) (h : Memory.wf s.sram) : Memory.wf (s.sramWrite a b).sram :=
  (Memory.wf_iff _).2 (Tab.write_wf a b ((Memory.wf_iff _).1 h))

/-- A write into DRAM keeps its canonical form. -/
theorem State.dramWrite_wf {s : State} (a : Nat) (b : List Byte) (h : Memory.wf s.dram) : Memory.wf (s.dramWrite a b).dram :=
  (Memory.wf_iff _).2 (Tab.write_wf a b ((Memory.wf_iff _).1 h))

/-- The bytes that DRAM keeps through DEEP are in canonical form. -/
theorem Memory.erase_wf {m : List Host.Cell} (p : Nat → Bool) (h : Memory.wf m) : Memory.wf (Tab.erase p m) :=
  (Memory.wf_iff _).2 (Tab.erase_wf p ((Memory.wf_iff _).1 h))

/-- Memory with nothing listed is in canonical form. -/
theorem Memory.nil_wf : Memory.wf [] := by simp [Memory.wf]

/-- One byte of SRAM after a write. -/
theorem State.sramRead_sramWrite (s : State) (a x : Nat) (b : List Byte) :
    (s.sramWrite a b).sramRead x 1 = if a ≤ x ∧ x < a + b.length then [b.getD (x - a) 0] else s.sramRead x 1 := by
  simp only [State.sramRead, State.sramWrite, Tab.read, List.range_one, List.map_cons, List.map_nil, Nat.add_zero, Tab.get_write]
  split <;> rfl

/-- One byte of DRAM after a write. -/
theorem State.dramRead_dramWrite (s : State) (a x : Nat) (b : List Byte) :
    (s.dramWrite a b).dramRead x 1 = if a ≤ x ∧ x < a + b.length then [b.getD (x - a) 0] else s.dramRead x 1 := by
  simp only [State.dramRead, State.dramWrite, Tab.read, List.range_one, List.map_cons, List.map_nil, Nat.add_zero, Tab.get_write]
  split <;> rfl

end Sys2Proof.Machine
end

