-- ==== Sys2Proof/Laws/State.lean ====
section
/-! SUPPORT. What each update of the state leaves alone, field by field, and what it gives: no later proof need unfold an update of a record. -/
namespace Sys2Proof.Machine
open Sys2Proof

/-! ### `State.setObj` -/

@[simp] theorem State.setObj_times (s : State) (k v : Nat) : (s.setObj k v).times = s.times := rfl
@[simp] theorem State.setObj_doms (s : State) (k v : Nat) : (s.setObj k v).doms = s.doms := rfl
@[simp] theorem State.setObj_sram (s : State) (k v : Nat) : (s.setObj k v).sram = s.sram := rfl
@[simp] theorem State.setObj_ext (s : State) (k v : Nat) : (s.setObj k v).ext = s.ext := rfl
@[simp] theorem State.setObj_gens (s : State) (k v : Nat) : (s.setObj k v).gens = s.gens := rfl
@[simp] theorem State.setObj_dram (s : State) (k v : Nat) : (s.setObj k v).dram = s.dram := rfl
@[simp] theorem State.setObj_vats (s : State) (k v : Nat) : (s.setObj k v).vats = s.vats := rfl
@[simp] theorem State.setObj_vatsRan (s : State) (k v : Nat) : (s.setObj k v).vatsRan = s.vatsRan := rfl
@[simp] theorem State.setObj_ctxs (s : State) (k v : Nat) : (s.setObj k v).ctxs = s.ctxs := rfl
@[simp] theorem State.setObj_ports (s : State) (k v : Nat) : (s.setObj k v).ports = s.ports := rfl
@[simp] theorem State.setObj_sync (s : State) (k v : Nat) : (s.setObj k v).sync = s.sync := rfl
@[simp] theorem State.setObj_mem (s : State) (k v : Nat) : (s.setObj k v).mem = s.mem := rfl
@[simp] theorem State.setObj_events (s : State) (k v : Nat) : (s.setObj k v).events = s.events := rfl
@[simp] theorem State.setObj_skim (s : State) (k v : Nat) : (s.setObj k v).skim = s.skim := rfl
@[simp] theorem State.setObj_power (s : State) (k v : Nat) : (s.setObj k v).power = s.power := rfl
@[simp] theorem State.setObj_host (s : State) (k v : Nat) : (s.setObj k v).host = s.host := rfl
@[simp] theorem State.setObj_can (s : State) (k v : Nat) : (s.setObj k v).can = s.can := rfl
@[simp] theorem State.setObj_boot (s : State) (k v : Nat) : (s.setObj k v).boot = s.boot := rfl
@[simp] theorem State.setObj_entry (s : State) (k v : Nat) : (s.setObj k v).entry = s.entry := rfl
@[simp] theorem State.setObj_perturb (s : State) (k v : Nat) : (s.setObj k v).perturb = s.perturb := rfl
@[simp] theorem State.setObj_lock (s : State) (k v : Nat) : (s.setObj k v).lock = s.lock := rfl
@[simp] theorem State.setObj_out (s : State) (k v : Nat) : (s.setObj k v).out = s.out := rfl
@[simp] theorem State.setObj_fresh (s : State) (k v : Nat) : (s.setObj k v).fresh = s.fresh := rfl
@[simp] theorem State.setObj_pending (s : State) (k v : Nat) : (s.setObj k v).pending = s.pending := rfl

/-! ### `State.setDom` -/

@[simp] theorem State.setDom_times (s : State) (k o : Nat) (b : List Byte) : (s.setDom k o b).times = s.times := rfl
@[simp] theorem State.setDom_objs (s : State) (k o : Nat) (b : List Byte) : (s.setDom k o b).objs = s.objs := rfl
@[simp] theorem State.setDom_sram (s : State) (k o : Nat) (b : List Byte) : (s.setDom k o b).sram = s.sram := rfl
@[simp] theorem State.setDom_ext (s : State) (k o : Nat) (b : List Byte) : (s.setDom k o b).ext = s.ext := rfl
@[simp] theorem State.setDom_gens (s : State) (k o : Nat) (b : List Byte) : (s.setDom k o b).gens = s.gens := rfl
@[simp] theorem State.setDom_dram (s : State) (k o : Nat) (b : List Byte) : (s.setDom k o b).dram = s.dram := rfl
@[simp] theorem State.setDom_vats (s : State) (k o : Nat) (b : List Byte) : (s.setDom k o b).vats = s.vats := rfl
@[simp] theorem State.setDom_vatsRan (s : State) (k o : Nat) (b : List Byte) : (s.setDom k o b).vatsRan = s.vatsRan := rfl
@[simp] theorem State.setDom_ctxs (s : State) (k o : Nat) (b : List Byte) : (s.setDom k o b).ctxs = s.ctxs := rfl
@[simp] theorem State.setDom_ports (s : State) (k o : Nat) (b : List Byte) : (s.setDom k o b).ports = s.ports := rfl
@[simp] theorem State.setDom_sync (s : State) (k o : Nat) (b : List Byte) : (s.setDom k o b).sync = s.sync := rfl
@[simp] theorem State.setDom_mem (s : State) (k o : Nat) (b : List Byte) : (s.setDom k o b).mem = s.mem := rfl
@[simp] theorem State.setDom_events (s : State) (k o : Nat) (b : List Byte) : (s.setDom k o b).events = s.events := rfl
@[simp] theorem State.setDom_skim (s : State) (k o : Nat) (b : List Byte) : (s.setDom k o b).skim = s.skim := rfl
@[simp] theorem State.setDom_power (s : State) (k o : Nat) (b : List Byte) : (s.setDom k o b).power = s.power := rfl
@[simp] theorem State.setDom_host (s : State) (k o : Nat) (b : List Byte) : (s.setDom k o b).host = s.host := rfl
@[simp] theorem State.setDom_can (s : State) (k o : Nat) (b : List Byte) : (s.setDom k o b).can = s.can := rfl
@[simp] theorem State.setDom_boot (s : State) (k o : Nat) (b : List Byte) : (s.setDom k o b).boot = s.boot := rfl
@[simp] theorem State.setDom_entry (s : State) (k o : Nat) (b : List Byte) : (s.setDom k o b).entry = s.entry := rfl
@[simp] theorem State.setDom_perturb (s : State) (k o : Nat) (b : List Byte) : (s.setDom k o b).perturb = s.perturb := rfl
@[simp] theorem State.setDom_lock (s : State) (k o : Nat) (b : List Byte) : (s.setDom k o b).lock = s.lock := rfl
@[simp] theorem State.setDom_out (s : State) (k o : Nat) (b : List Byte) : (s.setDom k o b).out = s.out := rfl
@[simp] theorem State.setDom_fresh (s : State) (k o : Nat) (b : List Byte) : (s.setDom k o b).fresh = s.fresh := rfl
@[simp] theorem State.setDom_pending (s : State) (k o : Nat) (b : List Byte) : (s.setDom k o b).pending = s.pending := rfl

/-! ### `State.clearDom` -/

@[simp] theorem State.clearDom_times (s : State) (k : Nat) : (s.clearDom k).times = s.times := rfl
@[simp] theorem State.clearDom_objs (s : State) (k : Nat) : (s.clearDom k).objs = s.objs := rfl
@[simp] theorem State.clearDom_sram (s : State) (k : Nat) : (s.clearDom k).sram = s.sram := rfl
@[simp] theorem State.clearDom_ext (s : State) (k : Nat) : (s.clearDom k).ext = s.ext := rfl
@[simp] theorem State.clearDom_gens (s : State) (k : Nat) : (s.clearDom k).gens = s.gens := rfl
@[simp] theorem State.clearDom_dram (s : State) (k : Nat) : (s.clearDom k).dram = s.dram := rfl
@[simp] theorem State.clearDom_vats (s : State) (k : Nat) : (s.clearDom k).vats = s.vats := rfl
@[simp] theorem State.clearDom_vatsRan (s : State) (k : Nat) : (s.clearDom k).vatsRan = s.vatsRan := rfl
@[simp] theorem State.clearDom_ctxs (s : State) (k : Nat) : (s.clearDom k).ctxs = s.ctxs := rfl
@[simp] theorem State.clearDom_ports (s : State) (k : Nat) : (s.clearDom k).ports = s.ports := rfl
@[simp] theorem State.clearDom_sync (s : State) (k : Nat) : (s.clearDom k).sync = s.sync := rfl
@[simp] theorem State.clearDom_mem (s : State) (k : Nat) : (s.clearDom k).mem = s.mem := rfl
@[simp] theorem State.clearDom_events (s : State) (k : Nat) : (s.clearDom k).events = s.events := rfl
@[simp] theorem State.clearDom_skim (s : State) (k : Nat) : (s.clearDom k).skim = s.skim := rfl
@[simp] theorem State.clearDom_power (s : State) (k : Nat) : (s.clearDom k).power = s.power := rfl
@[simp] theorem State.clearDom_host (s : State) (k : Nat) : (s.clearDom k).host = s.host := rfl
@[simp] theorem State.clearDom_can (s : State) (k : Nat) : (s.clearDom k).can = s.can := rfl
@[simp] theorem State.clearDom_boot (s : State) (k : Nat) : (s.clearDom k).boot = s.boot := rfl
@[simp] theorem State.clearDom_entry (s : State) (k : Nat) : (s.clearDom k).entry = s.entry := rfl
@[simp] theorem State.clearDom_perturb (s : State) (k : Nat) : (s.clearDom k).perturb = s.perturb := rfl
@[simp] theorem State.clearDom_lock (s : State) (k : Nat) : (s.clearDom k).lock = s.lock := rfl
@[simp] theorem State.clearDom_out (s : State) (k : Nat) : (s.clearDom k).out = s.out := rfl
@[simp] theorem State.clearDom_fresh (s : State) (k : Nat) : (s.clearDom k).fresh = s.fresh := rfl
@[simp] theorem State.clearDom_pending (s : State) (k : Nat) : (s.clearDom k).pending = s.pending := rfl

/-! ### `State.setVat` -/

@[simp] theorem State.setVat_times (s : State) (v : Nat) (x : VatState) : (s.setVat v x).times = s.times := rfl
@[simp] theorem State.setVat_objs (s : State) (v : Nat) (x : VatState) : (s.setVat v x).objs = s.objs := rfl
@[simp] theorem State.setVat_doms (s : State) (v : Nat) (x : VatState) : (s.setVat v x).doms = s.doms := rfl
@[simp] theorem State.setVat_sram (s : State) (v : Nat) (x : VatState) : (s.setVat v x).sram = s.sram := rfl
@[simp] theorem State.setVat_ext (s : State) (v : Nat) (x : VatState) : (s.setVat v x).ext = s.ext := rfl
@[simp] theorem State.setVat_gens (s : State) (v : Nat) (x : VatState) : (s.setVat v x).gens = s.gens := rfl
@[simp] theorem State.setVat_dram (s : State) (v : Nat) (x : VatState) : (s.setVat v x).dram = s.dram := rfl
@[simp] theorem State.setVat_vatsRan (s : State) (v : Nat) (x : VatState) : (s.setVat v x).vatsRan = s.vatsRan := rfl
@[simp] theorem State.setVat_ctxs (s : State) (v : Nat) (x : VatState) : (s.setVat v x).ctxs = s.ctxs := rfl
@[simp] theorem State.setVat_ports (s : State) (v : Nat) (x : VatState) : (s.setVat v x).ports = s.ports := rfl
@[simp] theorem State.setVat_sync (s : State) (v : Nat) (x : VatState) : (s.setVat v x).sync = s.sync := rfl
@[simp] theorem State.setVat_mem (s : State) (v : Nat) (x : VatState) : (s.setVat v x).mem = s.mem := rfl
@[simp] theorem State.setVat_events (s : State) (v : Nat) (x : VatState) : (s.setVat v x).events = s.events := rfl
@[simp] theorem State.setVat_skim (s : State) (v : Nat) (x : VatState) : (s.setVat v x).skim = s.skim := rfl
@[simp] theorem State.setVat_power (s : State) (v : Nat) (x : VatState) : (s.setVat v x).power = s.power := rfl
@[simp] theorem State.setVat_host (s : State) (v : Nat) (x : VatState) : (s.setVat v x).host = s.host := rfl
@[simp] theorem State.setVat_can (s : State) (v : Nat) (x : VatState) : (s.setVat v x).can = s.can := rfl
@[simp] theorem State.setVat_boot (s : State) (v : Nat) (x : VatState) : (s.setVat v x).boot = s.boot := rfl
@[simp] theorem State.setVat_entry (s : State) (v : Nat) (x : VatState) : (s.setVat v x).entry = s.entry := rfl
@[simp] theorem State.setVat_perturb (s : State) (v : Nat) (x : VatState) : (s.setVat v x).perturb = s.perturb := rfl
@[simp] theorem State.setVat_lock (s : State) (v : Nat) (x : VatState) : (s.setVat v x).lock = s.lock := rfl
@[simp] theorem State.setVat_out (s : State) (v : Nat) (x : VatState) : (s.setVat v x).out = s.out := rfl
@[simp] theorem State.setVat_fresh (s : State) (v : Nat) (x : VatState) : (s.setVat v x).fresh = s.fresh := rfl
@[simp] theorem State.setVat_pending (s : State) (v : Nat) (x : VatState) : (s.setVat v x).pending = s.pending := rfl

/-! ### `State.setCtx` -/

@[simp] theorem State.setCtx_times (s : State) (c : Nat) (x : CtxState) : (s.setCtx c x).times = s.times := rfl
@[simp] theorem State.setCtx_objs (s : State) (c : Nat) (x : CtxState) : (s.setCtx c x).objs = s.objs := rfl
@[simp] theorem State.setCtx_doms (s : State) (c : Nat) (x : CtxState) : (s.setCtx c x).doms = s.doms := rfl
@[simp] theorem State.setCtx_sram (s : State) (c : Nat) (x : CtxState) : (s.setCtx c x).sram = s.sram := rfl
@[simp] theorem State.setCtx_ext (s : State) (c : Nat) (x : CtxState) : (s.setCtx c x).ext = s.ext := rfl
@[simp] theorem State.setCtx_gens (s : State) (c : Nat) (x : CtxState) : (s.setCtx c x).gens = s.gens := rfl
@[simp] theorem State.setCtx_dram (s : State) (c : Nat) (x : CtxState) : (s.setCtx c x).dram = s.dram := rfl
@[simp] theorem State.setCtx_vats (s : State) (c : Nat) (x : CtxState) : (s.setCtx c x).vats = s.vats := rfl
@[simp] theorem State.setCtx_vatsRan (s : State) (c : Nat) (x : CtxState) : (s.setCtx c x).vatsRan = s.vatsRan := rfl
@[simp] theorem State.setCtx_ports (s : State) (c : Nat) (x : CtxState) : (s.setCtx c x).ports = s.ports := rfl
@[simp] theorem State.setCtx_sync (s : State) (c : Nat) (x : CtxState) : (s.setCtx c x).sync = s.sync := rfl
@[simp] theorem State.setCtx_mem (s : State) (c : Nat) (x : CtxState) : (s.setCtx c x).mem = s.mem := rfl
@[simp] theorem State.setCtx_events (s : State) (c : Nat) (x : CtxState) : (s.setCtx c x).events = s.events := rfl
@[simp] theorem State.setCtx_skim (s : State) (c : Nat) (x : CtxState) : (s.setCtx c x).skim = s.skim := rfl
@[simp] theorem State.setCtx_power (s : State) (c : Nat) (x : CtxState) : (s.setCtx c x).power = s.power := rfl
@[simp] theorem State.setCtx_host (s : State) (c : Nat) (x : CtxState) : (s.setCtx c x).host = s.host := rfl
@[simp] theorem State.setCtx_can (s : State) (c : Nat) (x : CtxState) : (s.setCtx c x).can = s.can := rfl
@[simp] theorem State.setCtx_boot (s : State) (c : Nat) (x : CtxState) : (s.setCtx c x).boot = s.boot := rfl
@[simp] theorem State.setCtx_entry (s : State) (c : Nat) (x : CtxState) : (s.setCtx c x).entry = s.entry := rfl
@[simp] theorem State.setCtx_perturb (s : State) (c : Nat) (x : CtxState) : (s.setCtx c x).perturb = s.perturb := rfl
@[simp] theorem State.setCtx_lock (s : State) (c : Nat) (x : CtxState) : (s.setCtx c x).lock = s.lock := rfl
@[simp] theorem State.setCtx_out (s : State) (c : Nat) (x : CtxState) : (s.setCtx c x).out = s.out := rfl
@[simp] theorem State.setCtx_fresh (s : State) (c : Nat) (x : CtxState) : (s.setCtx c x).fresh = s.fresh := rfl
@[simp] theorem State.setCtx_pending (s : State) (c : Nat) (x : CtxState) : (s.setCtx c x).pending = s.pending := rfl

/-! ### `State.setPort` -/

@[simp] theorem State.setPort_times (s : State) (p : Nat) (x : PortState) : (s.setPort p x).times = s.times := rfl
@[simp] theorem State.setPort_objs (s : State) (p : Nat) (x : PortState) : (s.setPort p x).objs = s.objs := rfl
@[simp] theorem State.setPort_doms (s : State) (p : Nat) (x : PortState) : (s.setPort p x).doms = s.doms := rfl
@[simp] theorem State.setPort_sram (s : State) (p : Nat) (x : PortState) : (s.setPort p x).sram = s.sram := rfl
@[simp] theorem State.setPort_ext (s : State) (p : Nat) (x : PortState) : (s.setPort p x).ext = s.ext := rfl
@[simp] theorem State.setPort_gens (s : State) (p : Nat) (x : PortState) : (s.setPort p x).gens = s.gens := rfl
@[simp] theorem State.setPort_dram (s : State) (p : Nat) (x : PortState) : (s.setPort p x).dram = s.dram := rfl
@[simp] theorem State.setPort_vats (s : State) (p : Nat) (x : PortState) : (s.setPort p x).vats = s.vats := rfl
@[simp] theorem State.setPort_vatsRan (s : State) (p : Nat) (x : PortState) : (s.setPort p x).vatsRan = s.vatsRan := rfl
@[simp] theorem State.setPort_ctxs (s : State) (p : Nat) (x : PortState) : (s.setPort p x).ctxs = s.ctxs := rfl
@[simp] theorem State.setPort_sync (s : State) (p : Nat) (x : PortState) : (s.setPort p x).sync = s.sync := rfl
@[simp] theorem State.setPort_mem (s : State) (p : Nat) (x : PortState) : (s.setPort p x).mem = s.mem := rfl
@[simp] theorem State.setPort_events (s : State) (p : Nat) (x : PortState) : (s.setPort p x).events = s.events := rfl
@[simp] theorem State.setPort_skim (s : State) (p : Nat) (x : PortState) : (s.setPort p x).skim = s.skim := rfl
@[simp] theorem State.setPort_power (s : State) (p : Nat) (x : PortState) : (s.setPort p x).power = s.power := rfl
@[simp] theorem State.setPort_host (s : State) (p : Nat) (x : PortState) : (s.setPort p x).host = s.host := rfl
@[simp] theorem State.setPort_can (s : State) (p : Nat) (x : PortState) : (s.setPort p x).can = s.can := rfl
@[simp] theorem State.setPort_boot (s : State) (p : Nat) (x : PortState) : (s.setPort p x).boot = s.boot := rfl
@[simp] theorem State.setPort_entry (s : State) (p : Nat) (x : PortState) : (s.setPort p x).entry = s.entry := rfl
@[simp] theorem State.setPort_perturb (s : State) (p : Nat) (x : PortState) : (s.setPort p x).perturb = s.perturb := rfl
@[simp] theorem State.setPort_lock (s : State) (p : Nat) (x : PortState) : (s.setPort p x).lock = s.lock := rfl
@[simp] theorem State.setPort_out (s : State) (p : Nat) (x : PortState) : (s.setPort p x).out = s.out := rfl
@[simp] theorem State.setPort_fresh (s : State) (p : Nat) (x : PortState) : (s.setPort p x).fresh = s.fresh := rfl
@[simp] theorem State.setPort_pending (s : State) (p : Nat) (x : PortState) : (s.setPort p x).pending = s.pending := rfl

/-! ### `State.setCmp` -/

@[simp] theorem State.setCmp_objs (s : State) (n : Nat) (x : Compare) : (s.setCmp n x).objs = s.objs := rfl
@[simp] theorem State.setCmp_doms (s : State) (n : Nat) (x : Compare) : (s.setCmp n x).doms = s.doms := rfl
@[simp] theorem State.setCmp_sram (s : State) (n : Nat) (x : Compare) : (s.setCmp n x).sram = s.sram := rfl
@[simp] theorem State.setCmp_ext (s : State) (n : Nat) (x : Compare) : (s.setCmp n x).ext = s.ext := rfl
@[simp] theorem State.setCmp_gens (s : State) (n : Nat) (x : Compare) : (s.setCmp n x).gens = s.gens := rfl
@[simp] theorem State.setCmp_dram (s : State) (n : Nat) (x : Compare) : (s.setCmp n x).dram = s.dram := rfl
@[simp] theorem State.setCmp_vats (s : State) (n : Nat) (x : Compare) : (s.setCmp n x).vats = s.vats := rfl
@[simp] theorem State.setCmp_vatsRan (s : State) (n : Nat) (x : Compare) : (s.setCmp n x).vatsRan = s.vatsRan := rfl
@[simp] theorem State.setCmp_ctxs (s : State) (n : Nat) (x : Compare) : (s.setCmp n x).ctxs = s.ctxs := rfl
@[simp] theorem State.setCmp_ports (s : State) (n : Nat) (x : Compare) : (s.setCmp n x).ports = s.ports := rfl
@[simp] theorem State.setCmp_sync (s : State) (n : Nat) (x : Compare) : (s.setCmp n x).sync = s.sync := rfl
@[simp] theorem State.setCmp_mem (s : State) (n : Nat) (x : Compare) : (s.setCmp n x).mem = s.mem := rfl
@[simp] theorem State.setCmp_events (s : State) (n : Nat) (x : Compare) : (s.setCmp n x).events = s.events := rfl
@[simp] theorem State.setCmp_skim (s : State) (n : Nat) (x : Compare) : (s.setCmp n x).skim = s.skim := rfl
@[simp] theorem State.setCmp_power (s : State) (n : Nat) (x : Compare) : (s.setCmp n x).power = s.power := rfl
@[simp] theorem State.setCmp_host (s : State) (n : Nat) (x : Compare) : (s.setCmp n x).host = s.host := rfl
@[simp] theorem State.setCmp_can (s : State) (n : Nat) (x : Compare) : (s.setCmp n x).can = s.can := rfl
@[simp] theorem State.setCmp_boot (s : State) (n : Nat) (x : Compare) : (s.setCmp n x).boot = s.boot := rfl
@[simp] theorem State.setCmp_entry (s : State) (n : Nat) (x : Compare) : (s.setCmp n x).entry = s.entry := rfl
@[simp] theorem State.setCmp_perturb (s : State) (n : Nat) (x : Compare) : (s.setCmp n x).perturb = s.perturb := rfl
@[simp] theorem State.setCmp_lock (s : State) (n : Nat) (x : Compare) : (s.setCmp n x).lock = s.lock := rfl
@[simp] theorem State.setCmp_out (s : State) (n : Nat) (x : Compare) : (s.setCmp n x).out = s.out := rfl
@[simp] theorem State.setCmp_fresh (s : State) (n : Nat) (x : Compare) : (s.setCmp n x).fresh = s.fresh := rfl
@[simp] theorem State.setCmp_pending (s : State) (n : Nat) (x : Compare) : (s.setCmp n x).pending = s.pending := rfl

/-! ### `State.sramWrite` -/

@[simp] theorem State.sramWrite_times (s : State) (a : Nat) (b : List Byte) : (s.sramWrite a b).times = s.times := rfl
@[simp] theorem State.sramWrite_objs (s : State) (a : Nat) (b : List Byte) : (s.sramWrite a b).objs = s.objs := rfl
@[simp] theorem State.sramWrite_doms (s : State) (a : Nat) (b : List Byte) : (s.sramWrite a b).doms = s.doms := rfl
@[simp] theorem State.sramWrite_ext (s : State) (a : Nat) (b : List Byte) : (s.sramWrite a b).ext = s.ext := rfl
@[simp] theorem State.sramWrite_gens (s : State) (a : Nat) (b : List Byte) : (s.sramWrite a b).gens = s.gens := rfl
@[simp] theorem State.sramWrite_dram (s : State) (a : Nat) (b : List Byte) : (s.sramWrite a b).dram = s.dram := rfl
@[simp] theorem State.sramWrite_vats (s : State) (a : Nat) (b : List Byte) : (s.sramWrite a b).vats = s.vats := rfl
@[simp] theorem State.sramWrite_vatsRan (s : State) (a : Nat) (b : List Byte) : (s.sramWrite a b).vatsRan = s.vatsRan := rfl
@[simp] theorem State.sramWrite_ctxs (s : State) (a : Nat) (b : List Byte) : (s.sramWrite a b).ctxs = s.ctxs := rfl
@[simp] theorem State.sramWrite_ports (s : State) (a : Nat) (b : List Byte) : (s.sramWrite a b).ports = s.ports := rfl
@[simp] theorem State.sramWrite_sync (s : State) (a : Nat) (b : List Byte) : (s.sramWrite a b).sync = s.sync := rfl
@[simp] theorem State.sramWrite_mem (s : State) (a : Nat) (b : List Byte) : (s.sramWrite a b).mem = s.mem := rfl
@[simp] theorem State.sramWrite_events (s : State) (a : Nat) (b : List Byte) : (s.sramWrite a b).events = s.events := rfl
@[simp] theorem State.sramWrite_skim (s : State) (a : Nat) (b : List Byte) : (s.sramWrite a b).skim = s.skim := rfl
@[simp] theorem State.sramWrite_power (s : State) (a : Nat) (b : List Byte) : (s.sramWrite a b).power = s.power := rfl
@[simp] theorem State.sramWrite_host (s : State) (a : Nat) (b : List Byte) : (s.sramWrite a b).host = s.host := rfl
@[simp] theorem State.sramWrite_can (s : State) (a : Nat) (b : List Byte) : (s.sramWrite a b).can = s.can := rfl
@[simp] theorem State.sramWrite_boot (s : State) (a : Nat) (b : List Byte) : (s.sramWrite a b).boot = s.boot := rfl
@[simp] theorem State.sramWrite_entry (s : State) (a : Nat) (b : List Byte) : (s.sramWrite a b).entry = s.entry := rfl
@[simp] theorem State.sramWrite_perturb (s : State) (a : Nat) (b : List Byte) : (s.sramWrite a b).perturb = s.perturb := rfl
@[simp] theorem State.sramWrite_lock (s : State) (a : Nat) (b : List Byte) : (s.sramWrite a b).lock = s.lock := rfl
@[simp] theorem State.sramWrite_out (s : State) (a : Nat) (b : List Byte) : (s.sramWrite a b).out = s.out := rfl
@[simp] theorem State.sramWrite_fresh (s : State) (a : Nat) (b : List Byte) : (s.sramWrite a b).fresh = s.fresh := rfl
@[simp] theorem State.sramWrite_pending (s : State) (a : Nat) (b : List Byte) : (s.sramWrite a b).pending = s.pending := rfl

/-! ### `State.dramWrite` -/

@[simp] theorem State.dramWrite_times (s : State) (a : Nat) (b : List Byte) : (s.dramWrite a b).times = s.times := rfl
@[simp] theorem State.dramWrite_objs (s : State) (a : Nat) (b : List Byte) : (s.dramWrite a b).objs = s.objs := rfl
@[simp] theorem State.dramWrite_doms (s : State) (a : Nat) (b : List Byte) : (s.dramWrite a b).doms = s.doms := rfl
@[simp] theorem State.dramWrite_sram (s : State) (a : Nat) (b : List Byte) : (s.dramWrite a b).sram = s.sram := rfl
@[simp] theorem State.dramWrite_ext (s : State) (a : Nat) (b : List Byte) : (s.dramWrite a b).ext = s.ext := rfl
@[simp] theorem State.dramWrite_gens (s : State) (a : Nat) (b : List Byte) : (s.dramWrite a b).gens = s.gens := rfl
@[simp] theorem State.dramWrite_vats (s : State) (a : Nat) (b : List Byte) : (s.dramWrite a b).vats = s.vats := rfl
@[simp] theorem State.dramWrite_vatsRan (s : State) (a : Nat) (b : List Byte) : (s.dramWrite a b).vatsRan = s.vatsRan := rfl
@[simp] theorem State.dramWrite_ctxs (s : State) (a : Nat) (b : List Byte) : (s.dramWrite a b).ctxs = s.ctxs := rfl
@[simp] theorem State.dramWrite_ports (s : State) (a : Nat) (b : List Byte) : (s.dramWrite a b).ports = s.ports := rfl
@[simp] theorem State.dramWrite_sync (s : State) (a : Nat) (b : List Byte) : (s.dramWrite a b).sync = s.sync := rfl
@[simp] theorem State.dramWrite_mem (s : State) (a : Nat) (b : List Byte) : (s.dramWrite a b).mem = s.mem := rfl
@[simp] theorem State.dramWrite_events (s : State) (a : Nat) (b : List Byte) : (s.dramWrite a b).events = s.events := rfl
@[simp] theorem State.dramWrite_skim (s : State) (a : Nat) (b : List Byte) : (s.dramWrite a b).skim = s.skim := rfl
@[simp] theorem State.dramWrite_power (s : State) (a : Nat) (b : List Byte) : (s.dramWrite a b).power = s.power := rfl
@[simp] theorem State.dramWrite_host (s : State) (a : Nat) (b : List Byte) : (s.dramWrite a b).host = s.host := rfl
@[simp] theorem State.dramWrite_can (s : State) (a : Nat) (b : List Byte) : (s.dramWrite a b).can = s.can := rfl
@[simp] theorem State.dramWrite_boot (s : State) (a : Nat) (b : List Byte) : (s.dramWrite a b).boot = s.boot := rfl
@[simp] theorem State.dramWrite_entry (s : State) (a : Nat) (b : List Byte) : (s.dramWrite a b).entry = s.entry := rfl
@[simp] theorem State.dramWrite_perturb (s : State) (a : Nat) (b : List Byte) : (s.dramWrite a b).perturb = s.perturb := rfl
@[simp] theorem State.dramWrite_lock (s : State) (a : Nat) (b : List Byte) : (s.dramWrite a b).lock = s.lock := rfl
@[simp] theorem State.dramWrite_out (s : State) (a : Nat) (b : List Byte) : (s.dramWrite a b).out = s.out := rfl
@[simp] theorem State.dramWrite_fresh (s : State) (a : Nat) (b : List Byte) : (s.dramWrite a b).fresh = s.fresh := rfl
@[simp] theorem State.dramWrite_pending (s : State) (a : Nat) (b : List Byte) : (s.dramWrite a b).pending = s.pending := rfl

/-! ### `State.setExt` -/

@[simp] theorem State.setExt_times (s : State) (c : Nat) (v : BitVec 16) : (s.setExt c v).times = s.times := rfl
@[simp] theorem State.setExt_objs (s : State) (c : Nat) (v : BitVec 16) : (s.setExt c v).objs = s.objs := rfl
@[simp] theorem State.setExt_doms (s : State) (c : Nat) (v : BitVec 16) : (s.setExt c v).doms = s.doms := rfl
@[simp] theorem State.setExt_sram (s : State) (c : Nat) (v : BitVec 16) : (s.setExt c v).sram = s.sram := rfl
@[simp] theorem State.setExt_gens (s : State) (c : Nat) (v : BitVec 16) : (s.setExt c v).gens = s.gens := rfl
@[simp] theorem State.setExt_dram (s : State) (c : Nat) (v : BitVec 16) : (s.setExt c v).dram = s.dram := rfl
@[simp] theorem State.setExt_vats (s : State) (c : Nat) (v : BitVec 16) : (s.setExt c v).vats = s.vats := rfl
@[simp] theorem State.setExt_vatsRan (s : State) (c : Nat) (v : BitVec 16) : (s.setExt c v).vatsRan = s.vatsRan := rfl
@[simp] theorem State.setExt_ctxs (s : State) (c : Nat) (v : BitVec 16) : (s.setExt c v).ctxs = s.ctxs := rfl
@[simp] theorem State.setExt_ports (s : State) (c : Nat) (v : BitVec 16) : (s.setExt c v).ports = s.ports := rfl
@[simp] theorem State.setExt_sync (s : State) (c : Nat) (v : BitVec 16) : (s.setExt c v).sync = s.sync := rfl
@[simp] theorem State.setExt_mem (s : State) (c : Nat) (v : BitVec 16) : (s.setExt c v).mem = s.mem := rfl
@[simp] theorem State.setExt_events (s : State) (c : Nat) (v : BitVec 16) : (s.setExt c v).events = s.events := rfl
@[simp] theorem State.setExt_skim (s : State) (c : Nat) (v : BitVec 16) : (s.setExt c v).skim = s.skim := rfl
@[simp] theorem State.setExt_power (s : State) (c : Nat) (v : BitVec 16) : (s.setExt c v).power = s.power := rfl
@[simp] theorem State.setExt_host (s : State) (c : Nat) (v : BitVec 16) : (s.setExt c v).host = s.host := rfl
@[simp] theorem State.setExt_can (s : State) (c : Nat) (v : BitVec 16) : (s.setExt c v).can = s.can := rfl
@[simp] theorem State.setExt_boot (s : State) (c : Nat) (v : BitVec 16) : (s.setExt c v).boot = s.boot := rfl
@[simp] theorem State.setExt_entry (s : State) (c : Nat) (v : BitVec 16) : (s.setExt c v).entry = s.entry := rfl
@[simp] theorem State.setExt_perturb (s : State) (c : Nat) (v : BitVec 16) : (s.setExt c v).perturb = s.perturb := rfl
@[simp] theorem State.setExt_lock (s : State) (c : Nat) (v : BitVec 16) : (s.setExt c v).lock = s.lock := rfl
@[simp] theorem State.setExt_out (s : State) (c : Nat) (v : BitVec 16) : (s.setExt c v).out = s.out := rfl
@[simp] theorem State.setExt_fresh (s : State) (c : Nat) (v : BitVec 16) : (s.setExt c v).fresh = s.fresh := rfl
@[simp] theorem State.setExt_pending (s : State) (c : Nat) (v : BitVec 16) : (s.setExt c v).pending = s.pending := rfl

/-! ### `State.setPageGen` -/

@[simp] theorem State.setPageGen_times (s : State) (p : Nat) (g : Byte) : (s.setPageGen p g).times = s.times := rfl
@[simp] theorem State.setPageGen_objs (s : State) (p : Nat) (g : Byte) : (s.setPageGen p g).objs = s.objs := rfl
@[simp] theorem State.setPageGen_doms (s : State) (p : Nat) (g : Byte) : (s.setPageGen p g).doms = s.doms := rfl
@[simp] theorem State.setPageGen_sram (s : State) (p : Nat) (g : Byte) : (s.setPageGen p g).sram = s.sram := rfl
@[simp] theorem State.setPageGen_ext (s : State) (p : Nat) (g : Byte) : (s.setPageGen p g).ext = s.ext := rfl
@[simp] theorem State.setPageGen_dram (s : State) (p : Nat) (g : Byte) : (s.setPageGen p g).dram = s.dram := rfl
@[simp] theorem State.setPageGen_vats (s : State) (p : Nat) (g : Byte) : (s.setPageGen p g).vats = s.vats := rfl
@[simp] theorem State.setPageGen_vatsRan (s : State) (p : Nat) (g : Byte) : (s.setPageGen p g).vatsRan = s.vatsRan := rfl
@[simp] theorem State.setPageGen_ctxs (s : State) (p : Nat) (g : Byte) : (s.setPageGen p g).ctxs = s.ctxs := rfl
@[simp] theorem State.setPageGen_ports (s : State) (p : Nat) (g : Byte) : (s.setPageGen p g).ports = s.ports := rfl
@[simp] theorem State.setPageGen_sync (s : State) (p : Nat) (g : Byte) : (s.setPageGen p g).sync = s.sync := rfl
@[simp] theorem State.setPageGen_mem (s : State) (p : Nat) (g : Byte) : (s.setPageGen p g).mem = s.mem := rfl
@[simp] theorem State.setPageGen_events (s : State) (p : Nat) (g : Byte) : (s.setPageGen p g).events = s.events := rfl
@[simp] theorem State.setPageGen_skim (s : State) (p : Nat) (g : Byte) : (s.setPageGen p g).skim = s.skim := rfl
@[simp] theorem State.setPageGen_power (s : State) (p : Nat) (g : Byte) : (s.setPageGen p g).power = s.power := rfl
@[simp] theorem State.setPageGen_host (s : State) (p : Nat) (g : Byte) : (s.setPageGen p g).host = s.host := rfl
@[simp] theorem State.setPageGen_can (s : State) (p : Nat) (g : Byte) : (s.setPageGen p g).can = s.can := rfl
@[simp] theorem State.setPageGen_boot (s : State) (p : Nat) (g : Byte) : (s.setPageGen p g).boot = s.boot := rfl
@[simp] theorem State.setPageGen_entry (s : State) (p : Nat) (g : Byte) : (s.setPageGen p g).entry = s.entry := rfl
@[simp] theorem State.setPageGen_perturb (s : State) (p : Nat) (g : Byte) : (s.setPageGen p g).perturb = s.perturb := rfl
@[simp] theorem State.setPageGen_lock (s : State) (p : Nat) (g : Byte) : (s.setPageGen p g).lock = s.lock := rfl
@[simp] theorem State.setPageGen_out (s : State) (p : Nat) (g : Byte) : (s.setPageGen p g).out = s.out := rfl
@[simp] theorem State.setPageGen_fresh (s : State) (p : Nat) (g : Byte) : (s.setPageGen p g).fresh = s.fresh := rfl
@[simp] theorem State.setPageGen_pending (s : State) (p : Nat) (g : Byte) : (s.setPageGen p g).pending = s.pending := rfl

/-! ### `State.emit` -/

@[simp] theorem State.emit_times (s : State) (o : Out) : (s.emit o).times = s.times := rfl
@[simp] theorem State.emit_objs (s : State) (o : Out) : (s.emit o).objs = s.objs := rfl
@[simp] theorem State.emit_doms (s : State) (o : Out) : (s.emit o).doms = s.doms := rfl
@[simp] theorem State.emit_sram (s : State) (o : Out) : (s.emit o).sram = s.sram := rfl
@[simp] theorem State.emit_ext (s : State) (o : Out) : (s.emit o).ext = s.ext := rfl
@[simp] theorem State.emit_gens (s : State) (o : Out) : (s.emit o).gens = s.gens := rfl
@[simp] theorem State.emit_dram (s : State) (o : Out) : (s.emit o).dram = s.dram := rfl
@[simp] theorem State.emit_vats (s : State) (o : Out) : (s.emit o).vats = s.vats := rfl
@[simp] theorem State.emit_vatsRan (s : State) (o : Out) : (s.emit o).vatsRan = s.vatsRan := rfl
@[simp] theorem State.emit_ctxs (s : State) (o : Out) : (s.emit o).ctxs = s.ctxs := rfl
@[simp] theorem State.emit_ports (s : State) (o : Out) : (s.emit o).ports = s.ports := rfl
@[simp] theorem State.emit_sync (s : State) (o : Out) : (s.emit o).sync = s.sync := rfl
@[simp] theorem State.emit_mem (s : State) (o : Out) : (s.emit o).mem = s.mem := rfl
@[simp] theorem State.emit_events (s : State) (o : Out) : (s.emit o).events = s.events := rfl
@[simp] theorem State.emit_skim (s : State) (o : Out) : (s.emit o).skim = s.skim := rfl
@[simp] theorem State.emit_power (s : State) (o : Out) : (s.emit o).power = s.power := rfl
@[simp] theorem State.emit_host (s : State) (o : Out) : (s.emit o).host = s.host := rfl
@[simp] theorem State.emit_can (s : State) (o : Out) : (s.emit o).can = s.can := rfl
@[simp] theorem State.emit_boot (s : State) (o : Out) : (s.emit o).boot = s.boot := rfl
@[simp] theorem State.emit_entry (s : State) (o : Out) : (s.emit o).entry = s.entry := rfl
@[simp] theorem State.emit_perturb (s : State) (o : Out) : (s.emit o).perturb = s.perturb := rfl
@[simp] theorem State.emit_lock (s : State) (o : Out) : (s.emit o).lock = s.lock := rfl
@[simp] theorem State.emit_fresh (s : State) (o : Out) : (s.emit o).fresh = s.fresh := rfl
@[simp] theorem State.emit_pending (s : State) (o : Out) : (s.emit o).pending = s.pending := rfl

/-! ### `State.withStatus` -/

@[simp] theorem State.withStatus_times (s : State) (n : Nat) : (s.withStatus n).times = s.times := rfl
@[simp] theorem State.withStatus_objs (s : State) (n : Nat) : (s.withStatus n).objs = s.objs := rfl
@[simp] theorem State.withStatus_doms (s : State) (n : Nat) : (s.withStatus n).doms = s.doms := rfl
@[simp] theorem State.withStatus_sram (s : State) (n : Nat) : (s.withStatus n).sram = s.sram := rfl
@[simp] theorem State.withStatus_ext (s : State) (n : Nat) : (s.withStatus n).ext = s.ext := rfl
@[simp] theorem State.withStatus_gens (s : State) (n : Nat) : (s.withStatus n).gens = s.gens := rfl
@[simp] theorem State.withStatus_dram (s : State) (n : Nat) : (s.withStatus n).dram = s.dram := rfl
@[simp] theorem State.withStatus_vats (s : State) (n : Nat) : (s.withStatus n).vats = s.vats := rfl
@[simp] theorem State.withStatus_vatsRan (s : State) (n : Nat) : (s.withStatus n).vatsRan = s.vatsRan := rfl
@[simp] theorem State.withStatus_ctxs (s : State) (n : Nat) : (s.withStatus n).ctxs = s.ctxs := rfl
@[simp] theorem State.withStatus_ports (s : State) (n : Nat) : (s.withStatus n).ports = s.ports := rfl
@[simp] theorem State.withStatus_sync (s : State) (n : Nat) : (s.withStatus n).sync = s.sync := rfl
@[simp] theorem State.withStatus_mem (s : State) (n : Nat) : (s.withStatus n).mem = s.mem := rfl
@[simp] theorem State.withStatus_events (s : State) (n : Nat) : (s.withStatus n).events = s.events := rfl
@[simp] theorem State.withStatus_skim (s : State) (n : Nat) : (s.withStatus n).skim = s.skim := rfl
@[simp] theorem State.withStatus_power (s : State) (n : Nat) : (s.withStatus n).power = s.power := rfl
@[simp] theorem State.withStatus_can (s : State) (n : Nat) : (s.withStatus n).can = s.can := rfl
@[simp] theorem State.withStatus_boot (s : State) (n : Nat) : (s.withStatus n).boot = s.boot := rfl
@[simp] theorem State.withStatus_entry (s : State) (n : Nat) : (s.withStatus n).entry = s.entry := rfl
@[simp] theorem State.withStatus_perturb (s : State) (n : Nat) : (s.withStatus n).perturb = s.perturb := rfl
@[simp] theorem State.withStatus_lock (s : State) (n : Nat) : (s.withStatus n).lock = s.lock := rfl
@[simp] theorem State.withStatus_out (s : State) (n : Nat) : (s.withStatus n).out = s.out := rfl
@[simp] theorem State.withStatus_fresh (s : State) (n : Nat) : (s.withStatus n).fresh = s.fresh := rfl
@[simp] theorem State.withStatus_pending (s : State) (n : Nat) : (s.withStatus n).pending = s.pending := rfl

@[simp] theorem State.emit_out (s : State) (o : Out) : (s.emit o).out = o :: s.out := rfl

/-! ### `VatState.setS` -/

@[simp] theorem VatState.setS_areg (x : VatState) (n : Nat) (w : W32) : (x.setS n w).areg = x.areg := by
  unfold VatState.setS; split <;> rfl
@[simp] theorem VatState.setS_preg (x : VatState) (n : Nat) (w : W32) : (x.setS n w).preg = x.preg := by
  unfold VatState.setS; split <;> rfl
@[simp] theorem VatState.setS_vreg (x : VatState) (n : Nat) (w : W32) : (x.setS n w).vreg = x.vreg := by
  unfold VatState.setS; split <;> rfl
@[simp] theorem VatState.setS_pc (x : VatState) (n : Nat) (w : W32) : (x.setS n w).pc = x.pc := by
  unfold VatState.setS; split <;> rfl
@[simp] theorem VatState.setS_run (x : VatState) (n : Nat) (w : W32) : (x.setS n w).run = x.run := by
  unfold VatState.setS; split <;> rfl
@[simp] theorem VatState.setS_stopped (x : VatState) (n : Nat) (w : W32) : (x.setS n w).stopped = x.stopped := by
  unfold VatState.setS; split <;> rfl
@[simp] theorem VatState.setS_step (x : VatState) (n : Nat) (w : W32) : (x.setS n w).step = x.step := by
  unfold VatState.setS; split <;> rfl
@[simp] theorem VatState.setS_trel (x : VatState) (n : Nat) (w : W32) : (x.setS n w).trel = x.trel := by
  unfold VatState.setS; split <;> rfl
@[simp] theorem VatState.setS_lstat (x : VatState) (n : Nat) (w : W32) : (x.setS n w).lstat = x.lstat := by
  unfold VatState.setS; split <;> rfl
@[simp] theorem VatState.setS_cyc (x : VatState) (n : Nat) (w : W32) : (x.setS n w).cyc = x.cyc := by
  unfold VatState.setS; split <;> rfl
@[simp] theorem VatState.setS_cycHi (x : VatState) (n : Nat) (w : W32) : (x.setS n w).cycHi = x.cycHi := by
  unfold VatState.setS; split <;> rfl
@[simp] theorem VatState.setS_loops (x : VatState) (n : Nat) (w : W32) : (x.setS n w).loops = x.loops := by
  unfold VatState.setS; split <;> rfl
@[simp] theorem VatState.setS_nextAge (x : VatState) (n : Nat) (w : W32) : (x.setS n w).nextAge = x.nextAge := by
  unfold VatState.setS; split <;> rfl
@[simp] theorem VatState.setS_marks (x : VatState) (n : Nat) (w : W32) : (x.setS n w).marks = x.marks := by
  unfold VatState.setS; split <;> rfl
@[simp] theorem VatState.setS_events (x : VatState) (n : Nat) (w : W32) : (x.setS n w).events = x.events := by
  unfold VatState.setS; split <;> rfl
@[simp] theorem VatState.setS_syncq (x : VatState) (n : Nat) (w : W32) : (x.setS n w).syncq = x.syncq := by
  unfold VatState.setS; split <;> rfl
@[simp] theorem VatState.setS_results (x : VatState) (n : Nat) (w : W32) : (x.setS n w).results = x.results := by
  unfold VatState.setS; split <;> rfl
@[simp] theorem VatState.setS_stimes (x : VatState) (n : Nat) (w : W32) : (x.setS n w).stimes = x.stimes := by
  unfold VatState.setS; split <;> rfl
@[simp] theorem VatState.setS_notices (x : VatState) (n : Nat) (w : W32) : (x.setS n w).notices = x.notices := by
  unfold VatState.setS; split <;> rfl
@[simp] theorem VatState.setS_echoes (x : VatState) (n : Nat) (w : W32) : (x.setS n w).echoes = x.echoes := by
  unfold VatState.setS; split <;> rfl
@[simp] theorem VatState.setS_remote (x : VatState) (n : Nat) (w : W32) : (x.setS n w).remote = x.remote := by
  unfold VatState.setS; split <;> rfl
@[simp] theorem VatState.setS_queue (x : VatState) (n : Nat) (w : W32) : (x.setS n w).queue = x.queue := by
  unfold VatState.setS; split <;> rfl
@[simp] theorem VatState.setS_tokens (x : VatState) (n : Nat) (w : W32) : (x.setS n w).tokens = x.tokens := by
  unfold VatState.setS; split <;> rfl
@[simp] theorem VatState.setS_tiles (x : VatState) (n : Nat) (w : W32) : (x.setS n w).tiles = x.tiles := by
  unfold VatState.setS; split <;> rfl
@[simp] theorem VatState.setS_sides (x : VatState) (n : Nat) (w : W32) : (x.setS n w).sides = x.sides := by
  unfold VatState.setS; split <;> rfl
@[simp] theorem VatState.setS_tags (x : VatState) (n : Nat) (w : W32) : (x.setS n w).tags = x.tags := by
  unfold VatState.setS; split <;> rfl
@[simp] theorem VatState.setS_acc (x : VatState) (n : Nat) (w : W32) : (x.setS n w).acc = x.acc := by
  unfold VatState.setS; split <;> rfl
@[simp] theorem VatState.setS_banks (x : VatState) (n : Nat) (w : W32) : (x.setS n w).banks = x.banks := by
  unfold VatState.setS; split <;> rfl
@[simp] theorem VatState.setS_satCnt (x : VatState) (n : Nat) (w : W32) : (x.setS n w).satCnt = x.satCnt := by
  unfold VatState.setS; split <;> rfl
@[simp] theorem VatState.setS_nanSeen (x : VatState) (n : Nat) (w : W32) : (x.setS n w).nanSeen = x.nanSeen := by
  unfold VatState.setS; split <;> rfl
@[simp] theorem VatState.setS_slotGen (x : VatState) (n : Nat) (w : W32) : (x.setS n w).slotGen = x.slotGen := by
  unfold VatState.setS; split <;> rfl
@[simp] theorem VatState.setS_freq (x : VatState) (n : Nat) (w : W32) : (x.setS n w).freq = x.freq := by
  unfold VatState.setS; split <;> rfl
@[simp] theorem VatState.setS_temp (x : VatState) (n : Nat) (w : W32) : (x.setS n w).temp = x.temp := by
  unfold VatState.setS; split <;> rfl
@[simp] theorem VatState.setS_gated (x : VatState) (n : Nat) (w : W32) : (x.setS n w).gated = x.gated := by
  unfold VatState.setS; split <;> rfl
@[simp] theorem VatState.setS_stretches (x : VatState) (n : Nat) (w : W32) : (x.setS n w).stretches = x.stretches := by
  unfold VatState.setS; split <;> rfl
@[simp] theorem VatState.setS_stepdowns (x : VatState) (n : Nat) (w : W32) : (x.setS n w).stepdowns = x.stepdowns := by
  unfold VatState.setS; split <;> rfl
@[simp] theorem VatState.setS_stretchRun (x : VatState) (n : Nat) (w : W32) : (x.setS n w).stretchRun = x.stretchRun := by
  unfold VatState.setS; split <;> rfl
@[simp] theorem VatState.setS_runSinceRecover (x : VatState) (n : Nat) (w : W32) : (x.setS n w).runSinceRecover = x.runSinceRecover := by
  unfold VatState.setS; split <;> rfl
@[simp] theorem VatState.setS_stretchLog (x : VatState) (n : Nat) (w : W32) : (x.setS n w).stretchLog = x.stretchLog := by
  unfold VatState.setS; split <;> rfl

/-! ### `VatState.setP` -/

@[simp] theorem VatState.setP_sreg (x : VatState) (n : Nat) (b : Bool) : (x.setP n b).sreg = x.sreg := by
  unfold VatState.setP; split <;> rfl
@[simp] theorem VatState.setP_areg (x : VatState) (n : Nat) (b : Bool) : (x.setP n b).areg = x.areg := by
  unfold VatState.setP; split <;> rfl
@[simp] theorem VatState.setP_vreg (x : VatState) (n : Nat) (b : Bool) : (x.setP n b).vreg = x.vreg := by
  unfold VatState.setP; split <;> rfl
@[simp] theorem VatState.setP_pc (x : VatState) (n : Nat) (b : Bool) : (x.setP n b).pc = x.pc := by
  unfold VatState.setP; split <;> rfl
@[simp] theorem VatState.setP_run (x : VatState) (n : Nat) (b : Bool) : (x.setP n b).run = x.run := by
  unfold VatState.setP; split <;> rfl
@[simp] theorem VatState.setP_stopped (x : VatState) (n : Nat) (b : Bool) : (x.setP n b).stopped = x.stopped := by
  unfold VatState.setP; split <;> rfl
@[simp] theorem VatState.setP_step (x : VatState) (n : Nat) (b : Bool) : (x.setP n b).step = x.step := by
  unfold VatState.setP; split <;> rfl
@[simp] theorem VatState.setP_trel (x : VatState) (n : Nat) (b : Bool) : (x.setP n b).trel = x.trel := by
  unfold VatState.setP; split <;> rfl
@[simp] theorem VatState.setP_lstat (x : VatState) (n : Nat) (b : Bool) : (x.setP n b).lstat = x.lstat := by
  unfold VatState.setP; split <;> rfl
@[simp] theorem VatState.setP_cyc (x : VatState) (n : Nat) (b : Bool) : (x.setP n b).cyc = x.cyc := by
  unfold VatState.setP; split <;> rfl
@[simp] theorem VatState.setP_cycHi (x : VatState) (n : Nat) (b : Bool) : (x.setP n b).cycHi = x.cycHi := by
  unfold VatState.setP; split <;> rfl
@[simp] theorem VatState.setP_loops (x : VatState) (n : Nat) (b : Bool) : (x.setP n b).loops = x.loops := by
  unfold VatState.setP; split <;> rfl
@[simp] theorem VatState.setP_nextAge (x : VatState) (n : Nat) (b : Bool) : (x.setP n b).nextAge = x.nextAge := by
  unfold VatState.setP; split <;> rfl
@[simp] theorem VatState.setP_marks (x : VatState) (n : Nat) (b : Bool) : (x.setP n b).marks = x.marks := by
  unfold VatState.setP; split <;> rfl
@[simp] theorem VatState.setP_events (x : VatState) (n : Nat) (b : Bool) : (x.setP n b).events = x.events := by
  unfold VatState.setP; split <;> rfl
@[simp] theorem VatState.setP_syncq (x : VatState) (n : Nat) (b : Bool) : (x.setP n b).syncq = x.syncq := by
  unfold VatState.setP; split <;> rfl
@[simp] theorem VatState.setP_results (x : VatState) (n : Nat) (b : Bool) : (x.setP n b).results = x.results := by
  unfold VatState.setP; split <;> rfl
@[simp] theorem VatState.setP_stimes (x : VatState) (n : Nat) (b : Bool) : (x.setP n b).stimes = x.stimes := by
  unfold VatState.setP; split <;> rfl
@[simp] theorem VatState.setP_notices (x : VatState) (n : Nat) (b : Bool) : (x.setP n b).notices = x.notices := by
  unfold VatState.setP; split <;> rfl
@[simp] theorem VatState.setP_echoes (x : VatState) (n : Nat) (b : Bool) : (x.setP n b).echoes = x.echoes := by
  unfold VatState.setP; split <;> rfl
@[simp] theorem VatState.setP_remote (x : VatState) (n : Nat) (b : Bool) : (x.setP n b).remote = x.remote := by
  unfold VatState.setP; split <;> rfl
@[simp] theorem VatState.setP_queue (x : VatState) (n : Nat) (b : Bool) : (x.setP n b).queue = x.queue := by
  unfold VatState.setP; split <;> rfl
@[simp] theorem VatState.setP_tokens (x : VatState) (n : Nat) (b : Bool) : (x.setP n b).tokens = x.tokens := by
  unfold VatState.setP; split <;> rfl
@[simp] theorem VatState.setP_tiles (x : VatState) (n : Nat) (b : Bool) : (x.setP n b).tiles = x.tiles := by
  unfold VatState.setP; split <;> rfl
@[simp] theorem VatState.setP_sides (x : VatState) (n : Nat) (b : Bool) : (x.setP n b).sides = x.sides := by
  unfold VatState.setP; split <;> rfl
@[simp] theorem VatState.setP_tags (x : VatState) (n : Nat) (b : Bool) : (x.setP n b).tags = x.tags := by
  unfold VatState.setP; split <;> rfl
@[simp] theorem VatState.setP_acc (x : VatState) (n : Nat) (b : Bool) : (x.setP n b).acc = x.acc := by
  unfold VatState.setP; split <;> rfl
@[simp] theorem VatState.setP_banks (x : VatState) (n : Nat) (b : Bool) : (x.setP n b).banks = x.banks := by
  unfold VatState.setP; split <;> rfl
@[simp] theorem VatState.setP_satCnt (x : VatState) (n : Nat) (b : Bool) : (x.setP n b).satCnt = x.satCnt := by
  unfold VatState.setP; split <;> rfl
@[simp] theorem VatState.setP_nanSeen (x : VatState) (n : Nat) (b : Bool) : (x.setP n b).nanSeen = x.nanSeen := by
  unfold VatState.setP; split <;> rfl
@[simp] theorem VatState.setP_slotGen (x : VatState) (n : Nat) (b : Bool) : (x.setP n b).slotGen = x.slotGen := by
  unfold VatState.setP; split <;> rfl
@[simp] theorem VatState.setP_freq (x : VatState) (n : Nat) (b : Bool) : (x.setP n b).freq = x.freq := by
  unfold VatState.setP; split <;> rfl
@[simp] theorem VatState.setP_temp (x : VatState) (n : Nat) (b : Bool) : (x.setP n b).temp = x.temp := by
  unfold VatState.setP; split <;> rfl
@[simp] theorem VatState.setP_gated (x : VatState) (n : Nat) (b : Bool) : (x.setP n b).gated = x.gated := by
  unfold VatState.setP; split <;> rfl
@[simp] theorem VatState.setP_stretches (x : VatState) (n : Nat) (b : Bool) : (x.setP n b).stretches = x.stretches := by
  unfold VatState.setP; split <;> rfl
@[simp] theorem VatState.setP_stepdowns (x : VatState) (n : Nat) (b : Bool) : (x.setP n b).stepdowns = x.stepdowns := by
  unfold VatState.setP; split <;> rfl
@[simp] theorem VatState.setP_stretchRun (x : VatState) (n : Nat) (b : Bool) : (x.setP n b).stretchRun = x.stretchRun := by
  unfold VatState.setP; split <;> rfl
@[simp] theorem VatState.setP_runSinceRecover (x : VatState) (n : Nat) (b : Bool) : (x.setP n b).runSinceRecover = x.runSinceRecover := by
  unfold VatState.setP; split <;> rfl
@[simp] theorem VatState.setP_stretchLog (x : VatState) (n : Nat) (b : Bool) : (x.setP n b).stretchLog = x.stretchLog := by
  unfold VatState.setP; split <;> rfl

/-! ### `VatState.setA` -/

@[simp] theorem VatState.setA_sreg (x : VatState) (n : Nat) (w : W48) : (x.setA n w).sreg = x.sreg := rfl
@[simp] theorem VatState.setA_preg (x : VatState) (n : Nat) (w : W48) : (x.setA n w).preg = x.preg := rfl
@[simp] theorem VatState.setA_vreg (x : VatState) (n : Nat) (w : W48) : (x.setA n w).vreg = x.vreg := rfl
@[simp] theorem VatState.setA_pc (x : VatState) (n : Nat) (w : W48) : (x.setA n w).pc = x.pc := rfl
@[simp] theorem VatState.setA_run (x : VatState) (n : Nat) (w : W48) : (x.setA n w).run = x.run := rfl
@[simp] theorem VatState.setA_stopped (x : VatState) (n : Nat) (w : W48) : (x.setA n w).stopped = x.stopped := rfl
@[simp] theorem VatState.setA_step (x : VatState) (n : Nat) (w : W48) : (x.setA n w).step = x.step := rfl
@[simp] theorem VatState.setA_trel (x : VatState) (n : Nat) (w : W48) : (x.setA n w).trel = x.trel := rfl
@[simp] theorem VatState.setA_lstat (x : VatState) (n : Nat) (w : W48) : (x.setA n w).lstat = x.lstat := rfl
@[simp] theorem VatState.setA_cyc (x : VatState) (n : Nat) (w : W48) : (x.setA n w).cyc = x.cyc := rfl
@[simp] theorem VatState.setA_cycHi (x : VatState) (n : Nat) (w : W48) : (x.setA n w).cycHi = x.cycHi := rfl
@[simp] theorem VatState.setA_loops (x : VatState) (n : Nat) (w : W48) : (x.setA n w).loops = x.loops := rfl
@[simp] theorem VatState.setA_nextAge (x : VatState) (n : Nat) (w : W48) : (x.setA n w).nextAge = x.nextAge := rfl
@[simp] theorem VatState.setA_marks (x : VatState) (n : Nat) (w : W48) : (x.setA n w).marks = x.marks := rfl
@[simp] theorem VatState.setA_events (x : VatState) (n : Nat) (w : W48) : (x.setA n w).events = x.events := rfl
@[simp] theorem VatState.setA_syncq (x : VatState) (n : Nat) (w : W48) : (x.setA n w).syncq = x.syncq := rfl
@[simp] theorem VatState.setA_results (x : VatState) (n : Nat) (w : W48) : (x.setA n w).results = x.results := rfl
@[simp] theorem VatState.setA_stimes (x : VatState) (n : Nat) (w : W48) : (x.setA n w).stimes = x.stimes := rfl
@[simp] theorem VatState.setA_notices (x : VatState) (n : Nat) (w : W48) : (x.setA n w).notices = x.notices := rfl
@[simp] theorem VatState.setA_echoes (x : VatState) (n : Nat) (w : W48) : (x.setA n w).echoes = x.echoes := rfl
@[simp] theorem VatState.setA_remote (x : VatState) (n : Nat) (w : W48) : (x.setA n w).remote = x.remote := rfl
@[simp] theorem VatState.setA_queue (x : VatState) (n : Nat) (w : W48) : (x.setA n w).queue = x.queue := rfl
@[simp] theorem VatState.setA_tokens (x : VatState) (n : Nat) (w : W48) : (x.setA n w).tokens = x.tokens := rfl
@[simp] theorem VatState.setA_tiles (x : VatState) (n : Nat) (w : W48) : (x.setA n w).tiles = x.tiles := rfl
@[simp] theorem VatState.setA_sides (x : VatState) (n : Nat) (w : W48) : (x.setA n w).sides = x.sides := rfl
@[simp] theorem VatState.setA_tags (x : VatState) (n : Nat) (w : W48) : (x.setA n w).tags = x.tags := rfl
@[simp] theorem VatState.setA_acc (x : VatState) (n : Nat) (w : W48) : (x.setA n w).acc = x.acc := rfl
@[simp] theorem VatState.setA_banks (x : VatState) (n : Nat) (w : W48) : (x.setA n w).banks = x.banks := rfl
@[simp] theorem VatState.setA_satCnt (x : VatState) (n : Nat) (w : W48) : (x.setA n w).satCnt = x.satCnt := rfl
@[simp] theorem VatState.setA_nanSeen (x : VatState) (n : Nat) (w : W48) : (x.setA n w).nanSeen = x.nanSeen := rfl
@[simp] theorem VatState.setA_slotGen (x : VatState) (n : Nat) (w : W48) : (x.setA n w).slotGen = x.slotGen := rfl
@[simp] theorem VatState.setA_freq (x : VatState) (n : Nat) (w : W48) : (x.setA n w).freq = x.freq := rfl
@[simp] theorem VatState.setA_temp (x : VatState) (n : Nat) (w : W48) : (x.setA n w).temp = x.temp := rfl
@[simp] theorem VatState.setA_gated (x : VatState) (n : Nat) (w : W48) : (x.setA n w).gated = x.gated := rfl
@[simp] theorem VatState.setA_stretches (x : VatState) (n : Nat) (w : W48) : (x.setA n w).stretches = x.stretches := rfl
@[simp] theorem VatState.setA_stepdowns (x : VatState) (n : Nat) (w : W48) : (x.setA n w).stepdowns = x.stepdowns := rfl
@[simp] theorem VatState.setA_stretchRun (x : VatState) (n : Nat) (w : W48) : (x.setA n w).stretchRun = x.stretchRun := rfl
@[simp] theorem VatState.setA_runSinceRecover (x : VatState) (n : Nat) (w : W48) : (x.setA n w).runSinceRecover = x.runSinceRecover := rfl
@[simp] theorem VatState.setA_stretchLog (x : VatState) (n : Nat) (w : W48) : (x.setA n w).stretchLog = x.stretchLog := rfl

/-! ### `VatState.setV` -/

@[simp] theorem VatState.setV_sreg (x : VatState) (r : Nat) (l : List W32) : (x.setV r l).sreg = x.sreg := rfl
@[simp] theorem VatState.setV_areg (x : VatState) (r : Nat) (l : List W32) : (x.setV r l).areg = x.areg := rfl
@[simp] theorem VatState.setV_preg (x : VatState) (r : Nat) (l : List W32) : (x.setV r l).preg = x.preg := rfl
@[simp] theorem VatState.setV_pc (x : VatState) (r : Nat) (l : List W32) : (x.setV r l).pc = x.pc := rfl
@[simp] theorem VatState.setV_run (x : VatState) (r : Nat) (l : List W32) : (x.setV r l).run = x.run := rfl
@[simp] theorem VatState.setV_stopped (x : VatState) (r : Nat) (l : List W32) : (x.setV r l).stopped = x.stopped := rfl
@[simp] theorem VatState.setV_step (x : VatState) (r : Nat) (l : List W32) : (x.setV r l).step = x.step := rfl
@[simp] theorem VatState.setV_trel (x : VatState) (r : Nat) (l : List W32) : (x.setV r l).trel = x.trel := rfl
@[simp] theorem VatState.setV_lstat (x : VatState) (r : Nat) (l : List W32) : (x.setV r l).lstat = x.lstat := rfl
@[simp] theorem VatState.setV_cyc (x : VatState) (r : Nat) (l : List W32) : (x.setV r l).cyc = x.cyc := rfl
@[simp] theorem VatState.setV_cycHi (x : VatState) (r : Nat) (l : List W32) : (x.setV r l).cycHi = x.cycHi := rfl
@[simp] theorem VatState.setV_loops (x : VatState) (r : Nat) (l : List W32) : (x.setV r l).loops = x.loops := rfl
@[simp] theorem VatState.setV_nextAge (x : VatState) (r : Nat) (l : List W32) : (x.setV r l).nextAge = x.nextAge := rfl
@[simp] theorem VatState.setV_marks (x : VatState) (r : Nat) (l : List W32) : (x.setV r l).marks = x.marks := rfl
@[simp] theorem VatState.setV_events (x : VatState) (r : Nat) (l : List W32) : (x.setV r l).events = x.events := rfl
@[simp] theorem VatState.setV_syncq (x : VatState) (r : Nat) (l : List W32) : (x.setV r l).syncq = x.syncq := rfl
@[simp] theorem VatState.setV_results (x : VatState) (r : Nat) (l : List W32) : (x.setV r l).results = x.results := rfl
@[simp] theorem VatState.setV_stimes (x : VatState) (r : Nat) (l : List W32) : (x.setV r l).stimes = x.stimes := rfl
@[simp] theorem VatState.setV_notices (x : VatState) (r : Nat) (l : List W32) : (x.setV r l).notices = x.notices := rfl
@[simp] theorem VatState.setV_echoes (x : VatState) (r : Nat) (l : List W32) : (x.setV r l).echoes = x.echoes := rfl
@[simp] theorem VatState.setV_remote (x : VatState) (r : Nat) (l : List W32) : (x.setV r l).remote = x.remote := rfl
@[simp] theorem VatState.setV_queue (x : VatState) (r : Nat) (l : List W32) : (x.setV r l).queue = x.queue := rfl
@[simp] theorem VatState.setV_tokens (x : VatState) (r : Nat) (l : List W32) : (x.setV r l).tokens = x.tokens := rfl
@[simp] theorem VatState.setV_tiles (x : VatState) (r : Nat) (l : List W32) : (x.setV r l).tiles = x.tiles := rfl
@[simp] theorem VatState.setV_sides (x : VatState) (r : Nat) (l : List W32) : (x.setV r l).sides = x.sides := rfl
@[simp] theorem VatState.setV_tags (x : VatState) (r : Nat) (l : List W32) : (x.setV r l).tags = x.tags := rfl
@[simp] theorem VatState.setV_acc (x : VatState) (r : Nat) (l : List W32) : (x.setV r l).acc = x.acc := rfl
@[simp] theorem VatState.setV_banks (x : VatState) (r : Nat) (l : List W32) : (x.setV r l).banks = x.banks := rfl
@[simp] theorem VatState.setV_satCnt (x : VatState) (r : Nat) (l : List W32) : (x.setV r l).satCnt = x.satCnt := rfl
@[simp] theorem VatState.setV_nanSeen (x : VatState) (r : Nat) (l : List W32) : (x.setV r l).nanSeen = x.nanSeen := rfl
@[simp] theorem VatState.setV_slotGen (x : VatState) (r : Nat) (l : List W32) : (x.setV r l).slotGen = x.slotGen := rfl
@[simp] theorem VatState.setV_freq (x : VatState) (r : Nat) (l : List W32) : (x.setV r l).freq = x.freq := rfl
@[simp] theorem VatState.setV_temp (x : VatState) (r : Nat) (l : List W32) : (x.setV r l).temp = x.temp := rfl
@[simp] theorem VatState.setV_gated (x : VatState) (r : Nat) (l : List W32) : (x.setV r l).gated = x.gated := rfl
@[simp] theorem VatState.setV_stretches (x : VatState) (r : Nat) (l : List W32) : (x.setV r l).stretches = x.stretches := rfl
@[simp] theorem VatState.setV_stepdowns (x : VatState) (r : Nat) (l : List W32) : (x.setV r l).stepdowns = x.stepdowns := rfl
@[simp] theorem VatState.setV_stretchRun (x : VatState) (r : Nat) (l : List W32) : (x.setV r l).stretchRun = x.stretchRun := rfl
@[simp] theorem VatState.setV_runSinceRecover (x : VatState) (r : Nat) (l : List W32) : (x.setV r l).runSinceRecover = x.runSinceRecover := rfl
@[simp] theorem VatState.setV_stretchLog (x : VatState) (r : Nat) (l : List W32) : (x.setV r l).stretchLog = x.stretchLog := rfl

end Sys2Proof.Machine
end

