-- ==== Sys2Proof/Laws/Units.lean ====
section
/-! SUPPORT. Reading back a vat, a context or a port after it has been replaced. -/
namespace Sys2Proof.Machine
open Sys2Proof

/-- A read of the key just written gives the value, in any table, if the value is not the default. -/
theorem Tab.get_set_of_ne {α : Type} [DecidableEq α] {d : Nat → α} (t : List (Nat × α)) (k : Nat) (v : α) (h : v ≠ d k) :
    Tab.get d (Tab.set d t k v) k = v := by
  induction t with
  | nil => simp [Tab.set, h, Tab.get]
  | cons e t ih =>
    simp only [Tab.set]
    split
    · simp [Tab.get]
    · split
      · simp [Tab.get]
      · rw [Tab.get, if_neg (by omega), ih]

/-- The same in a table in canonical form, whatever the value. -/
theorem State.vat_setVat {s : State} (v : Nat) (x : VatState) (h : Tab.Wf (fun _ => VatState.reset) s.vats) : (s.setVat v x).vat v = x :=
  Tab.get_set_same _ _ _ h

theorem State.vat_setVat_of_ne (s : State) (v : Nat) (x : VatState) (h : x ≠ VatState.reset) : (s.setVat v x).vat v = x :=
  Tab.get_set_of_ne _ _ _ h

/-- A vat that runs its program is not the one reset leaves. -/
theorem VatState.ne_reset_of_issuing {x : VatState} (h : x.run = .issuing) : x ≠ VatState.reset := by
  intro e; rw [e] at h; exact absurd h (by decide)

theorem State.vat_setVat_other (s : State) {u v : Nat} (x : VatState) (h : u ≠ v) : (s.setVat v x).vat u = s.vat u :=
  Tab.get_set_other _ _ _ _ h

theorem State.ctx_setCtx {s : State} (c : Nat) (x : CtxState) (h : Tab.Wf (fun _ => CtxState.reset) s.ctxs) : (s.setCtx c x).ctx c = x :=
  Tab.get_set_same _ _ _ h

theorem State.ctx_setCtx_other (s : State) {c e : Nat} (x : CtxState) (h : e ≠ c) : (s.setCtx c x).ctx e = s.ctx e :=
  Tab.get_set_other _ _ _ _ h

theorem State.port_setPort {s : State} (p : Nat) (x : PortState) (h : Tab.Wf PortState.reset s.ports) : (s.setPort p x).port p = x :=
  Tab.get_set_same _ _ _ h

theorem State.port_setPort_of_ne (s : State) (p : Nat) (x : PortState) (h : x ≠ PortState.reset p) : (s.setPort p x).port p = x :=
  Tab.get_set_of_ne _ _ _ h

/-- A port that is not DOWN is not the one reset leaves. -/
theorem PortState.ne_reset_of_link {x : PortState} (p : Nat) (h : x.link ≠ .down) : x ≠ PortState.reset p := by
  intro e; rw [e] at h; exact absurd rfl h

theorem State.port_setPort_other (s : State) {p q : Nat} (x : PortState) (h : q ≠ p) : (s.setPort p x).port q = s.port q :=
  Tab.get_set_other _ _ _ _ h

/-- An object that was set reads as set. -/
theorem State.obj_setObj {s : State} (k v : Nat) (h : Tab.Wf objDefault s.objs) : (s.setObj k v).obj k = v := Tab.get_set_same _ _ _ h

theorem State.obj_setObj_other (s : State) {k j : Nat} (v : Nat) (h : j ≠ k) : (s.setObj k v).obj j = s.obj j := Tab.get_set_other _ _ _ _ h

/-- A meaning's answer keeps the queue of waiting commands. -/
theorem answer_pending (s t : State) : answer s t = .next { t with pending := s.pending } := rfl

end Sys2Proof.Machine
end

