-- ==== Sys2Proof/Tests/Slice0.lean ====
section
/-! SUPPORT. The model's own checks: well-formedness, one step on small states with values worked out by hand from the spec, and for every
statement with hypotheses a state and operands that meet each clause of it (`wit_…`). -/
namespace Sys2Proof.Tests
open Sys2Proof Sys2Proof.Machine

set_option Elab.async false

/-! ### Small states and words -/

/-- A word of formats S, I and C: DST, SA, SB, FN, IMM (05 R167, R168). -/
def wS (dst sa sb fn imm : Nat) : Word56 := BitVec.ofNat 56 (dst * 2 ^ 47 + sa * 2 ^ 42 + sb * 2 ^ 37 + fn * 2 ^ 32 + imm)

/-- Vat 0 runs a program at address 0. -/
def issuing : State := State.reset.setVat 0 { VatState.reset with run := .issuing }

/-- The same with a change of the vat. -/
def vat0 (f : VatState → VatState) : State := State.reset.setVat 0 (f { VatState.reset with run := .issuing })

/-- Context 0 runs a job to which vat 0 is assigned. -/
def job (f : CtxState → CtxState) (s : State) : State :=
  (s.setCtx 0 (f { CtxState.reset with job := .running, sync := .live })).setDom (Obj.vatAssign 0) 0 [1]

/-- A change of context 0. -/
def ctx0 (f : CtxState → CtxState) : State := State.reset.setCtx 0 (f CtxState.reset)

/-- A change of a port. -/
def portIs (p : Nat) (f : PortState → PortState) : State := State.reset.setPort p (f (PortState.reset p))

/-- The module with its MP running firmware, which serves the dictionary's MP objects. -/
def served : State := { State.reset with boot := { State.reset.boot with mp := .running } }

/-! ### Witnesses: vats -/

theorem wit_AluRegisterResults : Ready issuing 0 (wS 1 2 3 0 0) ⟨[1, 2, 3], [], []⟩ ∧ Ready issuing 0 (wS 0 31 0 0 0) ⟨[0, 31, 0], [], []⟩ ∧
    fDst (wS 0 31 0 0 0) = 0 ∧ fSa (wS 0 31 0 0 0) = 31 ∧ fFn (wS 1 2 3 0 0) = 0 ∧ fImm (wS 1 2 3 0 0) = 0 := by
  unfold Ready; decide +kernel

theorem wit_AluImmediateResults : Ready issuing 0 (wS 1 2 0 0 31) ⟨[1, 2], [], []⟩ ∧ fSb (wS 1 2 0 0 31) = 0 ∧ fFn (wS 1 2 0 0 31) = 0 ∧
    fImm (wS 1 2 0 0 31) = 31 ∧ Ready issuing 0 (wS 1 2 0 0 32) ⟨[1, 2], [], []⟩ ∧ 32 ≤ fImm (wS 1 2 0 0 32) ∧ Ready issuing 0 (wS 1 0 0 0 0xFFFFFFFF) ⟨[1, 0], [], []⟩ ∧ fSa (wS 1 0 0 0 0xFFFFFFFF) = 0 := by
  unfold Ready; decide +kernel

theorem wit_ConditionCodes : (issuing.vat 0).canIssue = true ∧ (issuing.vat 0).pc.toNat < vatSize ∧ fDst (wS 7 1 2 7 0) < 8 ∧ 7 ≤ fFn (wS 7 1 2 7 0) ∧
    fImm (wS 7 1 2 7 0) = 0 ∧ fSb (wS 7 1 0 31 9) = 0 ∧ 7 ≤ fFn (wS 7 1 0 31 9) := by
  decide +kernel

theorem wit_PredicateResults : let w := wS 7 1 2 6 0
    fDst w < 8 ∧ Ready issuing 0 w ⟨[fSa w, fSb w], [], []⟩ ∧ fImm w = 0 ∧ fFn w = 6 ∧ Ready issuing 0 (wS 0 1 0 6 5) ⟨[1], [], []⟩ ∧
    fSb (wS 0 1 0 6 5) = 0 ∧ Ready issuing 0 (wS 7 7 7 15 0) ⟨[], [], []⟩ ∧ fFn (wS 7 7 7 15 0) < 16 ∧ fSa (wS 7 7 7 15 0) < 8 := by
  unfold Ready; decide +kernel

theorem wit_AddressResults : let w := wS 15 15 31 0 0
    fFn w = 0 ∧ Ready issuing 0 w ⟨[fSb w], [fDst w, fSa w], []⟩ ∧ fImm w = 0 ∧ fDst w < 16 ∧ fSa w < 16 ∧
    Ready issuing 0 (wS 15 15 0 0 0) ⟨[], [15, 15], []⟩ ∧ Ready issuing 0 (wS 31 15 0 0 0) ⟨[31], [15], []⟩ ∧
    Ready issuing 0 (wS 15 0 0 0 1) ⟨[], [15], []⟩ ∧ Ready issuing 0 (wS 15 15 0 0 0xFFFF) ⟨[], [15, 15], []⟩ ∧ fImm (wS 15 15 0 0 0xFFFF) < 2 ^ 16 := by
  unfold Ready; decide +kernel

theorem wit_NopHaltAndPredicate : Ready issuing 0 (wS 0 0 0 0 0) ⟨[], [], []⟩ ∧ (issuing.vat 0).queue = [] ∧
    (issuing.vat 0).pred (wS 1 0 0 0 0 ||| BitVec.ofNat 56 (2 ^ 52)) = false ∧ (issuing.vat 0).canIssue = true ∧ (issuing.vat 0).loops = [] ∧
    Ready (vat0 (fun x => { x with queue := [⟨.array, ⟨0x60, 0, 0, 0, 0, 0, 0, 0, 0⟩, 0, 0, true⟩] })) 0 (wS 0 0 0 0 0) ⟨[], [], []⟩ ∧
    (issuing.vat 0).pred (BitVec.ofNat 56 (2 ^ 52)) = false ∧ fDst (BitVec.ofNat 56 (2 ^ 52)) = 0 ∧ fImm (BitVec.ofNat 56 (2 ^ 52)) = 0 := by
  unfold Ready; decide +kernel

theorem wit_BranchResults : let w := wS 15 0 0 0 1
    fSb w = 0 ∧ fFn w = 0 ∧ Ready issuing 0 (wS 0 0 0 0 1) ⟨[], [], []⟩ ∧ Ready issuing 0 w ⟨[], [fDst w], []⟩ ∧ fDst w < 16 ∧
    Ready issuing 0 (wS 0 15 0 0 1) ⟨[], [15], []⟩ ∧ fSa (wS 0 15 0 0 1) = 15 ∧
    (let t := (issuing.vat 0).pc + 8 * (BitVec.ofNat 32 (fImm w)).signExtend 48; t.toNat < vatSize ∧ t.toNat % 8 = 0) ∧
    (let t := (issuing.vat 0).a 15 + 8 * (BitVec.ofNat 32 1).signExtend 48; t.toNat < vatSize ∧ t.toNat % 8 = 0) ∧
    (let u := wS 15 0 0 0 0x80000000; Ready issuing 0 (wS 0 0 0 0 0x80000000) ⟨[], [], []⟩ ∧ Ready issuing 0 u ⟨[], [fDst u], []⟩ ∧
      ¬ ((issuing.vat 0).pc + 8 * (BitVec.ofNat 32 (fImm u)).signExtend 48).toNat < vatSize) ∧
    (let s := vat0 (fun x => x.setA 15 4); Ready s 0 (wS 0 15 0 0 1) ⟨[], [15], []⟩ ∧
      ((s.vat 0).a 15 + 8 * (BitVec.ofNat 32 1).signExtend 48).toNat % 8 ≠ 0) := by
  unfold Ready; decide +kernel

theorem wit_LoopResults : let w := wS 0 1 0 0 65535
    let two := vat0 (fun x => x.setS 1 2)
    let full := vat0 (fun x => { x.setS 1 2 with loops := List.replicate 4 ⟨0, 16, 2, 0⟩ })
    Ready issuing 0 w ⟨[fSa w], [], []⟩ ∧ fDst w = 0 ∧ fSb w = 0 ∧ fFn w = 0 ∧ 0 < fImm w ∧ fImm w < 65536 ∧ (issuing.vat 0).s (fSa w) = 0 ∧
    Ready two 0 w ⟨[fSa w], [], []⟩ ∧ (two.vat 0).s (fSa w) ≠ 0 ∧ (two.vat 0).loops.length < 4 ∧
    Ready full 0 w ⟨[fSa w], [], []⟩ ∧ (full.vat 0).s (fSa w) ≠ 0 ∧ (full.vat 0).loops.length = 4 := by
  unfold Ready; decide +kernel

theorem wit_PreciseFaults : (issuing.vat 0).canIssue = true ∧ (issuing.vat 0).pc.toNat < vatSize ∧ undefinedOp ((0xFF00000000000000#64).toNat / 2 ^ 56) = true ∧
    fImm (wS 1 2 3 0 1) ≠ 0 ∧ Ready issuing 0 (wS 1 2 0 0 0x200000) ⟨[1], [2], []⟩ := by
  unfold Ready; decide +kernel

theorem wit_PreciseFaults_bounds : let x := issuing.vat 0
    let ea := fun (i : Nat) => (x.a (fSa (wS 15 2 0 0 i)) + (BitVec.ofNat 32 (fImm (wS 15 2 0 0 i))).signExtend 48).toNat
    let va := fun (x : VatState) (w : Word56) => (x.a (vAr w) + 64 * (BitVec.ofNat 16 (vImm w)).signExtend 48).toNat
    let y := vat0 (fun x => x.setA 0 1)
    vatSize ≤ ea 0x200000 ∧ ea 0x1FFFFE % 4 ≠ 0 ∧ ea 0x1FFFFC % 8 ≠ 0 ∧ Ready issuing 0 (wS 15 2 0 0 0x1FFFFE) ⟨[15], [2], []⟩ ∧
    Ready issuing 0 (wS 15 2 0 0 0x1FFFFC) ⟨[], [15, 2], []⟩ ∧ fDst (wS 15 2 0 0 0) = 15 ∧ fSa (wS 15 2 0 0 0) = 2 ∧
    (let w := wS 31 0 0 0 0x7FFD; Ready issuing 0 w ⟨[], [vAr w], [31]⟩ ∧ 0x1FFF00 < va x w) ∧
    (let w := wS 31 0 0 0 0; Ready y 0 w ⟨[], [vAr w], [31]⟩ ∧ va (y.vat 0) w % 64 ≠ 0) := by
  unfold Ready; decide +kernel

theorem wit_SpecialRegisterResults :
    (∀ i ∈ [0, 1, 4, 5, 6, 7, 8, 9, 10, 11, 12, 15, 16, 19, 20, 23, 24, 255],
      Ready issuing 0 (wS 1 0 0 0 i) ⟨[1], [], []⟩ ∧ fImm (wS 1 0 0 0 i) = i) ∧ (issuing.vat 0).pendLstat = false ∧
    (∀ i ∈ [2, 3], Ready (job id issuing) 0 (wS 1 0 0 0 i) ⟨[1], [], []⟩ ∧ fImm (wS 1 0 0 0 i) = i) ∧
    Ready issuing 0 (wS 0 1 2 0 0xFFFF) ⟨[1, 2], [], []⟩ ∧ (issuing.vat 0).events.length < 8 ∧
    Ready (job id issuing) 0 (wS 15 0 0 0 0) ⟨[], [15], []⟩ ∧ (job id issuing).vatCtx 0 = some 0 ∧
    ((vat0 (fun x => { x with stimes := [(15, 7)] })).vat 0).stimes = [(15, 7)] ∧
    Ready issuing 0 (BitVec.ofNat 56 (2 ^ 25)) ⟨[mSd (BitVec.ofNat 56 (2 ^ 25))], [], []⟩ ∧ pAd (BitVec.ofNat 56 (2 ^ 25)) = 0 ∧
    mSb (BitVec.ofNat 56 (2 ^ 25)) = 0 ∧ xPol (BitVec.ofNat 56 (2 ^ 25)) = false ∧ pImm (BitVec.ofNat 56 (2 ^ 25)) = 0 := by
  unfold Ready; decide +kernel

theorem wit_TickWaitAndPailReady :
    let s := job (fun c => { c with stime := 100, executed := true }) (vat0 (fun x => x.setA 1 101))
    let past := job (fun c => { c with stime := 100, executed := true }) (vat0 (fun x => { x with run := .tickWait 100 }))
    let page := (job id issuing).setDom (Obj.pailPages 0) 0 [1]
    let mark := fun q => vat0 (fun x => { x with marks := [⟨false, 0, 1, 3⟩], queue := q })
    let xcopy : QEntry := ⟨.transfer, ⟨0xC0, BitVec.ofNat 56 (2 ^ 22), 0, 0, 0, 64, 0, 0, 0⟩, 0, 0, true⟩
    s.vatCtx 0 = some 0 ∧ Ready s 0 (wS 0 1 0 0 0) ⟨[], [1], []⟩ ∧ (s.ctx 0).reached 101 = false ∧ (s.ctx 0).stale 101 = false ∧
    past.vatCtx 0 = some 0 ∧ (past.vat 0).run = .tickWait 100 ∧ (past.ctx 0).reached 100 = true ∧ (past.vat 0).gated = false ∧
    page.vatCtx 0 = some 0 ∧ Ready page 0 (wS 0 0 0 0 0) ⟨[0, 0], [], []⟩ ∧ page.pageKind 0 0 = 1 ∧ (page.vat 0).marks.length < 4 ∧
    (job id (mark [])).vatCtx 0 = some 0 ∧ ((mark []).vat 0).olderPailWrite 3 = false ∧ ((mark [xcopy]).vat 0).olderPailWrite 3 = true := by
  unfold Ready; decide +kernel

theorem wit_LoadStoreResults : let w := wS 1 2 0 0 4
    Ready issuing 0 w ⟨[fDst w], [fSa w], []⟩ ∧ issuing.memWaits 0 [ownRegion 0 4 4] [] = false ∧ issuing.memWaits 0 [] [ownRegion 0 4 4] = false ∧
    Ready issuing 0 (wS 15 15 0 0 8) ⟨[], [15, 15], []⟩ ∧ issuing.memWaits 0 [ownRegion 0 0x1FFFF8 8] [] = false ∧
    issuing.memWaits 0 [] [ownRegion 0 0x1FFFF8 8] = false ∧
    Ready issuing 0 (wS 31 0 0 0 0) ⟨[], [vAr (wS 31 0 0 0 0)], [31]⟩ ∧
    (let va := ((issuing.vat 0).a 0 + 64 * (BitVec.ofNat 16 (vImm (wS 31 0 0 0 0x7FFC))).signExtend 48).toNat; va = 0x1FFF00 ∧ va % 64 = 0) ∧
    issuing.memWaits 0 [ownRegion 0 0x1FFF00 256] [] = false ∧ issuing.memWaits 0 [] [ownRegion 0 0x1FFF00 256] = false := by
  unfold Ready; decide +kernel

theorem wit_StoreFrame : let w := wS 1 2 0 0 0x1FFFFC
    Ready issuing 0 w ⟨[fDst w], [fSa w], []⟩ ∧ ((issuing.vat 0).base 2 w).toNat = 0x1FFFFC ∧
    issuing.memWaits 0 [] [ownRegion 0 0x1FFFFC 4] = false ∧ issuing.memWaits 0 [ownRegion 0 0x1FFFFC 4] [] = false := by
  unfold Ready; decide +kernel

/-- VD, VA, VB, VC, TY, SR, AR, FN and IMM16 of format V (06 R230). -/
def wV (vd va vb vc ty sr ar fn imm : Nat) : Word56 :=
  wS vd va vb vc (ty * 2 ^ 30 + sr * 2 ^ 25 + ar * 2 ^ 21 + fn * 2 ^ 16 + imm)

theorem wit_VectorLaneResults :
    let ok := fun (w : Word56) => fFn w = 0 ∧ mSd w = 0 ∧ vAr w = 0 ∧ vImm w = 0 ∧ Ready issuing 0 w ⟨[], [], [fDst w, fSa w, fSb w]⟩
    (let w := wV 31 1 2 0 0 0 0 0 0; ok w ∧ vTy w = 0 ∧ vFn w = 0) ∧ (let w := wV 31 1 2 0 2 0 0 0 0; ok w ∧ vTy w = 2 ∧ vFn w = 0) ∧
    (let w := wV 0 0 0 0 1 0 0 3 0; ok w ∧ vTy w = 1 ∧ vFn w = 3) ∧ (let w := wV 1 2 3 0 2 0 0 5 0; ok w ∧ vTy w = 2 ∧ vFn w = 5) := by
  unfold Ready; decide +kernel

theorem wit_VectorOtherResults : (∀ ty ∈ [0, 1, 2], let w := wV 1 2 3 4 ty 0 0 0 0
      vAr w = 0 ∧ mSd w = 0 ∧ vFn w = 0 ∧ vImm w = 0 ∧ vTy w = ty ∧ Ready issuing 0 w ⟨[], [], [fDst w, fSa w, fSb w, fFn w]⟩) ∧
    (∀ fn ∈ [0, 2, 4, 5], let w := wV 1 2 0 0 0 0 0 fn 0
      fSb w = 0 ∧ fFn w = 0 ∧ mSd w = 0 ∧ vImm w = 0 ∧ vTy w = 0 ∧ vFn w = fn ∧ Ready issuing 0 w ⟨[], [], [fDst w, fSa w]⟩) ∧
    (let w := wV 1 0 0 0 0 5 0 0 0; Ready issuing 0 w ⟨[mSd w], [], [fDst w]⟩ ∧ fSa w = 0 ∧ vTy w = 0) ∧
    (let w := wV 0 3 0 0 0 5 0 0 63; Ready issuing 0 w ⟨[mSd w], [], [fSa w]⟩ ∧ fDst w = 0 ∧ fSb w = 0 ∧ vImm w = 63) := by
  unfold Ready; decide +kernel

theorem wit_LaneArithmetic : FP.read fp32 (0x7F800001#32).toNat = .nan ∧ FP.read fp32 (0xFFFFFFFF#32).toNat = .nan := by decide +kernel

theorem wit_SyncSends : (issuing.vat 0).posted < 16 ∧ Ready issuing 0 (wS 0 1 2 0 4095) ⟨[1, 2], [], []⟩ ∧ fImm (wS 0 1 2 0 4095) = 4095 ∧
    (let w := wS 0 1 0 1 0xFFFFFFFF; fFn w = 1 ∧ fSb w = 0 ∧ Ready issuing 0 w ⟨[fSa w, fSb w], [], []⟩) ∧
    Ready issuing 0 (wS 0 1 0 0 0) ⟨[1], [], []⟩ ∧ Ready issuing 0 (wS 3 1 0 0 4095) ⟨[3, 1], [], []⟩ ∧
    (let w := wS 3 1 2 2 0xF000; Ready issuing 0 w ⟨[fDst w, fSa w, fSb w], [], []⟩ ∧ fFn w < 3 ∧ fImm w < 65536 ∧ 8 ≤ fImm w / 4096) := by
  unfold Ready; decide +kernel

theorem wit_SyncWaitsAndAnswers : (issuing.vat 0).pendLstat = false ∧
    (let w := wS 3 1 2 1 4095; Ready issuing 0 w ⟨[fDst w, fSa w, fSb w], [], []⟩ ∧ fFn w < 2 ∧ fImm w < 4096) ∧
    (let s := vat0 (fun x => x.setS 2 5); let w := wS 3 1 2 0 4095; Ready s 0 w ⟨[fDst w, fSa w, fSb w], [], []⟩ ∧ (s.vat 0).s (fSb w) ≠ 0) ∧
    (issuing.vat 0).s (fSb (wS 3 1 2 0 0)) = 0 ∧ Ready issuing 0 (wS 0 1 0 0 0) ⟨[1], [], []⟩ ∧
    ((vat0 (fun x => { x with results := [⟨3, 9, none⟩] })).vat 0).results = [⟨3, 9, none⟩] ∧
    (let s := vat0 (fun x => { x with notices := [⟨9, 0⟩], run := .syncWait 3 }); (s.vat 0).notices = [⟨9, 0⟩] ∧ (s.vat 0).gated = false ∧
      (s.vat 0).run = .syncWait 3) ∧
    (let s := vat0 (fun x => { x with notices := [⟨9, 0⟩], run := .barrierWait }); (s.vat 0).notices = [⟨9, 0⟩] ∧ (s.vat 0).run = .barrierWait) ∧
    ((vat0 (fun x => { x with echoes := [.read 3] })).vat 0).echoes = [.read 3] ∧ ((vat0 (fun x => { x with echoes := [.none] })).vat 0).echoes = [.none] := by
  unfold Ready; decide +kernel

/-! ### Witnesses: engines, islands, time -/

/-- TCLS, POL, WB, SA, SB, SD, FA, FB, SPK, KQ and IMM12 of format M (06 R218). -/
def wM (tcls pol wb sa sb sd fa fb spk kq imm : Nat) : Word56 :=
  BitVec.ofNat 56 (tcls * 2 ^ 50 + pol * 2 ^ 49 + wb * 2 ^ 46 + sa * 2 ^ 35 + sb * 2 ^ 30 + sd * 2 ^ 25 + fa * 2 ^ 21 + fb * 2 ^ 17 + spk * 2 ^ 15 +
    kq * 2 ^ 12 + imm)

/-- AD, AA, AB, SA, SB, SD and bits 24:0 of formats P and X (06 R237, R242). -/
def wP (ad aa ab sa sb sd rest : Nat) : Word56 :=
  BitVec.ofNat 56 (ad * 2 ^ 48 + aa * 2 ^ 44 + ab * 2 ^ 40 + sa * 2 ^ 35 + sb * 2 ^ 30 + sd * 2 ^ 25 + rest)

theorem wit_ArrayIssue : roomFor issuing 0 .array 2 ∧ roomFor issuing 0 .loader 2 ∧
    (let w := wM 0 0 3 0 0 0 0 0 0 0 1023; Ready issuing 0 w ⟨[], [], []⟩ ∧ mImm w < 1024 ∧
      AllZero [mTcls w, b2n (mPol w), b2n (mHalf w), mTa w, mTb w, mSa w, mSb w, mSd w, mFa w, mFb w, mSpk w, fld w.toNat 12 3]) ∧
    (let w := wM 3 0 0 0 0 0 1 1 0 3 0; Ready issuing 0 w ⟨[], [], []⟩ ∧ AllZero [mSa w, mSb w, mSd w, mImm w] ∧ mFa w ≤ 11 ∧ mFb w ≤ 11 ∧
      mSpk w ≠ 3 ∧ (macs (mFa w) (mFb w)).isSome = true ∧ mFb w ≠ 11 ∧ kFits (mFa w) (mFb w) (mSpk w) (mK w) = true ∧ mmaClass w ≤ mTcls w) ∧
    (let w := wM 0 0 1 15 0 0 0 0 0 0 3; Ready issuing 0 w ⟨[], [mSa w], []⟩ ∧ mSa w < 16 ∧ mImm w < 4 ∧ ((issuing.vat 0).a (mSa w)).toNat % 64 = 0 ∧
      ((issuing.vat 0).a (mSa w)).toNat + partialSize (bitOf (mImm w) 0) (bitOf (mImm w) 1) ≤ vatSize ∧
      AllZero [b2n (mPol w), b2n (mHalf w), mTa w, mTb w, mSb w, mSd w, mFa w, mFb w, mSpk w, fld w.toNat 12 3]) ∧
    (let w := wM 0 1 1 15 29 0 0 0 0 0 3; Ready issuing 0 w ⟨[mSb w, mSb w + 1, mSb w + 2], [mSa w], []⟩ ∧ mSa w < 16 ∧ mSb w = 29 ∧ mImm w < 4 ∧
      AllZero [b2n (mHalf w), mTa w, mTb w, mSd w, mFa w, mFb w, mSpk w, fld w.toNat 12 3]) ∧
    (let w := wM 0 1 1 0 0 31 0 0 0 0 63; Ready issuing 0 w ⟨[], [], [mSd w]⟩ ∧ mImm w < 64 ∧
      AllZero [b2n (mHalf w), mTa w, mTb w, mSa w, mSb w, mFa w, mFb w, mSpk w, fld w.toNat 12 3]) ∧
    (let w := wM 0 0 1 0 0 31 0 0 0 0 1; Ready issuing 0 w ⟨[mSd w], [], []⟩ ∧ mImm w < 2 ∧
      AllZero [b2n (mPol w), b2n (mHalf w), mTa w, mTb w, mSa w, mSb w, mFa w, mFb w, mSpk w, fld w.toNat 12 3]) ∧
    (let w := wM 0 0 0 15 31 0 0 0 0 0 0; Ready issuing 0 w ⟨[mSb w], [mSa w], []⟩ ∧ mSa w < 16 ∧
      AllZero [mTcls w, b2n (mPol w), b2n (mHalf w), mWb w, mTb w, mSd w, mFa w, mFb w, mSpk w, mImm w]) := by
  unfold Ready AllZero roomFor; decide +kernel

/-- Vat 0 with A1 = 0, A2 = 4096, A6 in the last 8 bytes of vat SRAM, and S3 = S4 = 64, S6 = 4096. -/
def moving : State := vat0 (fun x => { (x.setA 2 4096).setA 6 0x1FFFF8 with sreg := [(3, 64), (4, 64), (6, 4096)] })

theorem wit_SparseAndTransferIssue_sparse : let s := moving
    let a := fun (w : Word56) => ((s.vat 0).a (pAa w)).toNat
    let d := fun (w : Word56) => ((s.vat 0).a (pAd w)).toNat
    let b := fun (w : Word56) => ((s.vat 0).a (pAb w)).toNat
    let fits := fun (a n : Nat) => a + max n 1 ≤ vatSize
    roomFor s 0 .sparse 2 ∧
    (let w := wP 1 2 0 6 0 0 0; pFn w = 0 ∧ Ready s 0 w ⟨[mSa w, mSb w, mSd w], [pAd w, pAa w], []⟩ ∧ AllZero [pAb w, mSb w, pImm w] ∧
      ((s.vat 0).s (mSa w)).toNat = 4096 ∧ a w % 8 = 0 ∧ d w % 8 = 0 ∧ fits (a w) (8 * 4096) ∧ fits (d w) (8 + actBitmap 4096)) ∧
    (let w := wP 6 6 0 0 0 5 0; Ready s 0 w ⟨[mSa w, mSb w, mSd w], [pAd w, pAa w], []⟩ ∧ AllZero [pAb w, mSa w, mSb w, pImm w] ∧
      a w % 8 = 0 ∧ fits (a w) 8 ∧ fits (d w) 8) ∧
    (let w := wP 1 2 0 3 4 5 32; Ready s 0 w ⟨[mSa w, mSb w, mSd w], [pAd w, pAa w], []⟩ ∧ AllZero [pAb w] ∧ pImm w < 512 ∧ topkTf w ≠ 3 ∧
      topkK w = 32 ∧ ((s.vat 0).s (mSa w)).toNat = 64 ∧ fits (a w) (64 * 64 * topkSize w) ∧ fits (d w) (8 * topkK w * 64)) ∧
    (let w := wP 1 2 5 3 4 0 0; Ready s 0 w ⟨[mSa w, mSb w, mSd w], [pAd w, pAa w, pAb w], []⟩ ∧ AllZero [mSd w, pImm w] ∧ (s.vat 0).s (mSb w) = 64 ∧
      fits (b w) (4 * 64) ∧ fits (a w) 0 ∧ fits (d w) (64 * 64) ∧ fits (d w) 0 ∧ fits (a w) (64 * 64)) ∧
    (let w := wP 1 6 5 0 0 5 0; Ready s 0 w ⟨[mSa w, mSb w, mSd w], [pAd w, pAa w, pAb w], []⟩ ∧ AllZero [mSa w, mSb w, pImm w] ∧
      b w % 64 = 0 ∧ fits (b w) 64 ∧ fits (a w) 0 ∧ fits (d w) 0) := by
  unfold Ready AllZero roomFor; decide +kernel

theorem wit_SparseAndTransferIssue_transfer : let s := moving
    let a := fun (w : Word56) => ((s.vat 0).a (pAa w)).toNat
    let d := fun (w : Word56) => ((s.vat 0).a (pAd w)).toNat
    let n := fun (w : Word56) => ((s.vat 0).s (mSa w)).toNat
    let fits := fun (space a n : Nat) => a + max n 1 ≤ if space = 1 then pailSize else vatSize
    roomFor s 0 .transfer 8 ∧
    (let w := wP 1 2 0 3 4 0 (1 * 2 ^ 20); pImm w = 0 ∧ Ready s 0 w ⟨[mSa w, mSb w, mSd w], [pAd w, pAa w], []⟩ ∧ AllZero [pAb w, mSd w, b2n (xPol w)] ∧
      xSrc w = 1 ∧ xDst w = 0 ∧ n w = 64 ∧ a w = 4096 ∧ d w = 0 ∧ fits 1 (a w) 64 ∧ fits 0 (d w) 64 ∧
      placeIn 0 (xSrc w) (a w) 64 = some 4096 ∧ placeIn 0 (xDst w) (d w) 64 = some (vatBase 0) ∧ 4096 + 64 ≤ vatBase 0) ∧
    (let w := wP 1 6 0 0 0 5 0; Ready s 0 w ⟨[mSa w, mSb w, mSd w], [pAd w, pAa w], []⟩ ∧ AllZero [pAb w, mSb w, b2n (xPol w), xSrc w, xDst w] ∧
      fits 0 (d w) (512 * n w)) ∧
    (let w := wP 1 2 0 3 0 0 (1 * 2 ^ 20); Ready s 0 w ⟨[mSa w, mSb w, mSd w], [pAd w, pAa w], []⟩ ∧ AllZero [pAb w, mSb w, mSd w, xDst w] ∧ xSrc w < 2 ∧
      a w % 16 = 0 ∧ fits 1 (a w) (16 * n w) ∧ fits 0 (d w) (16 * n w)) ∧
    (let w := wP 1 0 0 3 4 0 (1 * 2 ^ 22); Ready s 0 w ⟨[mSa w, mSb w, mSd w], [pAd w], []⟩ ∧ AllZero [pAa w, pAb w, mSd w, b2n (xPol w), xSrc w] ∧
      xDst w = 1 ∧ n w = 64 ∧ fits 1 (d w) 64) ∧
    (let w := wP 1 2 5 0 3 0 0; Ready s 0 w ⟨[mSa w, mSb w, mSd w], [pAd w, pAa w, pAb w], []⟩ ∧ AllZero [mSa w, mSd w, b2n (xPol w), xSrc w] ∧
      xDst w < 2 ∧ a w % 64 = 0 ∧ fits 0 (a w) 256 ∧ fits 0 ((s.vat 0).a (pAb w)).toNat 0 ∧ fits (xDst w) (d w) 256) := by
  unfold Ready AllZero roomFor; decide +kernel

/-- An entry of the sparse engine, and an array instruction of token class 1. -/
def sparseEntry (begun : Bool) : QEntry := ⟨.sparse, ⟨0xA1, 0, 0, 0, 0, 0, 0, 0, 0⟩, 0, 0, begun⟩
def arrayEntry (begun : Bool) : QEntry := ⟨.array, ⟨0x61, wM 1 0 0 0 0 0 0 0 0 0 0, 0, 0, 0, 0, 0, 0, 0⟩, 0, 0, begun⟩

theorem wit_EngineProgress :
    (let s := vat0 (fun x => { x with queue := [sparseEntry true] }); (s.vat 0).headOf .sparse = some (sparseEntry true) ∧ (s.vat 0).gated = false) ∧
    (let s := vat0 (fun x => { x with queue := [arrayEntry true] }); (s.vat 0).headOf .array = some (arrayEntry true) ∧ (s.vat 0).gated = false ∧
      (∀ y ∈ (s.vat 0).queue, y.eng = .array → y.age = (arrayEntry true).age)) ∧
    (let s := fun (n : Nat) => job (fun c => { c with ceil0 := n }) (vat0 (fun x => { x with queue := [arrayEntry false] }))
     (s 640).readyHead 0 .array = some (arrayEntry false) ∧ (s 640).vatCtx 0 = some 0 ∧ ((s 640).vat 0).tokens < tokenWeight (arrayEntry false).tcls ∧
       (s 640).tokensHeld 0 0 + tokenWeight (arrayEntry false).tcls ≤ (s 640).tokenCeiling 0 0 ∧
       (s 0).tokenCeiling 0 0 < (s 0).tokensHeld 0 0 + tokenWeight (arrayEntry false).tcls) := by
  decide +kernel

theorem wit_EngineEffects : let o := fun (w : Word56) (a1 : W48) => (⟨0xC0, w, 0, a1, 0, 64, 0, 0, 0⟩ : EngineOp)
    mImm (o (wM 0 0 0 0 0 1 0 0 0 0 0) 0).w = 0 ∧ mImm (o (wM 0 0 0 0 0 1 0 0 0 0 1) 0).w = 1 ∧ xDst (o 0 0).w = 0 ∧ xSrc (o 0 0).w = 0 ∧
    vatBase 0 + (o 0 0).a0.toNat + (o 0 64).s0.toNat ≤ vatBase 0 + (o 0 64).a1.toNat ∧ (o 0 63).a1.toNat < (o 0 63).a0.toNat + 64 := by
  decide +kernel

theorem wit_IslandResults :
    (if false then ((issuing.vat 0).stretchRun + 1) else 1) < max 1 (issuing.obj Obj.stretchRun) ∧
    (let s := vat0 (fun x => { x with freq := 1600 }) |>.setObj Obj.clockMode 1
     s.obj Obj.clockMode = 1 ∧ (s.vat 0).runSinceRecover = false ∧ (s.vat 0).freq < s.thermalCeiling 0) ∧
    (let s := vat0 (fun x => { x with runSinceRecover := true }) |>.setObj Obj.clockMode 1; s.obj Obj.clockMode = 1 ∧ (s.vat 0).runSinceRecover = true) ∧
    (issuing.setObj Obj.clockMode 0).obj Obj.clockMode ≠ 1 ∧
    (let s := job (fun c => { c with hold := some ⟨0, 64, false, true, 1, 0, 1, 0, false⟩ }) issuing
     s.vatCtx 0 = some 0 ∧ s.gatePending 0 = true ∧ (s.vat 0).queue.any (fun q => q.begun) = false ∧ (s.vat 0).gated = false) ∧
    issuing.gatePending 0 = false := by
  decide +kernel

theorem wit_TimeAndCompareResults :
    (let s : State := { State.reset with times := { State.reset.times with ftime := 100 } }
     let u : Compare := { (s.cmp 0) with ctrl := BitVec.ofNat 32 (2 ^ 31 + 2 ^ 29), armed := true, target := 100 }
     let s := s.setCmp 0 u
     (s.cmp 0).en = true ∧ (s.cmp 0).armed = true ∧ (s.cmp 0).mode = 0 ∧ (s.cmp 0).base = 1 ∧ s.cmpReached (s.cmp 0) = true ∧
       (s.cmp 0).target.toNat ≤ s.times.ftime.toNat ∧ s.times.ftime.toNat < (s.cmp 0).target.toNat + 2 ^ 63 ∧ (s.cmp 0).pulse = false ∧
       (s.cmp 0).event = false ∧ (s.cmp 0).launch = false) ∧
    (let s : State := { State.reset with times := { State.reset.times with ftime := 100 } }
     let u : Compare := { (s.cmp 0) with ctrl := BitVec.ofNat 32 (2 ^ 31 + 2 ^ 29 + 2 ^ 23 + 2 ^ 22 + 2 ^ 21 + 2 ^ 20), armed := true, target := 70, period := 16 }
     let s := s.setCmp 15 u
     (s.cmp 15).en = true ∧ (s.cmp 15).armed = true ∧ (s.cmp 15).mode = 1 ∧ s.cmpReached (s.cmp 15) = true ∧ (s.cmp 15).pulse = true ∧
       (s.cmp 15).event = true ∧ (s.cmp 15).launch = true ∧ (s.cmp 15).period.toNat % 2 ^ (s.cmp 15).width = 16 ∧
       ((s.cmp 15).advance 100).target = 102 ∧ ((s.cmp 15).advance 100).missed = 1) ∧
    State.reset.cmpReached (State.reset.cmp 3) = false ∧ (State.reset.cmp 3).en = false ∧ (State.reset.cmp 3).armed = false ∧
    ({ State.reset with times := { State.reset.times with pulses := [⟨3, true, 2⟩] } } : State).times.pulses.find? (fun e => e.pin == (3 : Fin 4).val) = some ⟨3, true, 2⟩ ∧
    (2 : Nat) ≤ 4 * State.reset.times.grid + 3 ∧ 4 * State.reset.times.grid + 3 < 9 ∧
    ({ State.reset with power := { State.reset.power with off := true } } : State).dark = true ∧ served.dark = false ∧ (served.cmp 0).event = false ∧
    (0x00000F01#32).getLsbD 0 = true ∧ (0x00000F00#32).getLsbD 0 = false := by
  decide +kernel

theorem wit_GridTickResults : ({ served with power := { served.power with off := true } } : State).power.off = true ∧
    (let s : State := { served with power := { served.power with off := false, saved := true } }; s.power.off = false ∧ s.dark = true) ∧
    (let s : State := { served with power := { served.power with off := false } }; s.power.off = false ∧ s.dark = false ∧ s.times.hrate = 0 ∧
      s.times.hfrac < 100 * 2 ^ 32) := by
  decide +kernel

/-! ### Witnesses: holds, launch, tables -/

theorem wit_HoldResults : (0x0000000400#40).getLsbD 39 = false ∧
    (let f : BitVec 40 := BitVec.ofNat 40 (2 ^ 39 + 16 * 2 ^ 10 + 100)
     let s := job (fun c => { c with stime := 100, executed := true }) issuing
     let d := job (fun c => { c with stime := 99, executed := true }) issuing
     f.getLsbD 39 = true ∧ served.ctxOfJob (f.toNat / 2 ^ 35 % 16) = none ∧ s.ctxOfJob (f.toNat / 2 ^ 35 % 16) = some 0 ∧
       (s.ctx 0).job = .running ∧ f.toNat / 2 ^ 10 % 2 ^ 7 ≠ 0 ∧ (s.ctx 0).lateFor (reconstruct (s.ctx 0).stime (f.toNat % 1024)) (BitVec.ofNat 12 (fld f.toNat 23 12)) = true ∧
       (let e : BitVec 40 := BitVec.ofNat 40 (2 ^ 39 + 100); e.getLsbD 39 = true ∧ s.ctxOfJob (e.toNat / 2 ^ 35 % 16) = some 0 ∧ e.toNat / 2 ^ 10 % 2 ^ 7 = 0) ∧
       (let a := s.setCtx 0 { s.ctx 0 with job := .armed }; a.ctxOfJob (f.toNat / 2 ^ 35 % 16) = some 0 ∧ (a.ctx 0).job = .armed) ∧
       (s.ctx 0).deferred = false ∧ (d.ctx 0).job = .running ∧ (d.ctx 0).lateFor (reconstruct (d.ctx 0).stime (f.toNat % 1024)) (BitVec.ofNat 12 (fld f.toNat 23 12)) = false) ∧
    (let s := ctx0 (fun c => { c with deferred := true, hold := some ⟨0, 64, false, true, 1, 0, 1, 64, true⟩ })
     (s.ctx 0).deferred = true ∧ (s.ctx 0).hold.isSome = true) ∧
    (let s := ctx0 (fun c => { c with deferred := true, soft := some ⟨0⟩ }); (s.ctx 0).deferred = true ∧ (s.ctx 0).hold = none) ∧
    (State.reset.ctx 0).raised.filter (fun e => State.reset.untilRelease 0 e.1 == some (State.reset.lead 0)) = [] ∧
    (let s := (job (fun c => { c with stime := 100, hold := some ⟨100, 80, false, false, 1, 0, 1, 16, true⟩, raised := [(100, .debugger)], lnid := 0, holds := [⟨0, 100, some 80, 6, false⟩] }) issuing).setObj
       (Obj.debugStop 0) 1 |>.setObj (Obj.holdLead 0) 64
     (s.ctx 0).raised.filter (fun e => s.untilRelease 0 e.1 == some (s.lead 0)) = [(100, .debugger)] ∧ (s.ownLen 0 100).isSome = true ∧
       s.stillNeeds 0 .debugger ≠ 0) := by
  decide +kernel

theorem wit_HoldFieldRoundTrip : let h := fun d => (⟨3, 70000, d, 7, true⟩ : HoldRec)
    (15 : Nat) < 16 ∧ (h none).cause < 8 ∧ encodable 1 = 1 ∧ encodable (127 * 256) = 127 * 256 ∧ encodable longestHold = longestHold ∧ 0 < longestHold := by
  decide +kernel

theorem wit_DurationRounding : 0 < longestHold ∧ 127 * 16 ^ 2 ≤ longestHold ∧ 32513 ≤ 8 * 16 ^ 3 ∧ ¬ (8 = 127 ∧ 3 = 3) := by decide +kernel

/-- Context 0 with a LOADED bank, a hold lead, one segment, one route entry, one variant record and a launch unit; its launch barrier is vid 0. -/
def loaded (lead : Nat) : State :=
  let s := State.reset.setCtx 0 { CtxState.reset with bank0 := .loaded }
  let s := [(Obj.holdLead 0, lead), (Obj.segCount 0, 1), (Obj.routeCount 0, 1), (Obj.barrierCount 0, 1), (Obj.cmpOwner 0, clDriver),
    (Obj.variantTable 0, 16), (Obj.barrierInit 0, 16)].foldl (fun s e => s.setObj e.1 e.2) s
  let s := (s.setDom (Obj.syncMap 0) 0 [0, 0, 0, 0xA0]).setDom (Obj.barrierInit 0) 0 [0, 0x10, 0, 0, 1, 0, 1, 0]
  s.setCmp 0 { s.cmp 0 with ctrl := BitVec.ofNat 32 (2 ^ 29 + 2 ^ 21) }

/-- A context with no rival, whose pail pages are unwritten, holds nobody's place. -/
theorem places_free {s : State} {c : Nat} (h : s.unwritten (Obj.pailPages c) 0 8192 = true) (hr : s.rivals c = []) : s.placesHeld c = false := by
  simp [State.placesHeld, hr, State.pageKind_unwritten h]

/-- Unwritten stream tables hold no bad descriptor. -/
theorem streams_free {s : State} {c : Nat} (h : ∀ b < 2, ∀ d < 2, s.unwritten (streamBank d b) 0 (2048 * 64) = true) : s.streamsBad c = false := by
  simp only [State.streamsBad, State.loadedBanks, List.any_eq_false, List.mem_filter, List.mem_cons, List.not_mem_nil, or_false]
  rintro b ⟨hb | hb, -⟩ <;> subst hb
  · simp [State.streamRecords_unwritten (by omega) (h 0 (by omega) 0 (by omega)), State.streamRecords_unwritten (by omega) (h 0 (by omega) 1 (by omega))]
  · simp [State.streamRecords_unwritten (by omega) (h 1 (by omega) 0 (by omega)), State.streamRecords_unwritten (by omega) (h 1 (by omega) 1 (by omega))]

/-- A map of which only the first entry is written is as good as that entry. -/
theorem map_first {s : State} {c : Nat} (h : s.unwritten (Obj.syncMap c) 4 16380 = true) (h0 : s.mapEntryBad c (s.domLe (Obj.syncMap c) 0 4) = false) :
    s.mapBad c = false := by
  simp only [State.mapBad, List.any_eq_false, List.mem_range]
  intro i hi
  by_cases e : i = 0
  · subst e; simpa using h0
  · rw [State.domLe_unwritten (State.unwritten_part h (by omega) (by omega)) (by omega) (by simp only [Obj.syncMap]; omega)
      (by simp only [Obj.syncMap]; omega)]
    simp [State.mapEntryBad, fld, bitOf]

theorem wit_LaunchArmResults_arm : ((loaded 64).ctx 0).busy = false ∧ (loaded 64).armFails 0 true = [] ∧ (loaded 64).armFails 0 false = [] := by
  refine ⟨by decide +kernel, ?_⟩
  unfold State.armFails
  rw [places_free (by decide +kernel) (by decide +kernel), streams_free (by decide +kernel), map_first (by decide +kernel) (by decide +kernel)]
  decide +kernel

theorem wit_LaunchArmResults_refused : ((loaded 449).ctx 0).busy = false ∧ (loaded 449).armFails 0 false = [stRefused] ∧
    (loaded 449).armFails 0 true = [stRefused] := by
  refine ⟨by decide +kernel, ?_⟩
  unfold State.armFails
  rw [places_free (by decide +kernel) (by decide +kernel), streams_free (by decide +kernel), map_first (by decide +kernel) (by decide +kernel)]
  decide +kernel

theorem wit_LaunchArmResults : let s := fun j => ctx0 (fun c => { c with job := j })
    ((s .armed).ctx 0).busy = true ∧ ((s .armed).ctx 0).job = .armed ∧ ((s .running).ctx 0).job = .running ∧
    ((s .none).ctx 0).job ≠ .armed ∧ ((s .none).ctx 0).job ≠ .running ∧ ((s .ended).ctx 0).job ≠ .armed ∧ ((s .ended).ctx 0).job ≠ .running := by
  decide +kernel

theorem wit_TableResults :
    let s := fun (b : BankState) => { ctx0 (fun c => { c with bank0 := b }) with entry := { State.reset.entry with pnid := some 5 } }
    let t := ((s .loading).setObj (Obj.routeCount 0) 1).setDom (Obj.routeBank 0) 0 (leBytes 8 (2 ^ 63 + 2 ^ 62 + (s .loading).pnid * 2 ^ 53))
    let u := ((job (fun c => { c with stime := 100, bank1 := .loaded }) State.reset).setObj (Obj.segCount 0) 1).setObj (Obj.switchAt 0) 100000
    let v := ctx0 (fun c => { c with switch := some (100000, 0), stime := 100 })
    let late := job (fun c => { c with stime := 100 }) State.reset
    let r := ctx0 (fun c => { c with bank1 := .loading })
    let r := { r with entry := { State.reset.entry with pnid := some 5 } }
    let r := (r.setObj (Obj.routeCount 0) 1).setDom (Obj.routeBank 1) 0 (leBytes 8 (2 ^ 63 + 2 ^ 62 + r.pnid * 2 ^ 53))
    let j := job (fun c => { c with stime := 100, bank1 := .loaded }) State.reset
    ((s .draining).ctx 0).bank 0 = .draining ∧ (r.ctx 0).bank 1 = .loading ∧ r.bankBad 0 1 = none ∧ (r.ctx 0).busy = false ∧
    (j.ctx 0).busy = true ∧ (j.ctx 0).bank (1 - j.activeBank 0) = .loaded ∧ j.obj (Obj.segBase 0) + j.obj (Obj.switchSeg 0) < 4096 ∧
    j.switchBy 0 (j.obj (Obj.switchAt 0)) < ((j.ctx 0).stime : Int) ∧
    (let q := (j.setObj (Obj.segBase 0) 4095).setObj (Obj.switchSeg 0) 1
     (q.ctx 0).busy = true ∧ (q.ctx 0).bank (1 - q.activeBank 0) = .loaded ∧ 4096 ≤ q.obj (Obj.segBase 0) + q.obj (Obj.switchSeg 0)) ∧
    512 < 511 + (zeros 2).length ∧
    ((s .empty).ctx 0).bank 0 = .empty ∧ ((s .loaded).ctx 0).bank 0 = .loaded ∧ ((s .active).ctx 0).bank 0 = .active ∧
    (t.ctx 0).bank 0 = .loading ∧ t.bankBad 0 0 = none ∧ (t.ctx 0).busy = false ∧ (s .loading).bankBad 0 0 = some (1, 6, 0) ∧
    (u.ctx 0).busy = true ∧ (u.ctx 0).bank (1 - u.activeBank 0) = .loaded ∧ u.obj (Obj.segBase 0) + u.obj (Obj.switchSeg 0) < 4096 ∧
    ((u.ctx 0).stime : Int) ≤ u.switchBy 0 (u.obj (Obj.switchAt 0)) ∧ (v.ctx 0).switch = some (100000, 0) ∧ ((v.ctx 0).stime : Int) ≤ v.switchBy 0 100000 ∧
    (v.ctx 0).bank (1 - v.activeBank 0) ≠ .loaded ∧ ((ctx0 (fun c => { c with bank1 := .loaded })).ctx 0).busy = false ∧
    (late.ctx 0).busy = true ∧ (late.ctx 0).switch = none ∧ late.switchBy 0 (late.obj (Obj.switchAt 0)) < ((late.ctx 0).stime : Int) ∧
    (job id issuing).vatCtx 0 = some 0 ∧ Ready (job id issuing) 0 (wS 0 1 0 0 3) ⟨[1], [], []⟩ := by
  unfold Ready; decide +kernel

/-! ### Witnesses: the link, messages, the sync unit -/

theorem wit_TrainingResults :
    let at_ := fun (l : LinkState) => portIs 32 (fun p => { p with link := l })
    ((portIs 0 (fun p => { p with link := .detect, coeffs := true })).port 0).link = .detect ∧
    ((portIs 0 (fun p => { p with link := .detect, coeffs := true })).port 0).coeffs = true ∧
    ((at_ .detect).port 32).link = .detect ∧ (true && ((at_ .detect).port 32).coeffs) = false ∧ ((at_ .equalize).port 32).link = .equalize ∧
    ((at_ .lock).port 32).link = .lock ∧
    min (laneWidth (0#8).toNat) (laneWidth (if isUplink 32 then 1 else (at_ .lock).obj (Obj.linkWidthCap 32))) = 0 ∧
    min (laneWidth (3#8).toNat) (laneWidth (if isUplink 32 then 1 else (at_ .lock).obj (Obj.linkWidthCap 32))) ≠ 0 ∧
    ((at_ .active).port 32).link = .active ∧ ((at_ .active).port 32).peerSleep = false ∧ ((at_ .retrain).port 32).link = .retrain ∧
    ((at_ .retrain).port 32).exchanges = 0 ∧ ((at_ .retrain).port 32).lanes ≤ (4#8).toNat ∧
    (let s := portIs 16 (fun p => { p with link := .retrain }); (s.port 16).link = .retrain ∧ (s.port 16).lanes ≤ (4#8).toNat ∧ s.measures 16 = true ∧
      (s.port 16).exchanges = 0) ∧
    (let s := portIs 32 (fun p => { p with link := .retrain, lanes := 4 }); (s.port 32).link = .retrain ∧ (2#8).toNat < (s.port 32).lanes) ∧
    State.reset.obj (Obj.downReason 32) ≠ 8 ∧ ((at_ .listen).port 32).link = .listen ∧
    (State.reset.setObj (Obj.downReason 32) 8).obj (Obj.downReason 32) = 8 ∧ ((State.reset.setObj (Obj.downReason 32) 8).port 32).link = .down ∧
    (State.reset.setObj (Obj.downReason 32) 8).mayTrain 32 = true ∧
    (let s := portIs 32 (fun p => { p with link := .active, peerSleep := true }); (s.port 32).link = .active ∧ (s.port 32).peerSleep = true) := by
  decide +kernel

theorem wit_LinkControlResults :
    let at_ := fun (l : LinkState) => portIs 16 (fun p => { p with link := l })
    (let s := portIs 16 (fun p => { p with link := .active, retrain := some ⟨true, none, 0⟩ })
     (s.port 16).retrain = some ⟨true, none, 0⟩ ∧ (s.port 16).link = .active ∧ s.retrainDue ⟨true, none, 0⟩ = true) ∧
    (let s := portIs 16 (fun p => { p with link := .active, retrain := some ⟨true, none, 2 ^ 40⟩ })
     (s.port 16).retrain = some ⟨true, none, 2 ^ 40⟩ ∧ s.retrainDue ⟨true, none, 2 ^ 40⟩ = false) ∧ (State.reset.port 16).retrain = none ∧
    ((at_ .retrain).port 16).link = .retrain ∧ ((at_ .active).port 16).link = .active ∧ ((at_ .active).port 16).peerSleep = false ∧
    (let s := portIs 16 (fun p => { p with link := .active, peerSleep := true }); (s.port 16).link = .active ∧ (s.port 16).peerSleep = true) ∧
    ((portIs 15 (fun p => { p with link := .active })).port 15).link ≠ .down ∧ ((at_ .lock).port 16).link = .lock ∧
    ((at_ .listen).port 16).link = .listen ∧ isUplink 16 = true ∧ isUplink 15 = false ∧ (State.reset.port 15).link = .down ∧
    ((portIs 16 (fun p => { p with wakeSend := true })).port 16).wakeSend = true ∧ (State.reset.port 15).wakeSend = false := by
  decide +kernel

theorem wit_LinkTimers :
    (let s := portIs 16 (fun p => { p with link := .active }); (s.port 16).link = .active ∧ (s.port 16).discarding = false ∧
      starved (s.port 16).credit1 (s.port 16).skim1 = false ∧ starved (s.port 16).credit2 (s.port 16).skim2 = false ∧ isUplink 15 = false ∧
      s.parentPort ≠ some 15 ∧ (s.port 15).link ≠ .active) ∧
    ((portIs 15 (fun p => { p with link := .active })).port 15).link = .active ∧ (portIs 15 (fun p => { p with link := .active })).parentPort ≠ some 15 ∧
    (let s := portIs 16 (fun p => { p with link := .active, discarding := true }); (s.port 16).discarding = true) ∧
    (let s := portIs 16 (fun p => { p with unacked := 1 }); (s.port 16).unacked ≠ 0) ∧
    (let s := portIs 16 (fun p => { p with link := .active, skim2 := [⟨⟨0, []⟩, true, none, 0⟩] })
     (s.port 16).link = .active ∧ starved (s.port 16).credit2 (s.port 16).skim2 = true) := by
  decide +kernel

/-- An ACTIVE port 0. -/
def active0 : State := portIs 0 (fun p => { p with link := .active })

/-- A unit of a class and a kind with a payload of zeros. -/
def unit (tc kind : Nat) : RxUnit := ⟨BitVec.ofNat 64 (tc * 2 ^ 22 + kind * 2 ^ 16), zeros 240⟩

/-- A skim unit with one message of TYPE 0x15 and no body. -/
def skimUnit (tc : Nat) : RxUnit := ⟨BitVec.ofNat 64 (tc * 2 ^ 22), padTo 240 ([0, 0, 1, 0, 0, 0, 0, 0] ++ leBytes 8 (0x15 * 2 ^ 56))⟩

theorem wit_UnitAndMessageRows_units : (active0.port 0).link = .active ∧
    (∀ k < 8, (unit 3 k).badFormat = false ∧ (unit 3 k).hdr.toNat / 2 ^ 12 % 8 = 0 ∧ (unit 3 k).hdr.getLsbD 63 = false ∧ (unit 3 k).tc = 3 ∧
      (unit 3 k).kind = k) ∧
    (unit 0 0).badFormat = false ∧ (unit 0 0).tc = 0 ∧ active0.lockOwns = false ∧ (skimUnit 1).badFormat = false ∧ (skimUnit 1).tc = 1 ∧
    (skimUnit 2).badFormat = false ∧ (skimUnit 2).tc = 2 ∧
    (let s := ((portIs 33 (fun p => { p with link := .active })).setObj Obj.lockstepEnable 1).setObj (Obj.xOwner 1) clLock
     (s.port 33).link = .active ∧ s.lockOwns = true) ∧ (State.reset.port 0).link = .down := by
  decide +kernel

theorem wit_TrainingUnitResults :
    ((portIs 0 (fun p => { p with link := .param })).port 0).link = .param ∧ (unit 3 5).tc = 3 ∧ (unit 3 5).kind = 5 ∧ (unit 3 5).badFormat = false ∧
    (State.reset.port 0).link ≠ .active ∧ (State.reset.port 0).link ≠ .retrain ∧ (unit 2 0).tc < 3 ∧ (active0.port 0).link = .active ∧ isUplink 0 = false ∧ (active0.port 0).retrain = none ∧
    (let s := { portIs 0 (fun p => { p with link := .delay, peer := 0 }) with entry := { State.reset.entry with pnid := some 5 } }
     (s.port 0).link = .delay ∧ s.measures 0 = false) ∧
    (active0.setObj Obj.ftimeParentPort 0).timeSource 0 = true ∧ ((active0.setObj Obj.ftimeParentPort 0).port 0).link = .active ∧
    (active0.port 0).txSleep = false := by
  decide +kernel

theorem wit_UnitAndMessageRows_messages : (active0.port 0).link = .active ∧
    (let m := mkMsg 0x01 false 0 0 0 7 5 (zeros 16); m.body.length = 16 * m.blocks ∧ m.hdr.toNat % 2 ^ 13 = 0) ∧
    (let m := mkMsg 0x14 false 0 0 0 7 5 (zeros 48); m.body.length = 16 * m.blocks ∧ m.hdr.toNat % 2 ^ 13 = 0) := by
  decide +kernel

/-- Context 0 runs a job with counter 0 behind vid 0, barrier 0 behind vid 1, and the module with PNID 7 as LNID 0. -/
def synced : State :=
  let s := job id issuing
  let s := (s.setDom (Obj.loadedMap 0) 0 [0, 0, 0, 0x80, 0, 0, 0, 0xA0]).setDom (Obj.routeBank 0) 0 (leBytes 8 (2 ^ 63 + 7 * 2 ^ 53))
  let s := (s.setCounter 0 ⟨3, 10, false⟩).setBarrier 0 ⟨1, 0, 1, 1, false, false, false, 0, 0, 0, []⟩
  s.setObj (Obj.routeCount 0) 1

theorem wit_MessageEffects :
    let add := mkMsg 0x01 false 0 0 0 7 5 (padTo 16 [0, 0, 1, 0, 5])
    (add.type = 0x01 ∧ synced.power.fabric.descending = false ∧ synced.ctxOfJob add.jobn = some 0 ∧ (synced.ctx 0).sync = .live ∧ leAt add.body 2 1 = 1 ∧
      (synced.originLnid 0 add.src).1 = 0 ∧ (synced.originLnid 0 add.src).2.resolve 0 (leAt add.body 0 2 % 4096) = .counter 0 ∧
      ((synced.originLnid 0 add.src).2.applyCounter 0 ⟨srcPort 0, 0, 5, 0, none⟩ (leAt add.body 0 2 % 4096) 0
        (((synced.originLnid 0 add.src).2.counter 0).value.toNat + sgn 32 (leAt add.body 4 4)) (sgn 32 (leAt add.body 4 4)) .none).1 = true) ∧
    served.ctxOfJob add.jobn = none ∧
    (let m := mkMsg 0x11 false 0 0 0 7 5 (padTo 16 [1, 0]); m.type = 0x11 ∧ synced.ctxOfJob m.jobn = some 0 ∧
      synced.resolve 0 (leAt m.body 0 2 % 4096) = .barrier 0) ∧
    (let m := mkMsg 0x12 false 0 0 0 7 5 (zeros 16); m.type = 0x12 ∧ synced.ctxOfJob m.jobn = some 0) ∧
    (let m := mkMsg 0x13 true 0 0 0 7 5 (zeros 64); let s := job (fun c => { c with notices := [zeros 64] }) issuing
     m.type = 0x13 ∧ s.ctxOfJob m.jobn = some 0 ∧ padTo 64 m.body ∈ (s.ctx 0).notices) ∧
    (mkMsg 0x14 false 0 0 0 7 5 (zeros 48)).type = 0x14 ∧ (mkMsg 0x15 false 0 0 0 7 5 (zeros 16)).type = 0x15 ∧
    (mkMsg 0x10 false 0 0 0 7 5 (zeros 64)).type = 0x10 ∧ synced.host.linkUp = false ∧
    (let m := mkMsg 0x03 false 0 0 0 7 5 (padTo 48 [7]); m.type = 0x03 ∧ synced.xUse 0 ≠ 1 ∧ 6 < leAt m.body 0 1) ∧
    (mkMsg 0x04 false 0 0 0 7 5 (zeros 48)).type = 0x04 ∧ (synced.setObj (Obj.xFunction 0) 1).xUse 32 = 1 := by
  decide +kernel

theorem wit_CounterRules : (3 : Int) - 4 < 0 ∧ (((synced.counter 0).limit.toNat : Int) < 11) ∧ ((3 : Int) = (synced.counter 0).value.toNat) ∧
    (3 : Int) ≤ (synced.counter 0).limit.toNat ∧ (10 : Int) ≤ (synced.counter 0).limit.toNat ∧ (10 : Int) ≠ (synced.counter 0).value.toNat := by
  decide +kernel

/-- A debug session with every scope. -/
def debugging (s : State) : State := { s with host := { s.host with session := some ⟨0, 0, 3, 5⟩ } }

theorem wit_HostAndDebugSync :
    let frozen := synced.setCtx 0 { synced.ctx 0 with sync := .frozen, job := .none }
    let set : W64 := BitVec.ofNat 64 (9 * 2 ^ 32)
    let asked := fun (t g : Nat) => ({ synced with times := { synced.times with grid := g }, sync := { synced.sync with rdPend := some t, wPend := some t } } : State)
    synced.dark = false ∧ synced.hostReady = true ∧ State.reset.dark = false ∧ State.reset.hostReady = true ∧ frozen.dark = false ∧ frozen.hostReady = true ∧
    synced.sync.rdPend = none ∧ synced.sync.wPend = none ∧ (asked 5 8).sync.rdPend = some 5 ∧ (asked 5 8).sync.wPend = some 5 ∧
    5 + 3 ≤ (asked 5 8).times.grid ∧ (asked 5 7).times.grid < 5 + 3 ∧ (asked 5 7).sync.rdPend = some 5 ∧ (asked 5 7).hostReady = true ∧ frozen.resolve 0 0 = .counter 0 ∧ ((debugging frozen).ctx 0).sync ≠ .none ∧
    ((debugging synced).ctx (0 / 4096)).sync ≠ .frozen ∧ (BitVec.ofNat 32 (set.toNat / 2 ^ 32) : W32) ≠ ((debugging frozen).counter 0).value ∧
    (synced.counter 0).limit.toNat < (0xFFFFFFFF#32).toNat ∧
    (State.reset.ctx ((0#64).toNat / 2 ^ 16 % 16)).sync = .none ∧ (frozen.ctx ((0#64).toNat / 2 ^ 16 % 16)).sync = .frozen ∧
    (synced.ctx 0).sync = .live ∧ synced.resolve 0 ((0#64).toNat % 4096) = .counter 0 ∧ synced.resolve 0 ((1#64).toNat % 4096) = .barrier 0 ∧
    synced.resolve ((0#32).toNat / 2 ^ 16 % 16) ((0#32).toNat % 4096) = .counter 0 ∧ (State.reset.ctx ((0#32).toNat / 2 ^ 16 % 16)).sync = .none ∧
    (match (synced.registerPool (.counter 0) 0 0 (condOf 0) 9 (.queue 0)).1 with | .ok _ => true | .error _ => false) = true ∧
    synced.inScope 0x12 1 = false ∧ (debugging frozen).inScope 0x11 1 = true ∧ ((debugging frozen).ctx 0).sync = .frozen ∧
    set.toNat / 2 ^ 16 % 2 ^ 16 = 0 ∧ (debugging frozen).resolve 0 (set.toNat % 4096) = .counter 0 ∧
    (BitVec.ofNat 32 (set.toNat / 2 ^ 32) : W32).toNat ≤ ((debugging frozen).counter 0).limit.toNat ∧ ((debugging synced).ctx 0).sync = .live ∧
    (debugging synced).inScope 0x11 1 = true ∧ (BitVec.ofNat 32 (set.toNat / 2 ^ 32) : W32) ≠ ((debugging synced).counter 0).value ∧
    ((debugging synced).barrier 0).root = ((debugging synced).ctx ((1#16).toNat / 2 ^ 12)).lnid ∧
    (debugging synced).resolve ((1#16).toNat / 2 ^ 12) ((1#16).toNat % 4096) = .barrier 0 := by
  decide +kernel

/-! ### Witnesses: resets, memory, power, entry -/

theorem wit_ResetAndPerturbResults :
    let busy := State.reset.setCtx 0 { CtxState.reset with job := .armed }
    let relayed := ((job id State.reset).setObj (Obj.mrCount 0) 1).setDom (Obj.mrBank 0) 3 [0x80]
    let slots := fun (f : Nat) (n : Nat) => (debugging served).setDom (Obj.perturbSlot 0) 0 (leBytes 1 5 ++ leBytes 1 f ++ leBytes 4 0 ++ leBytes 2 n)
    let armed := ((slots 16 1).setSlot 0 ⟨0x11, true, 1, 0⟩).setObj Obj.perturbEnable 1
    State.reset.relays = false ∧ relayed.relays = true ∧ busy.anyBusy = true ∧
    served.anyBusy = false ∧ served.obj Obj.lockstepEnable = 0 ∧ served.obj (Obj.xOwner 1) = clNone ∧
    served.obj (Obj.schedOwner 33) = clNone ∧ (served.commitScalar Obj.lockstepEnable 0x10 1).succeeded = true ∧
    (let s := ({ served with lock := { served.lock with own := [Signature.reset] } }.setObj Obj.lockstepEnable 1).setObj (Obj.xOwner 1) clLock
     s.lock.own = [Signature.reset] ∧ s.lockOwns = true) ∧ served.inScope 0x10 0 = false ∧ (slots 0 1).inScope 0x11 0 = true ∧
    ((slots 0 1).slot 0).armed = false ∧ ((slots 0 1).slotWord 0).bad = false ∧ ((slots 0 0).slotWord 0).bad = true ∧ ((slots 0 0).slot 0).armed = false ∧
    (armed.slot 0).armed = true ∧ (armed.slot 0).owner ≠ 0x12 ∧ armed.obj Obj.perturbEnable = 1 ∧
    armed.triggered (armed.slotWord 0) (armed.slot 0).due = true ∧ (armed.slot 0).left ≤ 1 ∧ (armed.slotWord 0).ftime = true := by
  decide +kernel

theorem wit_ResetAndPerturbResults_held : let s := (debugging served).setSlot 0 ⟨0x10, true, 1, 0⟩
    s.inScope 0x11 0 = true ∧ (s.slot 0).armed = true ∧ (s.slot 0).owner ≠ 0x11 := by
  decide +kernel

theorem wit_DramResults :
    let own := fun (t : Nat) => (job (fun c => { c with stime := t, executed := true }) State.reset).setObj (Obj.streamOwner 0) 0
    let g : Granule := ⟨0, 0, 0, 0, 0, 0, 0, true, 0, true, 0, 0, 0, zeros 64⟩
    let r : StreamRun := ⟨0, 0, 0, 0, 0, 0, 0, 0, 0, false, true, [], streamDecode (zeros 64)⟩
    let reading := { own 5 with mem := { MemUnit.reset with issued := [g], streams := [r] } }
    let hot := { own 5 with mem := { MemUnit.reset with bands := [(3, 4)], refreshed := [(0, 720)] } }
    let asleep := { State.reset with power := { State.reset.power with memory := ⟨.sleep, none, false⟩ } }
    let last := { own 5 with mem := { MemUnit.reset with slots := [(0, 15)] } }
    let later := ({ own 5 with mem := last.mem } : State).setCtx 0 { CtxState.reset with job := .running, stime := 40, executed := true }
    asleep.selfRefresh = true ∧ State.reset.selfRefresh = false ∧ (own 5).selfRefresh = false ∧ later.selfRefresh = false ∧
    State.reset.streamCtx (0 / 32) = none ∧ State.reset.obj Obj.scrubInterval ≠ 0 ∧ State.reset.mem.fixes.find? (fun e => e.1 == 0) = none ∧
    (Tab.get (fun _ => ((0, 0) : Nat × Nat)) State.reset.mem.patrol 0).2 ≤ State.reset.times.grid ∧ (own 5).streamCtx (0 / 32) = some 0 ∧
    ((own 5).ctx 0).ticksRun ≤ (own 5).slotTick 8 ∧ (own 5).slotTick (Tab.get (fun _ => 0) (own 5).mem.slots 0) < ((own 5).ctx 0).ticksRun ∧
    slotReserved 0 = false ∧ later.streamCtx 0 = some 0 ∧ later.slotTick 15 < (later.ctx 0).ticksRun ∧ slotReserved 15 = true ∧
    reading.mem.issued.find? (fun g => g.ch == 0) = some g ∧ reading.mem.streams.find? (fun r => g.of r) = some r ∧
    (({ reading with mem := { reading.mem with issued := reading.mem.issued.erase g } } : State).eccRead 2 g.pa g.data []).2.1 = none ∧ g.read = true ∧
    State.reset.mem.issued.find? (fun g => g.ch == 0) = none ∧ ((own 5).ctx 0).hold = none ∧ State.reset.streamCtx 1 = none ∧
    Tab.get (fun _ => 0) State.reset.mem.auto 1 < 16 ∧ hot.streamCtx 0 = some 0 ∧ hot.hotDie 0 = true ∧
    hot.obj Obj.hotHoldPeriod ≤ Tab.get (fun _ => 0) hot.mem.refreshed 0 ∧ (hot.ctx 0).hold = none ∧ (hot.ctx 0).job = .running ∧
    ((ctx0 (fun c => { c with signals := [⟨0, 3, 1⟩] })).ctx 0).signals = [⟨0, 3, 1⟩] ∧ (State.reset.ctx 0).signals = [] := by
  decide +kernel

/-- Nothing is open in a DRAM that nothing has read. -/
theorem wit_DramResults_shut : ∀ b, State.reset.bankShut 1 b = true := fun _ => rfl

/-- The module in DEEP. -/
def deep : State := { served with power := { served.power with saved := true } }

theorem wit_PowerSensorResults : deep.dark = true ∧ served.dark = false ∧ served.clientGate 0x10 = none ∧ served.served Obj.budgetW = true ∧
    (149#16).toNat < 150 ∧ 500 < (501#16).toNat ∧ (served.commitScalar Obj.budgetW 0x10 150).succeeded = true ∧
    (served.commitScalar Obj.budgetW 0x10 500).succeeded = true ∧ ({ synced with boot := served.boot } : State).served (Obj.budgetReport 0) = true ∧
    (0x00FF0000#32).toNat / 2 ^ 12 % 16 = 0 ∧ (0x00FF0000#32).toNat / 2 ^ 24 = 0 ∧ (0x00FF0000#32).toNat % 4096 ∈ ({ synced with boot := served.boot } : State).members 0 ∧
    (let s := job (fun c => { c with owedReport := true }) State.reset; (s.ctx 0).owedReport = true ∧ (s.ctx 0).job = .running) := by
  decide +kernel

theorem wit_PowerFailResults : let s := fun f => { served with power := { served.power with fail := f } }
    served.power.off = false ∧ served.power.fail = .none ∧ (s .detected).power.fail = .detected ∧ (s .committed).power.fail = .committed ∧
    (s .detected).power.fail ≠ .none := by
  decide +kernel

theorem wit_PowerStateResults :
    let off := { served with power := { served.power with off := true } }
    served.power.off = false ∧ off.power.off = true ∧ off.entry.switch = true ∧ off.entry.soft = false ∧ isUplink 0 = false ∧ isUplink 31 = true ∧
    (served.wake 5).dark = false ∧ served.dark = false ∧ deep.dark = true ∧ served.clientGate 0x10 = none ∧ served.served Obj.voteOwn = true ∧
    voteBad 0x00000004 = true ∧ voteBad 0x80000000 = false ∧
    (let word : W32 := BitVec.ofNat 32 (0x80000000 / 2 ^ 24 * 2 ^ 24 + 0x10 * 2 ^ 16)
     ({ served with power := { served.power with votes := Tab.set (fun _ => 0) served.power.votes (voteSlot 0x10) word } } : State).asleep = false) ∧
    served.served Obj.offRequest = true ∧ served.cannotStop = false ∧ (job id served).cannotStop = true ∧
    (served.domain .compute).level.code < served.target .compute ∧ (served.domain .compute).moving = none ∧
    (let low := { served with power := { served.power with compute := ⟨.deep, none, false⟩ } }
     low.dark = false ∧ low.target .compute ≤ (low.domain .compute).level.code) ∧
    (let s := { served with power := { served.power with fabric := ⟨.sleep, none, false⟩ } }
     let word : W32 := BitVec.ofNat 32 (0x80000000 / 2 ^ 24 * 2 ^ 24 + 0x10 * 2 ^ 16)
     let t : State := { s with power := { s.power with votes := Tab.set (fun _ => 0) s.power.votes (voteSlot 0x10) word } }
     t.asleep = true ∧ t.target .fabric < 2) ∧
    served.hostReady = true ∧ ({ served with power := { served.power with host := ⟨.sleep, none, false⟩ } } : State).hostReady = false ∧
    served.hostIn.host.linkUp = false ∧ ({ served with host := { served.host with linkUp := true } } : State).hostIn.host.linkUp = true := by
  decide +kernel

theorem wit_EntryResults :
    let e := fun (f : EntryUnit → EntryUnit) => { served with entry := f served.entry }
    let lost := (e (fun x => { x with fref := false, pending := true })).setPort 0 { PortState.reset 0 with link := .active }
    ((e (fun x => { x with switch := false })).entry.mate = true ∧ (e (fun x => { x with switch := false })).entry.switch = false) ∧
    (e (fun x => { x with mate := false })).entry.mate = false ∧ (e (fun x => { x with soft := true })).entry.soft = true ∧ served.power.off = false ∧
    ({ e (fun x => { x with soft := true }) with power := { served.power with off := true } } : State).power.off = true ∧ lost.entry.fref = false ∧
    served.entry.fref = true ∧ served.dark = false ∧ served.designated = none ∧
    ((served.setPort 0 { PortState.reset 0 with link := .active }).setObj Obj.ftimeParentPort 0).designated = some 0 ∧
    (lost.setObj Obj.ftimeParentPort 0).designated = some 0 ∧ lost.entry.pending = true ∧ lost.dark = false := by
  decide +kernel

/-! ### Witnesses: the host door, boot, the management door -/

theorem wit_HostAccessResults : let mapped := served.setDom Obj.hostFrameMap 0 [0, 0, 0, 0x80]
    served.dark = false ∧ served.hostReady = true ∧ mapped.hostReady = true ∧ (served.bar2Read 0 32 []).1 = some (List.replicate 32 0xFF) ∧ mapped.dark = false ∧
    (mapped.bar2Read 0 32 []).1 = some (zeros 32) ∧ (mapped.bar2Read 0 32 (List.replicate 41 1)).1 = none ∧ served.host.sram = false ∧
    served.reg 0x30000 = some (8, 0) ∧ 0x30000 % 8 = 0 ∧ (0x30002#24).toNat % 4 ≠ 0 := by
  decide +kernel

theorem wit_LatchedHalves : let s := { served with times := { served.times with latches := [(0x30000, 9)] } }
    s.dark = false ∧ s.hostReady = true ∧ (0x30000#24).toNat % 8 = 0 ∧ (0x30000#24).toNat / 0x10000 ≠ 5 ∧ (0x30004#24).toNat = (0x30000#24).toNat + 4 ∧ ackMailbox (0x30000#24).toNat = none ∧
    ackMailbox (0x30004#24).toNat = none ∧ s.reg (0x30004#24).toNat = none ∧ s.reg (0x30000#24).toNat = some (8, 0) ∧
    s.times.latches.find? (fun e => e.1 == (0x30000#24).toNat) = some (0x30000, 9) := by
  decide +kernel

theorem wit_DictionaryResults : served.dark = false ∧ served.hostReady = true ∧ (served.engine 0).busy = false ∧
    ((served.setEngine 0 { served.engine 0 with busy := true }).engine 0).busy = true ∧ served.clientGate 0x10 = none ∧
    served.served Obj.restoreDefaults = true ∧ (job id served).anyBusy = true ∧ served.anyBusy = false ∧ served.power.fail = .none ∧
    served.boot.failed = false ∧ (zeros 96).length ≤ 393216 ∧ (zeros 96).length % 6 = 0 ∧ (zeros 95).length % 6 ≠ 0 ∧
    isOwnerField (256 * (0x3120#16).toNat + (6#8).toNat) = true ∧ served.doorGate { hostDoor with client := 0x10 } false = none ∧ (0x10#8).toNat < 23 ∧
    served.obj 0x312006 = clNone ∧ (served.setObj 0x312006 0x10).obj 0x312006 = (0x10#8).toNat ∧ (served.setObj 0x312006 3).obj 0x312006 ≠ clNone ∧
    23 ≤ (0x17#8).toNat ∧ (0x17#8) ≠ 0xFF ∧ (3#8).toNat < 23 ∧ (3#8) ≠ 0x10 ∧ served.obj 0x312006 ≠ (0x10#8).toNat ∧
    ({ served with power := { served.power with fail := .detected } } : State).power.fail ≠ .none ∧
    pnidOrNone (17#16).toNat = false ∧ pnidOrNone (16#16).toNat = true ∧ (served.commitScalar Obj.proxyHome 0x10 16).succeeded = true ∧
    served.obj (Obj.xOwner 0) = clNone ∧ served.obj (Obj.schedOwner 32) = clNone ∧ (served.commitScalar (Obj.xFunction 0) 0x10 0).succeeded = true ∧
    (served.commitScalar (Obj.xFunction 0) 0x10 1).succeeded = true ∧ (served.commitScalar (Obj.xFunction 0) 0x10 2).succeeded = true ∧
    (served.setObj (Obj.schedOwner 32) 3).obj (Obj.schedOwner 32) ≠ clNone := by
  decide +kernel

theorem wit_DictionaryResults_long : served.clientGate 0x10 = none ∧ 393216 < (zeros 393222).length :=
  ⟨by decide +kernel, by rw [zeros, List.length_replicate]; omega⟩

theorem wit_MailboxResults : let full := served.setMbIn 0 { served.mbIn 0 with full := true }
    let took := served.setMbIn 0 { served.mbIn 0 with full := true, taken := some (1, [0x00010000]) }
    served.dark = false ∧ served.hostReady = true ∧ full.dark = false ∧ full.hostReady = true ∧ took.dark = false ∧ took.hostReady = true ∧
    (served.mbIn 0).full = false ∧ (full.mbIn 0).full = true ∧ (full.mbIn 0).collision = false ∧ served.fwRuns = true ∧ (full.mbIn 0).taken = none ∧
    State.reset.fwRuns = false ∧ (took.mbIn 0).service.isSome = true ∧ (0x00000000#32).toNat / 2 ^ 16 % 256 = (served.mbOut 0).seq.toNat ∧
    (0x00010000#32).toNat / 2 ^ 16 % 256 ≠ (served.mbOut 0).seq.toNat ∧ served.host.dbOut.getLsbD 0 = false ∧ served.host.dbOutMask.getLsbD 0 = false ∧
    ({ served with host := { served.host with dbOutMask := 1 } } : State).host.dbOutMask.getLsbD 0 = true := by
  decide +kernel

theorem wit_HostDoorResults :
    let q := fun (x : EventQueue) => served.setEq 0 x
    (let s := q { served.eq 0 with size := 6 }; (s.eq 0).ctrl.getLsbD 31 = false ∧ (0x80000000#32).getLsbD 31 = true ∧
      6 ≤ (s.eq 0).size.toNat % 32 ∧ (s.eq 0).size.toNat % 32 ≤ 16) ∧ ((q { served.eq 0 with size := 16 }).eq 0).size.toNat % 32 = 16 ∧
    (let s := q { served.eq 0 with ctrl := 0x80000001, unsignalled := 1 }; (s.eq 0).ctrl.getLsbD 31 = true ∧ (s.eq 0).ctrl.toNat % 256 ≠ 0 ∧
      (s.eq 0).unsignalled ≠ 0) ∧
    ({ served with host := { served.host with pendingV := 1 } } : State).host.pendingV.getLsbD 0 = true ∧ served.host.pendingV.getLsbD 0 = false ∧
    ({ served with host := { served.host with masked := 0 } } : State).host.masked.toNat / 2 ^ 0 % 2 = 0 ∧ (served.proxy 0).busy = false ∧
    (5#32).toNat % 512 ≠ served.pnid ∧ (511#32).toNat % 512 = served.pnid ∧ served.dark = false ∧ served.hostReady = true ∧ deep.dark = true ∧
    served.host.perst = false ∧
    ({ served with host := { served.host with perst := true } } : State).host.perst = true := by
  decide +kernel

theorem wit_BootResults : let at_ := fun (m : MpState) => { State.reset with boot := { State.reset.boot with mp := m } }
    State.reset.boot.mp = .off ∧ State.reset.entry.released = true ∧ State.reset.entry.switch = true ∧ State.reset.entry.soft = false ∧
    State.reset.power.off = false ∧ served.boot.mp = .running ∧ (at_ (.rom true)).boot.mp = .rom true ∧ (at_ (.rom true)).boot.norOk = none ∧
    (at_ (.rom true)).boot.pushed = false ∧
    ({ at_ (.rom true) with boot := { (at_ (.rom true)).boot with norOk := some true } } : State).boot.norOk = some true ∧
    ({ at_ (.rom true) with boot := { (at_ (.rom true)).boot with pushed := true } } : State).boot.pushed = true ∧
    (at_ .starting).boot.mp = .starting ∧ (at_ .restarting).boot.mp = .restarting ∧ served.fwRuns = true ∧ served.clientGate 0x10 = none ∧
    served.served Obj.moduleReset = true ∧ served.cannotStop = false ∧ (job id served).cannotStop = true ∧ (job id served).clientGate 0x10 = none ∧
    (job id served).served Obj.moduleReset = true := by
  decide +kernel

theorem wit_StagingResults :
    let at_ := fun (f : FwState) => { served with boot := { served.boot with fw := f, owner := 0x10, image := zeros 12 ++ [5, 0, 0, 0] ++ zeros 112 } }
    let s := at_ .loading
    s.clientGate 0x10 = none ∧ s.served Obj.fwCtrl = true ∧ s.served Obj.fwImage = true ∧ s.served Obj.rollbackFloor = true ∧ s.boot.owner = 0x10 ∧
    4194303 + (zeros 1).length ≤ 4194304 ∧ 4194304 < 4194304 + (zeros 1).length ∧ s.boot.fw = .loading ∧ s.boot.mp = .running ∧
    (at_ .empty).boot.fw = .empty ∧ (at_ .verifying).boot.fw = .verifying ∧ (at_ .verified).boot.fw = .verified ∧ (at_ .verified).fwRuns = true ∧
    (at_ .programming).boot.fw = .programming ∧
    (let r := { State.reset with boot := { State.reset.boot with mp := .rom true } }; r.clientGate 0x10 = none ∧ r.served Obj.fwCtrl = true ∧
      r.served Obj.fwImage = true ∧ r.served Obj.rollbackFloor = true ∧ r.boot.owner = 0xFF ∧ r.boot.mp = .rom true) := by
  decide +kernel

/-- The running image's SVN is above the floor; a floor beyond it, or below the one in force, is refused. -/
theorem wit_StagingResults_floor : ∃ im : List Byte,
    let s : State := { served with boot := { served.boot with image := im } }
    s.obj Obj.rollbackFloor < 1 ∧ 1 ≤ s.runningSvn ∧ s.runningSvn < 2 ^ 32 - 1 ∧ (s.commitScalar Obj.rollbackFloor 0x10 1).succeeded = true ∧
    s.served Obj.rollbackFloor = true ∧ s.clientGate 0x10 = none ∧ s.boot.owner = 0xFF ∧ s.boot.mp = .running := by
  refine ⟨zeros 12 ++ [1] ++ zeros 115, ?_⟩; decide +kernel

theorem wit_ServiceAndDebugResults :
    let took := fun (k : Nat) (f : FwState) => ({ served with boot := { served.boot with fw := f } } : State).setMbIn 0
      { served.mbIn 0 with full := true, taken := some (1, [BitVec.ofNat 32 (k * 2 ^ 16)]) }
    let ready := { served with boot := { served.boot with identity := some .ready } }
    ((took 1 .empty).mbIn 0).service = some (1, [0x00010000]) ∧ (took 1 .empty).fwRuns = true ∧ ((took 2 .empty).mbIn 0).service = some (2, [0x00020000]) ∧
    (took 2 .empty).boot.fw ≠ .programming ∧ (took 2 .programming).boot.fw = .programming ∧ ((took 3 .empty).mbIn 0).service = some (3, [0x00030000]) ∧
    served.clientGate 0x10 = none ∧ served.served Obj.csCompact = true ∧ served.power.fail = .none ∧ (0x10#8) ≠ 0x12 ∧ served.served Obj.attestNonce = true ∧
    (zeros 32).length = 32 ∧ ready.boot.attBusy = false ∧ ready.boot.identity = some .ready ∧
    ({ ready with boot := { ready.boot with attBusy := true } } : State).boot.attBusy = true ∧ (0x10#8) ≠ 0x11 ∧ served.served Obj.debugToken = true ∧
    7951 + (zeros 0).length < 7952 ∧ ({ served with host := { served.host with lockout := true } } : State).host.lockout = true ∧
    (debugging served).clientGate 0x11 = none ∧ (debugging served).served Obj.debugClose = true ∧ (debugging served).host.session = some ⟨0, 0, 3, 5⟩ ∧
    ({ took 3 .empty with power := { served.power with fail := .detected } } : State).power.fail ≠ .none ∧
    ({ debugging served with times := { served.times with atime := 5 } } : State).times.atime = 5 ∧ served.host.session = none := by
  decide +kernel

theorem wit_CanResults :
    let open_ := ({ served with can := { served.can with isOpen := true } } : State).setObj Obj.canEnable 1
    let moving := { open_ with can := { open_.can with xfer := some ⟨true, 3, 0, 0, 0, 8, [], 0, 0, 4, 0, 0⟩ } }
    served.can.isOpen = false ∧ open_.can.isOpen = true ∧ open_.power.off = false ∧ open_.power.fail ≠ .committed ∧ open_.obj Obj.canEnable = 1 ∧
    leAt [1] 0 1 = 1 ∧ leAt [2] 0 1 = 2 ∧ leAt [3] 0 1 = 3 ∧ leAt [4] 0 1 = 4 ∧ leAt [5, 3] 1 1 = 3 ∧
    (((moving.wake 2).bump64 Obj.canFramesRx 1).can.xfer = moving.can.xfer) ∧ moving.can.xfer.isSome = true ∧ moving.dark = false ∧ served.can.xfer = none ∧
    (open_.setObj Obj.heartbeatPeriod 100).obj Obj.heartbeatPeriod ≠ 0 := by
  decide +kernel

/-! ### Witnesses: the block as a whole -/

theorem wit_MemoryFormKept : Memory.wf State.reset.sram ∧ Memory.wf State.reset.dram ∧ Tab.Wf (fun _ => (0 : BitVec 16)) State.reset.ext :=
  ⟨by decide +kernel, by decide +kernel, trivial⟩

theorem test_cell_sign : cellSign (List.replicate 15 0xFF ++ [0x7F]) = 0 ∧ cellSign (List.replicate 15 0 ++ [0x80]) = 0xFFFF := by decide +kernel

theorem wit_PailWriteEffect : let s := (job id State.reset).setDom (Obj.pailPages 0) 0 [3]
    Tab.Wf (fun _ => (0 : BitVec 16)) s.ext ∧ 255 ∈ s.churnCells 4095 2 ∧ 256 ∉ s.churnCells 4095 2 :=
  ⟨trivial, by decide +kernel, by decide +kernel⟩

theorem wit_RegisterFrame : (issuing.vat 0).pc.toNat < vatSize ∧ fFn (wS 1 2 3 0 0) = 0 ∧ fImm (wS 1 2 3 0 0) = 0 ∧ fSb (wS 1 2 0 0 5) = 0 ∧
    exec (.add 0 (wS 1 2 3 0 0)) issuing = .next (issuing.setVat 0 ((issuing.vat 0).setS 1 0).retire) :=
  ⟨by decide +kernel, by decide +kernel, by decide +kernel, by decide +kernel, rfl⟩

theorem wit_EveryStepTakesOne : QueueWellFormed { State.reset with pending := [.gridTick, .time 0 (unit 3 2)] } := by
  unfold QueueWellFormed; decide +kernel

/-! ### Well-formedness: an ill-formed command for each check -/

theorem test_wf_unit : (Instr.time 0 ⟨0, zeros 240⟩).wellFormed = true ∧ (Instr.time 0 ⟨0, zeros 239⟩).wellFormed = false := by decide +kernel
theorem test_wf_message : (Instr.reply 0 (mkMsg 0x14 false 0 0 0 0 0 (zeros 64))).wellFormed = true ∧
    (Instr.reply 0 ⟨BitVec.ofNat 64 (2 ^ 53), zeros 15⟩).wellFormed = false ∧ (Instr.reply 0 ⟨BitVec.ofNat 64 (5 * 2 ^ 53), zeros 80⟩).wellFormed = false := by
  decide +kernel
theorem test_wf_can : (Instr.segment (zeros 12)).wellFormed = true ∧ (Instr.segment (zeros 13)).wellFormed = false ∧
    (Instr.canRead true []).wellFormed = false := by decide
theorem test_wf_mailbox : (Instr.mpMailboxPost 0 (List.replicate 17 0)).wellFormed = false := by decide
theorem test_wf_register : (Instr.registerWrite 4 true 0).wellFormed = false ∧ (Instr.registerWrite 2 false 0).wellFormed = false ∧
    (Instr.stagedHalfWrite 4 0).wellFormed = false ∧ (Instr.latchedRead 1).wellFormed = false := by decide
theorem test_wf_window : (Instr.hostDramRead (BitVec.ofNat 39 (2 ^ 39 - 1)) 2 []).wellFormed = false ∧ (Instr.hostSramRead 0 0).wellFormed = false ∧
    (Instr.hostSramWrite (BitVec.ofNat 31 (2 ^ 31 - 1)) [1, 2]).wellFormed = false ∧ (Instr.hostDramWrite 0 [] []).wellFormed = false := by decide
theorem test_wf_opcode : (Instr.undefinedOpcode 0 0x4000000000000000).wellFormed = false ∧
    (Instr.undefinedOpcode 0 0xFF00000000000000).wellFormed = true := by decide +kernel

/-! ### One step on a small state -/

/-- The state a command answers. -/
def after (c : Instr) (s : State) : State :=
  match exec c s with
  | .next t => t
  | _ => s

/-- 05 R202's worked example: LOOP S3, 5 is 0x4300_0C00_0000_0005, PREADY is 0x5200_0840_0010_0200, SADD is 0x5800_0001_0000_1007. -/
theorem test_words : wS 0 3 0 0 5 = 0x000C0000000005 ∧ wS 0 2 2 0 0x100200 = 0x00084000100200 ∧ wS 0 0 0 1 0x1007 = 0x00000100001007 ∧
    wS 1 1 0 0 4000 = 0x00840000000FA0 := by decide

/-- 05 R202's worked example, word by word: AMOVI, MOVI, LOOP, TWAIT, PREADY, SADD, ADDI, AADDI, HALT. -/
theorem test_worked_example : [0x2900800000002710, 0x2001800000000004, 0x43000C0000000005, 0x5000040000000000, 0x5200084000100200,
    0x5800000100001007, 0x2101080000000001, 0x2B00840000000FA0, 0x4400000000000000].map (fun w => instrOf 0 w) =
    [some (.amovi 0 (wS 1 0 0 0 10000)), some (.movi 0 (wS 3 0 0 0 4)), some (.loop 0 (wS 0 3 0 0 5)), some (.twait 0 (wS 0 1 0 0 0)),
     some (.pready 0 (wS 0 2 2 0 0x100200)), some (.sadd 0 (wS 0 0 0 1 0x1007)), some (.addi 0 (wS 2 2 0 0 1)), some (.aaddi 0 (wS 1 1 0 0 4000)),
     some (.halt 0 0)] := by decide +kernel
/-- 05 R167: an opcode of the reserved range, or one that its range leaves out, is no instruction. -/
theorem test_undefined_opcodes : (List.range 256).all (fun op => undefinedOp op == (instrOf 0 (BitVec.ofNat 64 (op * 2 ^ 56))).isNone) = true := by
  decide +kernel

theorem test_mulhs : ((after (.mulhs 0 (wS 1 2 3 0 0)) (vat0 (fun x => (x.setS 2 0x80000000).setS 3 2))).vat 0).s 1 = 0xFFFFFFFF := by decide +kernel
theorem test_sra_by_33 : ((after (.sra 0 (wS 1 2 3 0 0)) (vat0 (fun x => (x.setS 2 0x80000000).setS 3 33))).vat 0).s 1 = 0xC0000000 := by decide +kernel
theorem test_add_same_register : ((after (.add 0 (wS 2 2 2 0 0)) (vat0 (fun x => x.setS 2 0xC0000001))).vat 0).s 2 = 0x80000002 := by decide +kernel
theorem test_s0_discards : ((after (.movi 0 (wS 0 0 0 0 9)) issuing).vat 0).s 0 = 0 ∧ ((after (.movi 0 (wS 0 0 0 0 9)) issuing).vat 0).pc = 8 := by
  decide +kernel
theorem test_aaddi_negative : ((after (.aaddi 0 (wS 1 2 0 0 0xFFFFFFFF)) issuing).vat 0).a 1 = 0xFFFFFFFFFFFF := by decide +kernel
theorem test_loop_back : let s := vat0 (fun x => { x with pc := 16, loops := [⟨8, 16, 2, 0⟩] })
    ((after (.nop 0 0) s).vat 0).pc = 8 ∧ ((after (.nop 0 0) s).vat 0).loops = [⟨8, 16, 1, 1⟩] := by decide +kernel
theorem test_branch_back : ((after (.br 0 (wS 0 0 0 0 0xFFFFFFFF)) (vat0 (fun x => { x with pc := 64 }))).vat 0).pc = 56 := by decide +kernel
theorem test_store_little_endian : let t := after (.st 0 (wS 1 2 0 0 4)) (vat0 (fun x => x.setS 1 0x11223344))
    t.sramRead (vatBase 0 + 4) 4 = [0x44, 0x33, 0x22, 0x11] ∧ t.sramRead (vatBase 0 + 8) 1 = [0] := by decide +kernel
theorem test_unused_field_faults : ((after (.add 0 (wS 1 2 3 0 1)) issuing).vat 0).stopped = true ∧
    ((after (.add 0 (wS 1 2 3 0 1)) issuing).vat 0).pc = 0 := by decide +kernel
theorem test_vadd_one_and_one : let s := vat0 (fun x => x.setV 1 (List.replicate 64 0x3F800000))
    ((after (.vadd 0 (wV 2 1 1 0 0 0 0 0 0)) s).vat 0).lane 2 63 = 0x40000000 := by decide +kernel
theorem test_spadd_overflow_faults : let s := after (.spOpAdd (BitVec.ofNat 64 (8 * 2 ^ 32))) synced
    (s.counter 0).value = 3 ∧ (after (.spOpAdd (BitVec.ofNat 64 (7 * 2 ^ 32))) synced |>.counter 0).value = 10 := by decide +kernel
theorem test_grid_tick : (after .gridTick State.reset).times.ftime = 16 := by decide +kernel
theorem test_snap_free : (after (.snapTake 1) { State.reset with times := { State.reset.times with ftime := 77 } }).times.snapF = 77 := by decide +kernel
theorem test_sram_clear : (after .sramClearDone State.reset).host.sram = true := by decide +kernel
theorem test_wstat : let s := vat0 (fun x => x.setBank 0 ⟨BitVec.ofInt 10 (-8), true, false, 5⟩)
    ((runWstat s 0 ⟨0x67, wM 0 0 0 0 0 1 0 0 0 0 0, 0, 0, 0, 0, 0, 0, 0⟩).1.vat 0).s 1 = 0x800003F8 := by decide +kernel

/-! ### Worked examples of the spec -/

/-- 03 R131: the vectors of rng32. -/
theorem test_rng32 : rng32 0 0 0 1 = 0xA67B5843 ∧ rng32 0 1 0 1 = 0xC2DD793E := by decide +kernel
/-- 03, ternary: the byte of +1, 0, −1, −1, +1 is 0xA7. -/
theorem test_trits : (List.range 5).map (trit 0xA7) = [1, 0, -1, -1, 1] := by decide +kernel
/-- 03 R132's table: products in window units of 2^-8, truncated towards minus infinity. -/
theorem test_window : truncWindow ⟨-160, -16⟩ (-8) = (-1, true) ∧ truncWindow ⟨-75, 0⟩ (-8) = (-19200, false) ∧ truncWindow ⟨1, -9⟩ (-8) = (0, true) := by
  decide +kernel
/-- 09 R351's example: the hold field 0x98_0100_2832. -/
theorem test_hold_field : holdField 3 ⟨2, 1074, some 10, 0, false⟩ = 0x9801002832 := by decide +kernel
/-- 09 R365's example: 32 credits advertised, 0x005 sent, last return 0xFF0: 11 remain. -/
theorem test_credit : ({ Credit.reset 48 with advHdr := 32, sentHdr := 0x005, retHdr := 0xFF0 } : Credit).left.1 = 11 := by decide +kernel
/-- 01 R30: MANT has seven bits: 127 is the longest at scale 0 and 127 · 16 = 2,032 at scale 1, so 2,033 takes 8 · 256. -/
theorem test_duration : encodable 2033 = 2048 ∧ encodable 127 = 127 ∧ encodable 128 = 128 ∧ encodable 129 = 144 := by decide +kernel

end Sys2Proof.Tests
end

section
/-! PROOFS. The scope chapter's statements (00): a grid tick (O25), 64-bit registers read as halves (O47), and what reset leaves (O57). -/
namespace Sys2Proof.Machine
open Sys2Proof

/-! ### The grid tick (01 R11-R21) -/

/-- A module that is not dark is not in OFF. -/
theorem State.power_off_of_not_dark {s : State} (h : s.dark = false) : s.power.off = false := by
  simp only [State.dark, Bool.or_eq_false_iff] at h
  exact h.1.1

theorem runs_gridTick_of_off {s : State} (h : s.power.off = true) : Runs .gridTick s s :=
  runs_of_answer rfl (if_pos h)

theorem runs_gridTick_of_dark {s : State} (ho : s.power.off = false) (hd : s.dark = true) : Runs .gridTick s s.advanceAtime :=
  runs_of_answer rfl (by rw [if_neg (by simp [ho]), if_pos hd])

/-- The whole tick of a module that is neither in OFF nor in DEEP. -/
theorem runs_gridTick_of_not_dark {s : State} (hd : s.dark = false) :
    Runs .gridTick s s.settleTicks.advanceTime.ctxTicks.portTicks.drainVats.pump.settlePower.fallAll :=
  runs_of_answer rfl (by rw [if_neg (by simp [State.power_off_of_not_dark hd]), if_neg (by simp [hd])])

/-- With no rate correction a tick adds 256 · 2^32 units of 2^-32 / 100 ns, which is 2.56 ns, to HTIME (R20). -/
theorem State.advanceTime_htime {s : State} (h : s.times.hrate = 0) :
    s.advanceTime.times.htime = s.times.htime + BitVec.ofNat 64 ((s.times.hfrac + 256 * 2 ^ 32) / (100 * 2 ^ 32)) := by
  have step : 4 * (64 * ((2 ^ 32 : Int) + s.times.hrate.toInt)).toNat = 256 * 2 ^ 32 := by rw [h]; decide
  simp only [State.advanceTime, step]

/-- Settles O25: the three branches of the tick's meaning, and the time bases field by field. -/
theorem gridTickResults : Obligations.GridTickResults := fun _ =>
  ⟨runs_gridTick_of_off, runs_gridTick_of_dark, fun _ => runs_gridTick_of_not_dark, rfl, rfl, rfl, rfl,
    fun hrate _ => State.advanceTime_htime hrate, rfl⟩

/-! ### 64-bit registers read as halves (00 R9) -/

/-- Through an awake door the host's access reaches the module as it is. -/
theorem State.byHost_of_ready {s : State} (f : State → State) (hd : s.dark = false) (hr : s.hostReady = true) : s.byHost f = f s := by
  simp [State.byHost, State.hostIn, hd, hr]

/-- An aligned LATCHED_READ returns what `read32` reads of the state in which the sync port's due answers have settled. -/
theorem runs_latchedRead {s u t : State} {off : BitVec 24} {n : Nat} (hd : s.dark = false) (hr : s.hostReady = true)
    (ha : off.toNat % 4 = 0) (hu : (if off.toNat / 0x10000 = 5 then s.rdSettle.wSettle else s) = u)
    (ht : u.read32 off.toNat = (n, t)) : Runs (.latchedRead off) s (t.emit (.readData (leBytes 4 n))) :=
  runs_of_answer rfl (by rw [State.byHost_of_ready _ hd hr]; simp [State.bar0Read, ha, hu, ht])

/-- A read of the lower half returns it and latches the upper half, in place of an older latch. -/
theorem State.read32_lower {s : State} {off v : Nat} (hack : ackMailbox off = none) (hreg : s.reg off = some (8, v)) :
    s.read32 off = (v % 2 ^ 32, { s with times := { s.times with
      latches := (off, BitVec.ofNat 32 (v / 2 ^ 32)) :: s.times.latches.filter (fun e => e.1 != off) } }) := by
  simp only [State.read32, hack, hreg]

/-- A read of the upper half returns the latch that stands for the register, and uses it up. -/
theorem State.read32_upper {s : State} {off v k : Nat} {w : W32} (hack : ackMailbox (off + 4) = none) (hnone : s.reg (off + 4) = none)
    (hreg : s.reg off = some (8, v)) (hlatch : s.times.latches.find? (fun e => e.1 == off) = some (k, w)) :
    s.read32 (off + 4) = (w.toNat, { s with times := { s.times with latches := s.times.latches.filter (fun e => e.1 != off) } }) := by
  simp [State.read32, hack, hnone, hreg, hlatch]

/-- Once a register's older latches are dropped, the new one is the only one that stands for it. -/
theorem filter_key_cons_filter_other {α : Type} (l : List (Nat × α)) (k : Nat) (w : α) :
    ((k, w) :: l.filter (fun e => e.1 != k)).filter (fun e => e.1 == k) = [(k, w)] := by
  simp [List.filter_filter]

/-- Settles O47: one read of each half, both in the register's own page of BAR0. -/
theorem latchedHalves : Obligations.LatchedHalves := by
  intro s low high hd hr hlow hhigh hackLow hackHigh u hnone v hreg t
  have page : high.toNat / 0x10000 = low.toNat / 0x10000 := by omega
  refine ⟨runs_latchedRead hd hr (by omega) rfl (State.read32_lower hackLow hreg), filter_key_cons_filter_other _ _ _, fun w hlatch => ?_⟩
  rw [hhigh] at hackHigh hnone
  exact runs_latchedRead hd hr (by omega) (by rw [page]) (hhigh ▸ State.read32_upper hackHigh hnone hreg hlatch)

/-! ### What reset leaves (00 R7; 02 R590; 13 R475) -/

/-- `bitOf` of a word is the word's bit. -/
theorem bitOf_toNat {w : Nat} (x : BitVec w) (i : Nat) : bitOf x.toNat i = x.getLsbD i := by
  rw [← BitVec.testBit_toNat, Nat.testBit_eq_decide_div_mod_eq, bitOf, beq_eq_decide]

/-- SRAM that nothing has written reads as zeros. -/
theorem State.sramRead_of_sram_nil {s : State} (h : s.sram = []) (a n : Nat) : s.sramRead a n = List.replicate n 0 := by
  simp [State.sramRead, Tab.read, h, Tab.get, memDefault]

/-- Reset lists no unit, so each one is as nothing has written it. -/
@[simp] theorem State.reset_vat (v : Nat) : State.reset.vat v = VatState.reset := rfl

@[simp] theorem State.reset_ctx (c : Nat) : State.reset.ctx c = CtxState.reset := rfl

@[simp] theorem State.reset_port (p : Nat) : State.reset.port p = PortState.reset p := rfl

theorem VatState.reset_s (r : Nat) : VatState.reset.s r = 0 := ite_self 0

theorem CtxState.reset_bank (b : Nat) : CtxState.reset.bank b = .empty := ite_self _

/-- A masked vector becomes pending and sends nothing (R475). -/
theorem State.signal_of_masked {s : State} {n : Nat} (h : s.host.masked.getLsbD n = true) :
    s.signal n = { s with host := { s.host with pendingV := s.host.pendingV ||| BitVec.ofNat 64 (2 ^ n) } } :=
  if_pos ((bitOf_toNat _ _).trans h)

/-- Reset masks every vector and leaves none pending. -/
theorem State.reset_signal {n : Nat} (h : n < 64) :
    State.reset.signal n = { State.reset with host := { State.reset.host with pendingV := BitVec.ofNat 64 (2 ^ n) } } := by
  have masked : State.reset.host.masked.getLsbD n = true := BitVec.getLsbD_allOnes.trans (decide_eq_true h)
  have pending : State.reset.host.pendingV = 0#64 := rfl
  rw [State.signal_of_masked masked, pending, BitVec.zero_or]

/-- Settles O57, unit by unit; no command waits, and memory lists no cell. -/
theorem resetState : Obligations.ResetState := by
  refine ⟨State.sramRead_of_sram_nil rfl, fun _ => rfl, fun v r => ?vats, fun c b => ?contexts, fun p => ?ports, fun _ => rfl,
    fun _ => State.reset_signal, fun _ => rfl, rfl, rfl, ?queue, Memory.nil_wf, Memory.nil_wf, trivial⟩
  case vats =>
    rw [State.reset_vat]
    exact ⟨rfl, VatState.reset_s r, rfl, rfl⟩
  case contexts =>
    rw [State.reset_ctx]
    exact ⟨rfl, CtxState.reset_bank b, rfl⟩
  case ports =>
    rw [State.reset_port]
    exact ⟨rfl, rfl⟩
  case queue => exact fun _ h => absurd h List.not_mem_nil

end Sys2Proof.Machine
end

section
/-! PROOFS. Hold durations and the 40-bit hold field (01 R29-R34): the field round trip (O28), the rounding of a need (O29), and the start a
receiver reconstructs (O27). -/
namespace Sys2Proof.Machine
open Sys2Proof

/-! ### Rounding a need up to a representable duration (R30)

Both `ceilDiv` and `holdScale` are least solutions of an inequality; each is said once as such, and the rounding facts follow from that. -/

/-- Division rounded up is the least multiplier that covers. -/
theorem ceilDiv_le_iff {a b c : Nat} (hb : 0 < b) : ceilDiv a b ≤ c ↔ a ≤ c * b := by
  rw [Nat.mul_comm]
  exact ceilDiv_le_iff_le_mul hb

theorem holdScale_le_three (d : Nat) : holdScale d ≤ 3 := by
  unfold holdScale
  split_ifs <;> omega

/-- A scale below the last suffices for just the durations that its largest mantissa covers. -/
theorem holdScale_le_iff {d k : Nat} (hk : k < 3) : holdScale d ≤ k ↔ d ≤ 127 * 16 ^ k := by
  unfold holdScale
  interval_cases k <;> split_ifs <;> omega

/-- Within the longest hold the largest mantissa covers a duration at its own scale. -/
theorem le_mul_holdScale {d : Nat} (h : d ≤ longestHold) : d ≤ 127 * 16 ^ holdScale d := by
  obtain hd | hd := (holdScale_le_three d).lt_or_eq
  · exact (holdScale_le_iff hd).1 le_rfl
  · rw [hd]
    exact h.trans (by decide)

theorem encodable_eq {n : Nat} (h0 : 0 < n) (h : n ≤ longestHold) :
    encodable n = ceilDiv n (16 ^ holdScale n) * 16 ^ holdScale n := by
  simp only [encodable, min_eq_left h, max_eq_right (Nat.one_le_of_lt h0)]

/-- `encodable` first brings a need within the range of the finite durations. -/
theorem encodable_clamp (n : Nat) : encodable n = encodable (max 1 (min n longestHold)) := by
  have h : max 1 (min (max 1 (min n longestHold)) longestHold) = max 1 (min n longestHold) := by simp only [longestHold]; omega
  simp only [encodable, h]

theorem le_encodable {n : Nat} (h0 : 0 < n) (h : n ≤ longestHold) : n ≤ encodable n := by
  rw [encodable_eq h0 h]
  exact (ceilDiv_le_iff (by positivity)).1 le_rfl

/-- No representable duration that covers a need is smaller than its rounding: a scale that covers the need is at least the need's own. -/
theorem encodable_le_mul {n m k : Nat} (h0 : 0 < n) (h : n ≤ longestHold) (hm : m ≤ 127) (hk : k ≤ 3) (hn : n ≤ m * 16 ^ k) :
    encodable n ≤ m * 16 ^ k := by
  have scale : holdScale n ≤ k := by
    obtain hk | rfl := hk.lt_or_eq
    · exact (holdScale_le_iff hk).2 (hn.trans (Nat.mul_le_mul_right _ hm))
    · exact holdScale_le_three n
  have split : m * 16 ^ k = m * 16 ^ (k - holdScale n) * 16 ^ holdScale n := by rw [Nat.mul_assoc, Nat.pow_sub_mul_pow 16 scale]
  rw [split] at hn ⊢
  rw [encodable_eq h0 h]
  exact Nat.mul_le_mul_right _ ((ceilDiv_le_iff (by positivity)).2 hn)

theorem encodable_le_longestHold (n : Nat) : encodable n ≤ longestHold := by
  have top : max 1 (min n longestHold) ≤ longestHold := by simp only [longestHold]; omega
  rw [encodable_clamp]
  exact encodable_le_mul (m := 126) (k := 3) (by omega) top (by omega) (by omega) top

/-- Rounding a need up gives a duration that rounding leaves alone. -/
theorem encodable_encodable {n : Nat} (h0 : 0 < n) (h : n ≤ longestHold) : encodable (encodable n) = encodable n := by
  have pos : 0 < encodable n := h0.trans_le (le_encodable h0 h)
  have top := encodable_le_longestHold n
  have mant : ceilDiv n (16 ^ holdScale n) ≤ 127 := (ceilDiv_le_iff (by positivity)).2 (le_mul_holdScale h)
  have eq := encodable_eq h0 h
  exact le_antisymm ((encodable_le_mul pos top mant (holdScale_le_three n) eq.le).trans_eq eq.symm) (le_encodable pos top)

/-! ### Mantissa and scale (R30) -/

/-- A duration that rounding leaves alone is a whole number of its scale's units. -/
theorem unit_dvd_of_encodable {d : Nat} (h0 : 0 < d) (hd : encodable d = d) : 16 ^ holdScale d ∣ d := by
  have h := encodable_eq h0 (hd ▸ encodable_le_longestHold d)
  rw [hd] at h
  exact ⟨_, h.trans (Nat.mul_comm _ _)⟩

/-- Mantissa and scale of a representable duration: the mantissa has seven bits and is not zero, the scale two, and they encode the duration. -/
theorem durFields_of_encodable {d : Nat} (h0 : 0 < d) (hd : encodable d = d) :
    0 < (durFields (some d)).1 ∧ (durFields (some d)).1 < 128 ∧ (durFields (some d)).2 < 4 ∧
      fieldsDur (durFields (some d)).1 (durFields (some d)).2 = some d := by
  have top : d ≤ longestHold := hd ▸ encodable_le_longestHold d
  have whole : d / 16 ^ holdScale d * 16 ^ holdScale d = d := Nat.div_mul_cancel (unit_dvd_of_encodable h0 hd)
  have unit : 0 < 16 ^ holdScale d := by positivity
  have finite : ¬ (holdScale d = 3 ∧ d / 16 ^ holdScale d = 127) := by
    rintro ⟨hs, hm⟩
    rw [hm, hs] at whole
    exact absurd top (whole ▸ by decide)
  exact ⟨Nat.div_pos (Nat.le_of_dvd h0 (unit_dvd_of_encodable h0 hd)) unit,
    Nat.lt_succ_of_le (Nat.div_le_of_le_mul (Nat.mul_comm _ _ ▸ le_mul_holdScale top)), Nat.lt_succ_of_le (holdScale_le_three d),
    (if_neg finite).trans (congrArg some whole)⟩

/-- The same for the durations a record can have, of which the indefinite one has the largest mantissa and scale. -/
theorem durFields_of_representable {o : Option Nat} (h : o = none ∨ ∃ d, o = some d ∧ encodable d = d ∧ 0 < d) :
    0 < (durFields o).1 ∧ (durFields o).1 < 128 ∧ (durFields o).2 < 4 ∧ fieldsDur (durFields o).1 (durFields o).2 = o := by
  obtain rfl | ⟨d, rfl, hd, h0⟩ := h
  · decide
  · exact durFields_of_encodable h0 hd

/-! ### The 40-bit hold field (R29) -/

theorem b2n_lt_two (b : Bool) : b2n b < 2 := by cases b <;> decide

theorem b2n_beq_one (b : Bool) : (b2n b == 1) = b := by cases b <;> rfl

/-- The fields of a hold field, from V down to START, when mantissa and scale fit theirs. -/
theorem holdField_fields {jobn : Nat} {h : HoldRec} (hj : jobn < 16) (hc : h.cause < 8) (hm : (durFields h.dur).1 < 128)
    (hs : (durFields h.dur).2 < 4) :
    holdField jobn h < 2 ^ 40 ∧ holdField jobn h / 2 ^ 39 = 1 ∧ fld (holdField jobn h) 35 4 = jobn ∧
      fld (holdField jobn h) 23 12 = h.origin.toNat ∧ fld (holdField jobn h) 20 3 = h.cause ∧ bitOf (holdField jobn h) 19 = h.power ∧
      fld (holdField jobn h) 17 2 = (durFields h.dur).2 ∧ fld (holdField jobn h) 10 7 = (durFields h.dur).1 ∧
      holdField jobn h % 1024 = h.start % 1024 := by
  have eq : holdField jobn h = 2 ^ 39 + jobn * 2 ^ 35 + h.origin.toNat * 2 ^ 23 + h.cause * 2 ^ 20 + b2n h.power * 2 ^ 19 +
    (durFields h.dur).2 * 2 ^ 17 + (durFields h.dur).1 * 2 ^ 10 + h.start % 1024 := rfl
  have ho := h.origin.isLt
  have hp := b2n_lt_two h.power
  have power : bitOf (holdField jobn h) 19 = h.power := by
    rw [bitOf, show holdField jobn h / 2 ^ 19 % 2 = b2n h.power by omega, b2n_beq_one]
  simp only [fld]
  refine ⟨?_, ?_, ?_, ?_, ?_, power, ?_, ?_, ?_⟩ <;> omega

/-- Settles O28: the field's parts lie side by side, and mantissa and scale encode the record's duration. -/
theorem holdFieldRoundTrip : Obligations.HoldFieldRoundTrip := by
  intro jobn h t hj hc hd
  obtain ⟨hm0, hm, hs, dur⟩ := durFields_of_representable hd
  obtain ⟨fits, valid, job, origin, cause, power, scale, mant, start⟩ := holdField_fields hj hc hm hs
  refine ⟨fits, valid, job, start, fun h0 => hm0.ne' (mant.symm.trans h0), ?_⟩
  simp only [fieldRec, origin, cause, power, scale, mant, dur, BitVec.ofNat_toNat, BitVec.setWidth_eq]

/-- Settles O29: the rounding covers the need, is itself representable, and no representable duration that covers the need is below it. -/
theorem durationRounding : Obligations.DurationRounding := by
  intro n h0 h
  have pos : 0 < encodable n := h0.trans_le (le_encodable h0 h)
  exact ⟨le_encodable h0 h, encodable_le_longestHold n, (durFields_of_encodable pos (encodable_encodable h0 h)).2.2.2,
    fun m k hm hk _ hn => encodable_le_mul h0 h hm hk hn⟩

/-! ### The start a receiver reconstructs (R32) -/

/-- Settles O27: the window holds 1,024 ticks, so one value of each residue. -/
theorem holdStartReconstruction : Obligations.HoldStartReconstruction := by
  intro now start t
  unfold reconstruct
  constructor
  · rintro rfl
    omega
  · rintro ⟨lower, upper, residue⟩
    omega

end Sys2Proof.Machine
end

section
/-! PROOFS. Hold requests that arrive, releases and extensions (O26), and arming a launch (O30; 01 R29-R45, R54-R57, R593). -/
namespace Sys2Proof.Machine
open Sys2Proof

/-! ### A hold field arrives (R29, R32, R36, R39) -/

/-- A field from bit 0 is a remainder. -/
theorem fld_zero (x n : Nat) : fld x 0 n = x % 2 ^ n := by rw [fld, Nat.pow_zero, Nat.div_one]

theorem State.holdArrive_of_not_valid {s : State} {p f : Nat} (hv : bitOf f 39 = false) : s.holdArrive p f = s := by
  simp [State.holdArrive, hv]

theorem State.holdArrive_of_no_job {s : State} {p f : Nat} (hv : bitOf f 39 = true) (hj : s.ctxOfJob (fld f 35 4) = none) :
    s.holdArrive p f = s.discardHold p f := by
  simp [State.holdArrive, hv, hj]

section
variable {s : State} {p f c : Nat} (hv : bitOf f 39 = true) (hj : s.ctxOfJob (fld f 35 4) = some c)
include hv hj

theorem State.holdArrive_of_no_mantissa (hm : fld f 10 7 = 0) : s.holdArrive p f = s.log (srcSched c) 0x0011 (leBytes 5 f) := by
  simp [State.holdArrive, hv, hj, hm]

theorem State.holdArrive_of_armed (hm : fld f 10 7 ≠ 0) (ha : (s.ctx c).job = .armed) :
    s.holdArrive p f = s.acceptHold c (fieldRec f (preLaunchStart (fld f 0 10))) (some p) := by
  simp [State.holdArrive, hv, hj, hm, ha]

/-- A request for a running job is judged by the one start its field names near STIME. -/
theorem State.holdArrive_of_running (hm : fld f 10 7 ≠ 0) (hr : (s.ctx c).job = .running) :
    s.holdArrive p f =
      if (s.ctx c).lateFor (reconstruct (s.ctx c).stime (fld f 0 10)) (BitVec.ofNat 12 (fld f 23 12)) then
        s.fault c (schedMiss (srcSched c) 0x14)
      else s.acceptHold c (fieldRec f (reconstruct (s.ctx c).stime (fld f 0 10)).toNat) (some p) := by
  simp [State.holdArrive, hv, hj, hm, hr]

end

/-! ### Releases and extensions (R31, R40, R45, R51) -/

theorem runs_holdRelease {s : State} {c : CtxId} (hd : (s.ctx c).deferred = true) (hh : (s.ctx c).hold.isSome = true) :
    Runs (.holdRelease c) s (s.resume c) :=
  runs_of_answer rfl (if_pos (by rw [hd, hh]; rfl))

theorem runs_softResumeWindow {s : State} {c : CtxId} (hd : (s.ctx c).deferred = true) (hh : (s.ctx c).hold = none) :
    Runs (.softResumeWindow c) s (s.resume c) :=
  runs_of_answer rfl (if_pos (by rw [hd, hh]; rfl))

/-- With no tick waiting, neither a release nor a soft resume's window runs one. -/
theorem runs_resume_of_not_deferred {s : State} {c : CtxId} (hd : (s.ctx c).deferred = false) :
    Runs (.holdRelease c) s s ∧ Runs (.softResumeWindow c) s s :=
  ⟨runs_of_answer rfl (if_neg (by simp [hd])), runs_of_answer rfl (if_neg (by simp [hd]))⟩

/-- One record of this module that is due and still needed is lengthened by its need. -/
theorem runs_extensionCheck_one {s : State} {c : CtxId} {t len : Nat} {w : Raiser}
    (hdue : (s.ctx c).raised.filter (fun e => s.untilRelease c e.1 == some (s.lead c)) = [(t, w)]) (hlen : s.ownLen c t = some len)
    (hneed : s.stillNeeds c w ≠ 0) : Runs (.extensionCheck c) s (s.extendBy c t len (s.stillNeeds c w) w) :=
  runs_of_answer rfl (by rw [hdue]; simp [hlen, hneed])

theorem runs_extensionCheck_none {s : State} {c : CtxId}
    (hdue : (s.ctx c).raised.filter (fun e => s.untilRelease c e.1 == some (s.lead c)) = []) : Runs (.extensionCheck c) s s :=
  runs_of_answer rfl (by rw [hdue, List.foldl_nil])

/-- Settles O26: a field's arrival by V, job, mantissa and the job's state; then releases and extensions. -/
theorem holdResults : Obligations.HoldResults := by
  have valid (f : BitVec 40) : bitOf f.toNat 39 = f.getLsbD 39 := bitOf_toNat f 39
  have start (f : BitVec 40) : fld f.toNat 0 10 = f.toNat % 1024 := fld_zero f.toNat 10
  refine fun s => ⟨?invalid, ?noJob, ?running, ?early, fun c => runs_resume_of_not_deferred,
    fun c hd => ⟨runs_holdRelease hd, runs_softResumeWindow hd⟩, fun c => runs_extensionCheck_none, fun c t w len => runs_extensionCheck_one⟩
  case invalid => exact fun p f hv => runs_of_answer rfl (State.holdArrive_of_not_valid ((valid f).trans hv))
  case noJob => exact fun p f hv hj => runs_of_answer rfl (State.holdArrive_of_no_job ((valid f).trans hv) hj)
  case running =>
    intro p f c hv hj hr hm t origin
    have arrive := State.holdArrive_of_running (p := p) ((valid f).trans hv) hj hm hr
    rw [start f] at arrive
    exact ⟨fun late => runs_of_answer rfl (arrive.trans (if_pos late)),
      fun inTime => runs_of_answer rfl (arrive.trans (if_neg (Bool.eq_false_iff.1 inTime)))⟩
  case early =>
    intro p f c hv hj
    refine ⟨fun hm => runs_of_answer rfl (State.holdArrive_of_no_mantissa ((valid f).trans hv) hj hm), fun hm ha => runs_of_answer rfl ?_⟩
    rw [State.holdArrive_of_armed ((valid f).trans hv) hj hm ha, preLaunchStart, start f]

/-! ### Arming a launch (R54-R57, R593) -/

theorem State.armLaunch_of_busy {s : State} {c : Nat} (b : Bool) (hb : (s.ctx c).busy = true) :
    s.armLaunch c b = s.withStatus stWrongState := if_pos hb

theorem State.armLaunch_of_no_fails {s : State} {c : Nat} {b : Bool} (hb : (s.ctx c).busy = false) (hf : s.armFails c b = []) :
    s.armLaunch c b = (s.armJob c b).ok := by
  simp [State.armLaunch, hb, hf]

/-- Of several failing checks one is reported; only the count of free values taken changes besides the answer. -/
theorem State.armLaunch_of_fails {s : State} {c : Nat} {b : Bool} (hb : (s.ctx c).busy = false) (hf : s.armFails c b ≠ []) :
    ∃ st ∈ s.armFails c b, s.armLaunch c b = ({ s with fresh := s.fresh + 1 } : State).withStatus st := by
  obtain ⟨st, rest, hl⟩ := List.exists_cons_of_ne_nil hf
  have hi : Config.freeChoice s.fresh % (rest.length + 1) < (st :: rest).length := Nat.mod_lt _ (Nat.succ_pos _)
  refine ⟨(st :: rest).getD (Config.freeChoice s.fresh % (rest.length + 1)) st, ?_, ?_⟩
  · rw [hl, List.getD_eq_getElem _ _ hi]
    exact List.getElem_mem hi
  · simp only [State.armLaunch, hb, hl, Bool.false_eq_true, if_false]

/-- LAUNCH_ARM IDLE goes by the job's state alone. -/
theorem runs_launchArmIdle (s : State) (c : CtxId) : Runs (.launchArmIdle c) s
    (if (s.ctx c).job = .armed then (s.resetCtx c 1).ok else if (s.ctx c).job = .running then s.withStatus stWrongState else s.ok) := by
  refine runs_of_answer rfl ?_
  cases (s.ctx c).job <;> rfl

/-- Settles O30: the claims and the refusals of both armings, and IDLE by the job's state. -/
theorem launchArmResults : Obligations.LaunchArmResults := by
  intro s c
  have idle := runs_launchArmIdle s c
  refine ⟨fun hb hf => runs_of_answer rfl (State.armLaunch_of_no_fails hb hf), fun hb hf => runs_of_answer rfl (State.armLaunch_of_no_fails hb hf),
    fun hb => ⟨runs_of_answer rfl (State.armLaunch_of_busy true hb), runs_of_answer rfl (State.armLaunch_of_busy false hb)⟩,
    fun hb => ⟨fun hf => (State.armLaunch_of_fails hb hf).imp fun _ h => h.imp_right (runs_of_answer rfl),
      fun hf => (State.armLaunch_of_fails hb hf).imp fun _ h => h.imp_right (runs_of_answer rfl)⟩,
    fun ha => ?armed, fun hr => ?running, fun ha hr => ?neither⟩
  case armed => rwa [if_pos ha] at idle
  case running => rwa [if_neg (by simp [hr]), if_pos hr] at idle
  case neither => rwa [if_neg ha, if_neg hr] at idle

end Sys2Proof.Machine
end

section
/-! PROOFS. Compare units, capture, pulses, snapshots and corrections of the time bases (O24; 01 R14, R20-R22, R58-R66). -/
namespace Sys2Proof.Machine
open Sys2Proof

/-! ### Signed differences (R58) -/

/-- The signed value of a number modulo 2^w is its balanced remainder. -/
theorem sgn_wrap {w : Nat} (hw : 0 < w) (i : Int) : sgn w (wrap w i) = i.bmod (2 ^ w) := by
  have whole := mul_pow_sub_one hw.ne' (2 : Int)
  have nonneg : 0 ≤ i % 2 ^ w := Int.emod_nonneg _ (by positivity)
  have lt : i % 2 ^ w < 2 ^ w := Int.emod_lt_of_pos _ (by positivity)
  have cast : ((wrap w i : Nat) : Int) = i % 2 ^ w := by simp [wrap, Int.toNat_of_nonneg nonneg]
  have small : wrap w i % 2 ^ w = wrap w i := Nat.mod_eq_of_lt (by zify; rwa [cast])
  have half : wrap w i < 2 ^ (w - 1) ↔ i % 2 ^ w < ((2 : Int) ^ w + 1) / 2 := by
    zify
    rw [cast]
    omega
  rw [Int.bmod_def, sgn, small]
  push_cast
  simp only [cast, half]

/-- A signed difference is whatever small number it is congruent to. -/
theorem sgn_wrap_eq {w : Nat} (hw : 0 < w) {i r : Int} (h : (2 : Int) ^ w ∣ i - r) (lower : -2 ^ (w - 1) ≤ r) (upper : r < 2 ^ (w - 1)) :
    sgn w (wrap w i) = r := by
  have whole := mul_pow_sub_one hw.ne' (2 : Int)
  rw [sgn_wrap hw, Int.bmod_eq_iff (by positivity)]
  push_cast
  exact ⟨by omega, by omega, (dvd_sub_comm).1 h⟩

theorem sgn_wrap_dvd {w : Nat} (hw : 0 < w) (i : Int) : (2 : Int) ^ w ∣ i - sgn w (wrap w i) := by
  rw [sgn_wrap hw, dvd_sub_comm]
  exact_mod_cast Int.dvd_bmod_sub_self

theorem sgn_wrap_bounds {w : Nat} (hw : 0 < w) (i : Int) : -2 ^ (w - 1) ≤ sgn w (wrap w i) ∧ sgn w (wrap w i) < 2 ^ (w - 1) := by
  have whole := mul_pow_sub_one hw.ne' (2 : Int)
  have lower := Int.le_bmod (x := i) (m := 2 ^ w) (by positivity)
  have upper := Int.bmod_lt (x := i) (m := 2 ^ w) (by positivity)
  rw [sgn_wrap hw]
  push_cast at lower upper
  omega

/-! ### A compare unit that has fired (R59) -/

theorem Compare.width_pos (u : Compare) : 0 < u.width := by
  unfold Compare.width
  split <;> decide

theorem Compare.width_le (u : Compare) : u.width ≤ 64 := by
  unfold Compare.width
  split <;> decide

/-- The period a unit adds, at its base's width. -/
def Compare.step (u : Compare) : Nat := u.period.toNat % 2 ^ u.width

/-- The signed difference between a time and the first target after the one that has come. -/
def Compare.past (u : Compare) (now : Nat) : Int := sgn u.width (wrap u.width ((now : Int) - u.target.toNat - u.step))

/-- How many targets after the first one have come as well: those a unit skips and counts in MISSED. -/
def Compare.skips (u : Compare) (now : Nat) : Nat := if 0 ≤ u.past now then (u.past now).toNat / u.step + 1 else 0

theorem Compare.advance_periodic {u : Compare} (now : Nat) (hm : u.mode = 1) (hp : u.step ≠ 0) :
    u.advance now = { u with fired := true, target := BitVec.ofNat 64 ((u.target.toNat + (u.skips now + 1) * u.step) % 2 ^ u.width),
                             missed := BitVec.ofNat 16 (min 0xFFFF (u.missed.toNat + u.skips now)) } :=
  if_pos ⟨hm, hp⟩

theorem Compare.advance_once {u : Compare} (now : Nat) (hm : u.mode = 0) : u.advance now = { u with fired := true, armed := false } :=
  if_neg fun h => absurd (hm.symm.trans h.1) (by decide)

/-- Skipped targets are those the passed time reaches. -/
theorem Compare.le_past_of_lt_skips {u : Compare} {now j : Nat} (hj : j < u.skips now) : (j * u.step : Nat) ≤ u.past now := by
  unfold Compare.skips at hj
  split at hj
  · have := Nat.mul_le_of_le_div _ _ _ (Nat.le_of_lt_succ hj)
    omega
  · omega

/-- The target a unit stops at is one the passed time does not reach, by at most one period where the first one had come. -/
theorem Compare.past_lt_skips {u : Compare} (now : Nat) (hp : u.step ≠ 0) :
    u.past now < (u.skips now * u.step : Nat) ∧ (0 ≤ u.past now → (u.skips now * u.step : Nat) ≤ u.past now + u.step) ∧
      (u.past now < 0 → u.skips now = 0) := by
  unfold Compare.skips
  split
  · next h =>
    have upper := Nat.lt_mul_div_succ (u.past now).toNat (Nat.pos_of_ne_zero hp)
    have lower := Nat.mul_div_le (u.past now).toNat u.step
    rw [Nat.mul_comm] at upper lower
    rw [Nat.add_mul] at upper ⊢
    omega
  · next h => omega

/-- The signed difference to a target some periods on is the passed time less those periods, while that is in range. -/
theorem Compare.diff_eq {u : Compare} {now j : Nat} {t : Int} (ht : (2 : Int) ^ u.width ∣ t - (u.target.toNat + (j + 1) * u.step))
    (lower : -2 ^ (u.width - 1) ≤ u.past now - (j * u.step : Nat)) :
    sgn u.width (wrap u.width ((now : Int) - t)) = u.past now - (j * u.step : Nat) := by
  have upper : u.past now < 2 ^ (u.width - 1) := (sgn_wrap_bounds u.width_pos _).2
  refine sgn_wrap_eq u.width_pos ?_ lower (by omega)
  have first : (2 : Int) ^ u.width ∣ (now : Int) - u.target.toNat - u.step - u.past now := sgn_wrap_dvd u.width_pos _
  have sum := Int.dvd_sub first ht
  push_cast
  convert sum using 1
  ring

theorem Compare.advance_target {u : Compare} (now : Nat) (hm : u.mode = 1) (hp : u.step ≠ 0) :
    (u.advance now).target.toNat = (u.target.toNat + (u.skips now + 1) * u.step) % 2 ^ u.width := by
  have lt : (u.target.toNat + (u.skips now + 1) * u.step) % 2 ^ u.width < 2 ^ 64 :=
    (Nat.mod_lt _ (by positivity)).trans_le (Nat.pow_le_pow_right (by decide) u.width_le)
  rw [Compare.advance_periodic now hm hp, BitVec.toNat_ofNat, Nat.mod_eq_of_lt lt]

theorem Compare.advance_missed {u : Compare} (now : Nat) (hm : u.mode = 1) (hp : u.step ≠ 0) :
    (u.advance now).missed.toNat = min 0xFFFF (u.missed.toNat + u.skips now) := by
  rw [Compare.advance_periodic now hm hp, BitVec.toNat_ofNat]
  omega

/-- Every skipped target has come. -/
theorem Compare.skipped_behind {u : Compare} {now j : Nat} (h0 : 0 < j) (hj : j ≤ u.skips now) :
    0 ≤ sgn u.width (wrap u.width ((now : Int) - (u.target.toNat + j * u.step))) := by
  obtain ⟨i, rfl⟩ := Nat.exists_eq_add_of_lt h0
  have reached := Compare.le_past_of_lt_skips (u := u) (now := now) (j := i) (by omega)
  have half : (0 : Int) < 2 ^ (u.width - 1) := by positivity
  rw [Compare.diff_eq (j := i) (by simp) (by omega)]
  omega

/-- A period of at most half the base's range carries the target ahead. -/
theorem Compare.advance_ahead {u : Compare} (now : Nat) (hm : u.mode = 1) (hp : u.step ≠ 0) (hs : u.step ≤ 2 ^ (u.width - 1)) :
    sgn u.width (wrap u.width ((now : Int) - (u.advance now).target.toNat)) < 0 := by
  obtain ⟨ahead, near, none⟩ := Compare.past_lt_skips now hp
  have range : -2 ^ (u.width - 1) ≤ u.past now := (sgn_wrap_bounds u.width_pos _).1
  have hs : (u.step : Int) ≤ 2 ^ (u.width - 1) := by exact_mod_cast hs
  have lower : -2 ^ (u.width - 1) ≤ u.past now - (u.skips now * u.step : Nat) := by
    obtain h | h := lt_or_ge (u.past now) 0
    · simpa [none h] using range
    · have := near h
      omega
  rw [Compare.diff_eq (j := u.skips now) ?_ lower]
  · omega
  · rw [Compare.advance_target now hm hp]
    push_cast
    exact (Int.mod_modEq _ _).symm.dvd

/-! ### Compare units fire (R58, R59, R64, R66) -/

/-- What a due unit leaves: it advances past the time it reads, drives its pin, is logged, and launches the job that armed it. -/
def State.afterFire (s : State) (n : Nat) : State :=
  let u := s.cmp n
  let due := sgn u.width (wrap u.width ((s.baseNow u : Int) - u.target.toNat))
  let t := s.setCmp n (u.advance (if due < 0 then u.target.toNat else s.baseNow u))
  let p := if u.pulse then t.pulseOn u else t
  let e := if u.event then p.log (srcCmp n) 0x0022 ([1] ++ zeros 7 ++ leBytes 8 u.target.toNat) else p
  if u.launch = true ∧ (e.ctx u.ctx).unit = n then e.launch u.ctx else e

theorem runs_compareFire {s : State} {n : Fin 16} (hen : (s.cmp n).en = true) (harm : (s.cmp n).armed = true) (hm : (s.cmp n).mode < 2)
    (hr : s.cmpReached (s.cmp n) = true) : Runs (.compareFire n) s (s.afterFire n) := by
  refine runs_of_answer rfl ?_
  rw [if_pos (by simp [hen, harm, hm, hr])]
  simp only [decide_eq_true_eq, State.afterFire]

/-- A unit that is off, has fired or has not come does nothing. -/
theorem runs_compareFire_idle {s : State} {n : Fin 16}
    (h : (s.cmp n).en = false ∨ (s.cmp n).armed = false ∨ s.cmpReached (s.cmp n) = false) : Runs (.compareFire n) s s := by
  refine runs_of_answer rfl (if_neg ?_)
  obtain h | h | h := h <;> simp [h]

/-- A single unit with no pin, event or launch only disarms. -/
theorem State.afterFire_once {s : State} {n : Nat} (hm : (s.cmp n).mode = 0) (hp : (s.cmp n).pulse = false) (he : (s.cmp n).event = false)
    (hl : (s.cmp n).launch = false) : s.afterFire n = s.setCmp n { s.cmp n with fired := true, armed := false } := by
  simp [State.afterFire, Compare.advance_once _ hm, hp, he, hl]

/-! ### Pulses and capture (R61, R64, R65) -/

theorem runs_tpulseEnd {s : State} {pin : Fin 4} {x : Pulse} (hx : s.times.pulses.find? (fun e => e.pin == pin.val) = some x)
    (hu : x.until_ ≤ 4 * s.times.grid + 3) : Runs (.tpulseEnd pin) s
      { s with times := { s.times with pulses := s.times.pulses.filter (fun e => e.pin != pin.val) }, out := .pulse pin (!x.level) :: s.out } :=
  runs_of_answer rfl (by rw [hx]; exact if_neg (Nat.not_lt.2 hu))

theorem runs_tpulseEnd_early {s : State} {pin : Fin 4} {x : Pulse} (hx : s.times.pulses.find? (fun e => e.pin == pin.val) = some x)
    (hu : 4 * s.times.grid + 3 < x.until_) : Runs (.tpulseEnd pin) s s :=
  runs_of_answer rfl (by rw [hx]; exact if_pos hu)

theorem runs_tinEdge_of_dark {s : State} {pin : Fin 2} {rising : Bool} (hd : s.dark = true) : Runs (.tinEdge pin rising) s s :=
  runs_of_answer rfl (if_pos hd)

theorem runs_tinEdge {s : State} {pin : Fin 2} {rising : Bool} (hd : s.dark = false) : Runs (.tinEdge pin rising) s
    ((List.range 16).foldl (fun t n =>
      if (t.cmp n).en ∧ (t.cmp n).mode = 2 ∧ (t.cmp n).f 18 1 = pin.val ∧ (t.cmp n).pol ≠ rising then t.capture n (s.takeFree 2).1.toNat else t)
        (s.takeFree 2).2) := by
  refine runs_of_answer rfl ((if_neg (by simp [hd])).trans (List.foldl_ext _ _ _ fun t n _ => ?_))
  simp only [Bool.and_eq_true, beq_iff_eq, bne_iff_ne, and_assoc, State.takeFree]

theorem State.capture_of_no_event {s : State} {n : Nat} (j : Nat) (he : (s.cmp n).event = false) :
    s.capture n j = s.setCmp n { s.cmp n with
      capture := BitVec.ofNat 64 (s.baseAt (s.cmp n) j), captured := true, overrun := (s.cmp n).overrun || (s.cmp n).captured } := by
  simp [State.capture, he]

/-! ### Snapshots and corrections (R14, R20-R22, R66) -/

theorem runs_snapTake {s : State} {w : W32} (h : w.getLsbD 0 = true) : Runs (.snapTake w) s (s.snap (w.toNat / 2 ^ 8 % 16)) :=
  runs_of_answer rfl (if_pos ((bitOf_toNat w 0).trans h))

theorem runs_snapTake_of_not_take {s : State} {w : W32} (h : w.getLsbD 0 = false) : Runs (.snapTake w) s s :=
  runs_of_answer rfl (if_neg (Bool.eq_false_iff.1 ((bitOf_toNat w 0).trans h)))

theorem runs_atimeCorrection {s : State} {err : Int} (hd : s.dark = false) : Runs (.atimeCorrection err) s
    { s with times := { s.times with atime := s.times.atime - BitVec.ofInt 48 err } } :=
  runs_of_answer rfl (if_neg (by simp [hd]))

/-- Settles O24: a due unit, its advance by its period, the pins, and then the time bases. -/
theorem timeAndCompareResults : Obligations.TimeAndCompareResults := by
  refine ⟨fun s => ⟨fun n hen harm hm _ hr _ _ hp he hl => ?once, fun n hen harm hm hr => runs_compareFire hen harm hm hr,
      fun u now hm hp => ?periodic, fun n => runs_compareFire_idle, fun pin x => runs_tpulseEnd, fun pin x => runs_tpulseEnd_early,
      fun pin rising => runs_tinEdge_of_dark, fun pin rising => runs_tinEdge, fun n j => State.capture_of_no_event j⟩,
    fun s => ⟨fun w => runs_snapTake, fun w => runs_snapTake_of_not_take, runs_of_answer rfl rfl, fun ns => runs_of_answer rfl rfl,
      fun err => runs_atimeCorrection⟩⟩
  case once => exact State.afterFire_once hm hp he hl ▸ runs_compareFire hen harm (hm ▸ Nat.two_pos) hr
  case periodic =>
    have target := Compare.advance_target now hm hp
    refine ⟨by rw [Compare.advance_periodic now hm hp], by rw [Compare.advance_periodic now hm hp], ?_,
      fun hs => not_le.2 (Compare.advance_ahead now hm hp hs),
      u.skips now, target, Compare.advance_missed now hm hp, fun j h0 hj => Compare.skipped_behind h0 hj⟩
    rw [target]
    exact Nat.mod_lt _ (by positivity)

end Sys2Proof.Machine
end

section
/-! PROOFS. Plain writes into pail SRAM (03 R119, R121): the bytes, and the extensions of the churn cells they touch (O59). -/
namespace Sys2Proof.Machine
open Sys2Proof

/-! ### One bit of a little-endian number (R6) -/

theorem bitOf_eq_testBit (x i : Nat) : bitOf x i = x.testBit i := by
  rw [Nat.testBit_eq_decide_div_mod_eq, bitOf, beq_eq_decide]

/-- Bit 8·k + i of the number is bit i of byte k. -/
theorem bitOf_leNat (l : List Byte) (k : Nat) {i : Nat} (hi : i < 8) : bitOf (leNat l) (8 * k + i) = (l.getD k 0).getLsbD i := by
  induction l generalizing k with
  | nil => simp [leNat, bitOf_eq_testBit]
  | cons b t ih =>
    have split : leNat (b :: t) = 2 ^ 8 * leNat t + b.toNat := Nat.add_comm ..
    rw [bitOf_eq_testBit, split, Nat.testBit_two_pow_mul_add _ b.isLt]
    cases k with
    | zero => rw [if_pos (by omega), BitVec.testBit_toNat, Nat.mul_zero, Nat.zero_add, List.getD_cons_zero]
    | succ k =>
      have next : 8 * (k + 1) + i - 8 = 8 * k + i := by omega
      rw [if_neg (by omega), next, ← bitOf_eq_testBit, ih, List.getD_cons_succ]

/-! ### Setting several keys of a table, each to a value of its own -/

section
variable {α : Type} [DecidableEq α] {d : Nat → α}

/-- Sets each listed key to its own value. -/
def Tab.setEach (d : Nat → α) (v : Nat → α) (t : List (Nat × α)) (ks : List Nat) : List (Nat × α) :=
  ks.foldl (fun t k => Tab.set d t k (v k)) t

theorem Tab.get_setEach_of_notMem (v : Nat → α) {ks : List Nat} {j : Nat} (hj : j ∉ ks) (t : List (Nat × α)) :
    Tab.get d (Tab.setEach d v t ks) j = Tab.get d t j := by
  induction ks generalizing t with
  | nil => rfl
  | cons k ks ih =>
    rw [List.mem_cons, not_or] at hj
    obtain ⟨hne, hnot⟩ := hj
    exact (ih hnot _).trans (Tab.get_set_other _ _ _ _ hne)

theorem Tab.get_setEach_of_mem (v : Nat → α) {ks : List Nat} {j : Nat} (hj : j ∈ ks) {t : List (Nat × α)} (h : Tab.Wf d t) :
    Tab.get d (Tab.setEach d v t ks) j = v j := by
  induction ks generalizing t with
  | nil => exact absurd hj List.not_mem_nil
  | cons k ks ih =>
    by_cases later : j ∈ ks
    · exact ih later (Tab.set_wf k (v k) h)
    · obtain rfl : j = k := (List.mem_cons.1 hj).resolve_right later
      exact (Tab.get_setEach_of_notMem v later _).trans (Tab.get_set_same _ _ _ h)

end

/-! ### A plain write (R121) -/

/-- The extension that the bytes of a cell give it. -/
def State.signExt (s : State) (cell : Nat) : BitVec 16 := cellSign (s.sramRead (16 * cell) 16)

/-- The sign of a cell is the top bit of its last byte. -/
theorem State.signExt_eq (s : State) (cell : Nat) :
    s.signExt cell = if (s.sramRead (16 * cell + 15) 1).any (fun x => x.getLsbD 7) then 0xFFFF else 0 := by
  have top : bitOf (leNat (s.sramRead (16 * cell) 16)) 127 = (Tab.get memDefault s.sram (16 * cell + 15)).getLsbD 7 :=
    bitOf_leNat _ 15 (i := 7) (by decide)
  rw [State.signExt, cellSign, top]
  simp [State.sramRead, Tab.read]

/-- Extending cells by their signs changes the table of extensions alone, so every sign is read of the memory there was before the first. -/
theorem State.foldl_setExt_cellSign (s : State) (cells : List Nat) :
    cells.foldl (fun s cell => s.setExt cell (cellSign (s.sramRead (16 * cell) 16))) s =
      { s with ext := Tab.setEach (fun _ => 0) s.signExt s.ext cells } := by
  induction cells generalizing s with
  | nil => rfl
  | cons cell cells ih => exact ih _

/-- A plain write is a write of the bytes, with the touched churn cells extended by the signs they have after it. -/
theorem State.pailWrite_eq (s : State) (a : Nat) (b : List Byte) :
    s.pailWrite a b =
      { s.sramWrite a b with ext := Tab.setEach (fun _ => 0) (s.sramWrite a b).signExt s.ext (s.churnCells a b.length) } :=
  State.foldl_setExt_cellSign (s.sramWrite a b) (s.churnCells a b.length)

@[simp] theorem State.pailWrite_dram (s : State) (a : Nat) (b : List Byte) : (s.pailWrite a b).dram = s.dram := by
  rw [State.pailWrite_eq, State.sramWrite_dram]

theorem State.sramRead_pailWrite (s : State) (a : Nat) (b : List Byte) : (s.pailWrite a b).sramRead = (s.sramWrite a b).sramRead := by
  rw [State.pailWrite_eq]
  rfl

theorem State.ext16_pailWrite_of_notMem {s : State} {a cell : Nat} {b : List Byte} (h : cell ∉ s.churnCells a b.length) :
    (s.pailWrite a b).ext16 cell = s.ext16 cell := by
  rw [State.pailWrite_eq]
  exact Tab.get_setEach_of_notMem _ h s.ext

theorem State.ext16_pailWrite_of_mem {s : State} {a cell : Nat} {b : List Byte} (hw : Tab.Wf (fun _ => (0 : BitVec 16)) s.ext)
    (h : cell ∈ s.churnCells a b.length) : (s.pailWrite a b).ext16 cell = (s.pailWrite a b).signExt cell := by
  rw [State.signExt, State.sramRead_pailWrite, State.pailWrite_eq]
  exact Tab.get_setEach_of_mem _ h hw

/-- Settles O59: the bytes are those of the write below it, and each touched churn cell's extension is the sign the cell then has. -/
theorem pailWriteEffect : Obligations.PailWriteEffect := fun s a b =>
  ⟨fun x => State.sramRead_pailWrite s a b ▸ State.sramRead_sramWrite s a x b,
    fun _ => State.ext16_pailWrite_of_notMem,
    fun hw cell hc => (State.ext16_pailWrite_of_mem hw hc).trans (State.signExt_eq (s.pailWrite a b) cell),
    State.pailWrite_dram s a b⟩

end Sys2Proof.Machine
end

section
/-! PROOFS. What the vat instructions share (05 R169-R187): decode checks, issue, retirement, and reading a vat back. -/
namespace Sys2Proof.Machine
open Sys2Proof

/-! ### Decode checks (R169): the first that fails gives the reason -/

@[simp] theorem illegal_nil : illegal [] = none := rfl

theorem illegal_cons (b : Bool) (r : Nat) (l : List (Bool × Nat)) : illegal ((b, r) :: l) = if b = true then some r else illegal l := by
  cases b <;> rfl

@[simp] theorem illegal_unused (n : Nat) (l : List (Bool × Nat)) : illegal (unused n :: l) = if n = 0 then illegal l else some 2 := by
  simp [unused, illegal_cons]

@[simp] theorem illegal_aReg (n : Nat) (l : List (Bool × Nat)) : illegal (aReg n :: l) = if n < 16 then illegal l else some 3 := by
  simp only [aReg, illegal_cons, decide_eq_true_eq, ← Nat.not_lt, ite_not]

@[simp] theorem illegal_pReg (n : Nat) (l : List (Bool × Nat)) : illegal (pReg n :: l) = if n < 8 then illegal l else some 3 := by
  simp only [pReg, illegal_cons, decide_eq_true_eq, ← Nat.not_lt, ite_not]

@[simp] theorem illegal_undef (b : Bool) (l : List (Bool × Nat)) : illegal (undef b :: l) = if b = true then some 6 else illegal l :=
  illegal_cons b 6 l

/-- The fields a scalar instruction does not use must all be zero. -/
@[simp] theorem illegal_spare (w : Word56) (dst sa sb fn imm : Bool) (l : List (Bool × Nat)) :
    illegal (spare w dst sa sb fn imm :: l) =
      if (dst = false → fDst w = 0) ∧ (sa = false → fSa w = 0) ∧ (sb = false → fSb w = 0) ∧ (fn = false → fFn w = 0) ∧
        (imm = false → fImm w = 0) then illegal l else some 2 := by
  simp [spare, and_assoc]

theorem fImm_lt (w : Word56) : fImm w < 2 ^ 32 := Nat.mod_lt _ (by decide)

theorem toNat_ofNat_fImm (w : Word56) : (BitVec.ofNat 32 (fImm w)).toNat = fImm w := by
  rw [BitVec.toNat_ofNat, Nat.mod_eq_of_lt (fImm_lt w)]

/-! ### Issue (R170, R174, R175) -/

section
variable {s : State} {v op : Nat} {w : Word56} {u : Uses}

/-- An instruction is also ready in what uses fewer registers. -/
theorem Ready.of_uses {u' : Uses} (h : Ready s v w u) (hs : u'.s ⊆ u.s) (ha : u'.a ⊆ u.a) (hv : u'.v ⊆ u.v) : Ready s v w u' := by
  obtain ⟨can, pc, pred, free⟩ := h
  refine ⟨can, pc, pred, ?_⟩
  simp only [VatState.free, Bool.and_eq_true, List.all_eq_true] at free ⊢
  obtain ⟨⟨fs, fa⟩, fv⟩ := free
  exact ⟨⟨fun n hn => fs n (hs hn), fun n hn => fa n (ha hn)⟩, fun n hn => fv n (hv hn)⟩

/-- A command that is the issue of an instruction, at a vat ready for it. -/
theorem runs_issue {c : Instr} {check : Option Nat} {eff : State → State} {t : State} (h : exec c s = answer s (issue s v op w check u eff))
    (ready : Ready s v w u) (hc : check = none) (ht : eff s = t) : Runs c s t :=
  runs_of_answer h ((issue_ready ready hc).trans ht)

/-- A command that changes registers and retires, at a vat ready for it. -/
theorem runs_issueRegs {c : Instr} {check : Option Nat} {f : VatState → VatState} {y : VatState}
    (h : exec c s = answer s (issueRegs s v op w check u f)) (ready : Ready s v w u) (hc : check = none) (hy : f (s.vat v) = y) :
    Runs c s (s.setVat v y.retire) :=
  runs_of_answer h (hy ▸ issueRegs_ready ready hc)

/-- A command whose word a decode check refuses. -/
theorem runs_illegal {c : Instr} {r : Nat} {check : Option Nat} {eff : State → State} (h : exec c s = answer s (issue s v op w check u eff))
    (can : (s.vat v).canIssue = true) (pc : (s.vat v).pc.toNat < vatSize) (hc : check = some r) :
    Runs c s (s.vatFault v (illegalInfo v (s.vat v).pc.toNat op w r)) :=
  runs_of_answer h (issue_illegal can pc hc)

/-- A command of a legal word whose predicate is false. -/
theorem runs_not_predicated {c : Instr} {check : Option Nat} {eff : State → State} (h : exec c s = answer s (issue s v op w check u eff))
    (can : (s.vat v).canIssue = true) (pc : (s.vat v).pc.toNat < vatSize) (pred : (s.vat v).pred w = false) (hc : check = none) :
    Runs c s (s.setVat v (s.vat v).retire) :=
  runs_of_answer h (issue_not_predicated can pc hc pred)

/-- All that a legal instruction inside vat SRAM can do: wait, retire without effect, or have its effect. -/
theorem issue_legal_cases (eff : State → State) (pc : (s.vat v).pc.toNat < vatSize) :
    issue s v op w none u eff = s ∨
      (s.vat v).canIssue = true ∧ (issue s v op w none u eff = s.setVat v (s.vat v).retire ∨ issue s v op w none u eff = eff s) := by
  by_cases can : (s.vat v).canIssue = true
  case neg => exact .inl (by simp [issue, can])
  by_cases pred : (s.vat v).pred w = true
  case neg => exact .inr ⟨can, .inl (issue_not_predicated can pc rfl (Bool.eq_false_iff.2 pred))⟩
  by_cases free : (s.vat v).free u = true
  · exact .inr ⟨can, .inr (issue_ready ⟨can, pc, pred, free⟩ rfl)⟩
  · exact .inl (by simp [issue, can, pred, free, Nat.not_le.2 pc])

end

/-! ### Retirement (R186) -/

/-- Retiring changes the address and the loops alone. -/
theorem VatState.retire_eq (x : VatState) : x.retire =
    { x with loops := (loopEnd x.loops x.pc).1, pc := if x.loops.isEmpty then x.pc + 8 else (loopEnd x.loops x.pc).2 } := by
  cases hl : x.loops with
  | nil => simp [VatState.retire, hl, loopEnd]
  | cons f t =>
    unfold VatState.retire
    rw [hl]
    split <;> simp_all

theorem VatState.retire_of_no_loops {x : VatState} (h : x.loops = []) : x.retire = { x with pc := x.pc + 8 } := by
  rw [VatState.retire_eq, h]
  simp [loopEnd, ← h]

end Sys2Proof.Machine
end

section
/-! PROOFS. Scalar, predicate and address instructions (05 R181-R183): their results (O1-O5), and what they leave as it was (O60). -/
namespace Sys2Proof.Machine
open Sys2Proof

/-! ### The three families of register arithmetic (R181, R183) -/

/-- The instructions that compute S[d] from S[a] and S[b], with their opcodes. -/
def registerForms (v : Vat) (w : Word56) : List (Instr × Nat) :=
  [(.add v w, 0x01), (.sub v w, 0x02), (.mul v w, 0x03), (.mulhu v w, 0x04), (.mulhs v w, 0x05), (.and v w, 0x06), (.or v w, 0x07),
    (.xor v w, 0x08), (.shl v w, 0x09), (.shr v w, 0x0A), (.sra v w, 0x0B), (.min v w, 0x0C), (.max v w, 0x0D), (.minu v w, 0x0E),
    (.maxu v w, 0x0F)]

/-- The instructions that compute S[d] from S[a] and all of the immediate. -/
def immediateForms (v : Vat) (w : Word56) : List (Instr × Nat) :=
  [(.addi v w, 0x21), (.andi v w, 0x22), (.ori v w, 0x23), (.xori v w, 0x24)]

/-- The instructions that shift S[a] by the immediate. -/
def shiftForms (v : Vat) (w : Word56) : List (Instr × Nat) := [(.shli v w, 0x25), (.shri v w, 0x26), (.srai v w, 0x27)]

theorem exec_registerForm {v : Vat} {w : Word56} {e : Instr × Nat} (he : e ∈ registerForms v w) :
    ∃ f, ∀ s, exec e.1 s = answer s (aluRR s v e.2 w f) := by
  simp only [registerForms, List.mem_cons, List.not_mem_nil, or_false] at he
  obtain rfl | rfl | rfl | rfl | rfl | rfl | rfl | rfl | rfl | rfl | rfl | rfl | rfl | rfl | rfl := he <;> exact ⟨_, fun _ => rfl⟩

theorem exec_immediateForm {v : Vat} {w : Word56} {e : Instr × Nat} (he : e ∈ immediateForms v w) :
    ∃ f, ∀ s, exec e.1 s = answer s (aluRI s v e.2 w false f) := by
  simp only [immediateForms, List.mem_cons, List.not_mem_nil, or_false] at he
  obtain rfl | rfl | rfl | rfl := he <;> exact ⟨_, fun _ => rfl⟩

theorem exec_shiftForm {v : Vat} {w : Word56} {e : Instr × Nat} (he : e ∈ shiftForms v w) :
    ∃ f, ∀ s, exec e.1 s = answer s (aluRI s v e.2 w true f) := by
  simp only [shiftForms, List.mem_cons, List.not_mem_nil, or_false] at he
  obtain rfl | rfl | rfl := he <;> exact ⟨_, fun _ => rfl⟩

/-! ### Register arithmetic (R181) -/

section
variable {s : State} {v : Vat} {w : Word56} {c : Instr} {op : Nat}

theorem runs_aluRR {f : W32 → W32 → W32} {r : W32} (ready : Ready s v w ⟨[fDst w, fSa w, fSb w], [], []⟩) (fn : fFn w = 0) (imm : fImm w = 0)
    (h : exec c s = answer s (aluRR s v op w f)) (hr : f ((s.vat v).s (fSa w)) ((s.vat v).s (fSb w)) = r) :
    Runs c s (s.setVat v ((s.vat v).setS (fDst w) r).retire) :=
  runs_issueRegs h ready (by simp [fn, imm]) (hr ▸ rfl)

theorem runs_aluRI {f : W32 → W32 → W32} {shift : Bool} {r : W32} (ready : Ready s v w ⟨[fDst w, fSa w], [], []⟩) (sb : fSb w = 0)
    (fn : fFn w = 0) (imm : shift = true → fImm w < 32) (h : exec c s = answer s (aluRI s v op w shift f))
    (hr : f ((s.vat v).s (fSa w)) (BitVec.ofNat 32 (fImm w)) = r) : Runs c s (s.setVat v ((s.vat v).setS (fDst w) r).retire) := by
  have legal : (if shift = true then fImm w / 32 else 0) = 0 := by
    split_ifs with hs
    · exact Nat.div_eq_of_lt (imm hs)
    · rfl
  exact runs_issueRegs h ready (by simp [sb, fn, legal]) (hr ▸ rfl)

/-- A shift by more than five bits is no instruction. -/
theorem runs_shiftForm_illegal {u : Uses} {e : Instr × Nat} (he : e ∈ shiftForms v w) (ready : Ready s v w u) (sb : fSb w = 0) (fn : fFn w = 0)
    (imm : 32 ≤ fImm w) : Runs e.1 s (s.vatFault v (illegalInfo v (s.vat v).pc.toNat e.2 w 2)) := by
  obtain ⟨can, pc, -⟩ := ready
  obtain ⟨f, h⟩ := exec_shiftForm he
  have wide : fImm w / 32 ≠ 0 := (Nat.div_pos imm (by decide)).ne'
  exact runs_illegal (h s) can pc (by simp [sb, fn, wide])

end

/-- A choice by ≤, written by < the other way round. -/
theorem ite_le_eq_ite_lt {α β : Type} [LinearOrder α] {x y : α} (a b : β) : (if y ≤ x then a else b) = if x < y then b else a := by
  simp only [← not_lt, ite_not]

/-- Settles O1: one argument for the family, whose functions are the statement's, but for MAX and MAXU, which test the other way round. -/
theorem aluRegisterResults : Obligations.AluRegisterResults := by
  intro s v w ready fn imm
  have put {c op f r} := @runs_aluRR s v w c op f r ready fn imm
  exact ⟨put rfl rfl, put rfl rfl, put rfl rfl, put rfl rfl, put rfl rfl, put rfl rfl, put rfl rfl, put rfl rfl, put rfl rfl, put rfl rfl,
    put rfl rfl, put rfl rfl, put rfl (ite_le_eq_ite_lt _ _), put rfl rfl, put rfl (ite_le_eq_ite_lt _ _)⟩

/-- Settles O2: the same for the immediates, of which a shift's must be below 32. -/
theorem aluImmediateResults : Obligations.AluImmediateResults := by
  intro s v w ready sb fn a i put
  have plain {c op f r} := @runs_aluRI s v w c op f false r ready sb fn (by simp)
  refine ⟨plain rfl rfl, plain rfl rfl, plain rfl rfl, plain rfl rfl, fun sa => ?movi, fun imm => ?shifts,
    fun imm e he => runs_shiftForm_illegal he ready sb fn imm⟩
  case movi => exact runs_issueRegs rfl (ready.of_uses (u' := ⟨[fDst w], [], []⟩) (by simp) (by simp) (by simp)) (by simp [sa, sb, fn]) rfl
  case shifts =>
    have shift {c op f r} := @runs_aluRI s v w c op f true r ready sb fn fun _ => imm
    have amount : i.toNat = fImm w := toNat_ofNat_fImm w
    exact ⟨shift rfl (by rw [amount]), shift rfl (by rw [amount]), shift rfl (by rw [amount])⟩

/-! ### Predicates (R182) -/

/-- The truth table that PLOG reads, written from its four values. -/
theorem plogBit_table (p q r t a b : Bool) :
    plogBit (b2n p + 2 * b2n q + 4 * b2n r + 8 * b2n t) a b = if a then (if b then t else r) else if b then q else p := by
  revert p q r t a b
  decide

theorem plogBit_of_function (f : Bool → Bool → Bool) (a b : Bool) :
    plogBit (b2n (f false false) + 2 * b2n (f false true) + 4 * b2n (f true false) + 8 * b2n (f true true)) a b = f a b := by
  rw [plogBit_table]
  cases a <;> cases b <;> rfl

/-- Settles O3: the codes are the match of `cond`, and each named table is that of its function. -/
theorem conditionCodes : Obligations.ConditionCodes := by
  refine ⟨fun x y => ⟨rfl, ?_, rfl, rfl, rfl, rfl, ?_⟩, fun s v w can pc dst fn => ?undefined, plogBit_of_function, fun a b => ?named⟩
  · simp [cond, bne, beq_eq_decide]
  · simp [cond]
  case undefined =>
    have bad : 6 < fFn w := fn
    exact ⟨fun imm => runs_illegal rfl can pc (by simp [imm, dst, bad]), fun sb => runs_illegal rfl can pc (by simp [sb, dst, bad])⟩
  case named =>
    exact ⟨plogBit_of_function and a b, plogBit_of_function or a b, plogBit_of_function xor a b, plogBit_of_function (fun a _ => !a) a b⟩

/-- Settles O4: a legal word writes P[d], and P0 is neither written nor read from the table. -/
theorem predicateResults : Obligations.PredicateResults := by
  intro s v w dst put
  refine ⟨fun ready imm fn => ?cmp, fun ready sb fn => ?cmpi, fun ready imm fn sa sb => ?plog, rfl, rfl⟩
  case cmp => exact runs_issueRegs rfl ready (by simp [imm, dst, fn]) rfl
  case cmpi => exact runs_issueRegs rfl ready (by simp [sb, dst, fn]) rfl
  case plog =>
    refine runs_issueRegs rfl ready (by simp [imm, dst, sa, sb, fn]) ?_
    rw [plogBit, bitOf_eq_testBit]

/-! ### Address registers (R181, R183) -/

/-- Bits from k up, as a number of n bits. -/
theorem setWidth_ushiftRight_eq {m : Nat} (x : BitVec m) (k n : Nat) : (x >>> k).setWidth n = x.extractLsb' k n :=
  BitVec.eq_of_toNat_eq (by simp)

/-- The upper half of an address has 16 bits. -/
theorem address_upper (a : W48) : (a >>> 32).setWidth 32 = (a.extractLsb' 32 16).setWidth 32 := by
  refine BitVec.eq_of_toNat_eq ?_
  have upper : a.toNat / 2 ^ 32 < 2 ^ 16 := Nat.div_lt_of_lt_mul a.isLt
  simp only [BitVec.toNat_setWidth, BitVec.toNat_ushiftRight, BitVec.extractLsb'_toNat, Nat.shiftRight_eq_div_pow, Nat.mod_eq_of_lt upper]

/-- Bits 47:32 replaced. -/
theorem address_replaceUpper (a : W48) {n : Nat} (h : n < 2 ^ 16) :
    BitVec.ofNat 48 (n * 2 ^ 32 + a.toNat % 2 ^ 32) = BitVec.ofNat 16 n ++ a.extractLsb' 0 32 := by
  refine BitVec.eq_of_toNat_eq ?_
  have low : a.toNat % 2 ^ 32 < 2 ^ 32 := Nat.mod_lt _ (by decide)
  rw [BitVec.toNat_append, BitVec.toNat_ofNat, BitVec.toNat_ofNat, BitVec.extractLsb'_toNat, Nat.shiftRight_zero, Nat.mod_eq_of_lt h,
    ← Nat.shiftLeft_add_eq_or_of_lt low, Nat.shiftLeft_eq, Nat.mod_eq_of_lt (by omega)]

/-- Settles O5: the moves and sums are as the model writes them; the halves are bit fields. -/
theorem addressResults : Obligations.AddressResults := by
  intro s v w fn
  refine ⟨fun ready imm dst sa => ?aadd, fun ready sb imm dst sa => ?amov, fun ready sb imm sa => ⟨?agetl, ?ageth⟩,
    fun ready sa sb dst => ?amovi, fun ready sb dst sa => ⟨?aaddi, fun imm => ?amovh⟩⟩
  case aadd => exact runs_issueRegs rfl ready (by simp [fn, imm, dst, sa]) rfl
  case amov => exact runs_issueRegs rfl ready (by simp [fn, sb, imm, dst, sa]) rfl
  case agetl => exact runs_issueRegs rfl ready (by simp [fn, sb, imm, sa]) (by rw [BitVec.setWidth_eq_extractLsb' (by decide)])
  case ageth => exact runs_issueRegs rfl ready (by simp [fn, sb, imm, sa]) (by rw [address_upper])
  case amovi => exact runs_issueRegs rfl ready (by simp [fn, sa, sb, dst]) rfl
  case aaddi => exact runs_issueRegs rfl ready (by simp [fn, sb, dst, sa]) rfl
  case amovh =>
    exact runs_issueRegs rfl ready (by simpa [fn, sb, dst, sa] using imm) (by rw [address_replaceUpper _ imm])

/-! ### The frame of the register instructions (R171) -/

theorem VatState.s_setS_of_ne {x : VatState} {d r : Nat} (n : W32) (h : r ≠ d) : (x.setS d n).s r = x.s r := by
  unfold VatState.setS
  split
  · rfl
  · exact ite_congr rfl (fun _ => rfl) fun _ => Tab.get_set_other _ _ _ _ h

/-- Every register but S[d], the status fields and the queues are as before. -/
def VatState.SameButS (d : Nat) (x y : VatState) : Prop :=
  (∀ r, r ≠ d → y.s r = x.s r) ∧ y.areg = x.areg ∧ y.preg = x.preg ∧ y.vreg = x.vreg ∧ y.trel = x.trel ∧ y.step = x.step ∧
    y.lstat = x.lstat ∧ y.tokens = x.tokens ∧ y.queue = x.queue ∧ y.syncq = x.syncq ∧ y.marks = x.marks

theorem VatState.sameButS_setS (d : Nat) (x : VatState) (n : W32) : x.SameButS d (x.setS d n) := by
  simp +contextual [VatState.SameButS, VatState.s_setS_of_ne]

theorem VatState.sameButS_retire {d : Nat} {x y : VatState} (h : x.SameButS d y) : x.SameButS d y.retire := by
  rw [VatState.retire_eq]
  exact h

theorem VatState.retire_run (x : VatState) : x.retire.run = x.run := by rw [VatState.retire_eq]

/-- A vat that can issue is running its program. -/
theorem VatState.run_of_canIssue {x : VatState} (h : x.canIssue = true) : x.run = .issuing := by
  simp only [VatState.canIssue, Bool.and_eq_true, beq_iff_eq] at h
  obtain ⟨⟨run, -⟩, -⟩ := h
  exact run

/-- A legal instruction that writes S[d] at most, and what is then as before. -/
theorem issueRegs_setS_cases {s : State} {v op d : Nat} {w : Word56} {u : Uses} (g : VatState → W32) (pc : (s.vat v).pc.toNat < vatSize) :
    issueRegs s v op w none u (fun x => x.setS d (g x)) = s ∨
      ∃ y, issueRegs s v op w none u (fun x => x.setS d (g x)) = s.setVat v y ∧ y.run = .issuing ∧ (s.vat v).SameButS d y := by
  obtain h | ⟨can, h | h⟩ := issue_legal_cases (op := op) (w := w) (u := u) (fun s => s.setVat v ((s.vat v).setS d (g (s.vat v))).retire) pc
  · exact .inl h
  · exact .inr ⟨_, h, by rw [VatState.retire_run, VatState.run_of_canIssue can], VatState.sameButS_retire (by simp [VatState.SameButS])⟩
  · exact .inr ⟨_, h, by rw [VatState.retire_run, VatState.setS_run, VatState.run_of_canIssue can],
      VatState.sameButS_retire (VatState.sameButS_setS _ _ _)⟩

/-- The forms of the frame's statement are legal and write S[d] alone. -/
theorem exec_frameForm {s : State} {v : Vat} {w : Word56} {c : Instr} (fn : fFn w = 0)
    (hc : (fImm w = 0 ∧ c ∈ (registerForms v w).map Prod.fst) ∨ (fSb w = 0 ∧ c ∈ (immediateForms v w).map Prod.fst)) :
    ∃ op u, ∃ g : VatState → W32, exec c s = answer s (issueRegs s v op w none u (fun x => x.setS (fDst w) (g x))) := by
  simp only [List.mem_map] at hc
  obtain ⟨imm, e, he, rfl⟩ | ⟨sb, e, he, rfl⟩ := hc
  · obtain ⟨f, h⟩ := exec_registerForm he
    refine ⟨e.2, ⟨[fDst w, fSa w, fSb w], [], []⟩, fun x => f (x.s (fSa w)) (x.s (fSb w)), ?_⟩
    rw [h, aluRR]
    simp [fn, imm]
  · obtain ⟨f, h⟩ := exec_immediateForm he
    refine ⟨e.2, ⟨[fDst w, fSa w], [], []⟩, fun x => f (x.s (fSa w)) (BitVec.ofNat 32 (fImm w)), ?_⟩
    rw [h, aluRI]
    simp [fn, sb]

/-- The next state that an answer gives, where the meaning leaves the queue alone. -/
theorem eq_of_answer {s t u : State} (h : answer s u = .next t) (pending : u.pending = s.pending) : t = u := by
  rw [answer, ← pending] at h
  exact (Host.Outcome.next.inj h).symm

/-- Settles O60: the vat is the only unit replaced, and what replaces it differs in S[d] and in what retiring changes. -/
theorem registerFrame : Obligations.RegisterFrame := by
  intro s t v w c pc fn form run
  obtain ⟨op, u, g, h⟩ := exec_frameForm (s := s) fn form
  rw [h] at run
  obtain same | ⟨y, eq, issuing, frame⟩ := issueRegs_setS_cases (op := op) (w := w) (u := u) (d := fDst w) g pc
  · rw [same] at run
    obtain rfl := eq_of_answer run rfl
    exact ⟨⟨fun _ => rfl, fun _ => rfl, fun _ => rfl⟩, rfl, fun _ _ => rfl, fun _ _ => rfl,
      rfl, rfl, rfl, rfl, rfl, rfl, rfl, rfl, rfl, rfl, rfl⟩
  · rw [eq] at run
    obtain rfl := eq_of_answer run rfl
    have vat : (s.setVat v y).vat v = y := State.vat_setVat_of_ne s v y (VatState.ne_reset_of_issuing issuing)
    obtain ⟨regs, rest⟩ := frame
    rw [vat]
    exact ⟨⟨fun _ => rfl, fun _ => rfl, fun _ => rfl⟩, rfl, fun _ => State.vat_setVat_other s y, regs, rfl, rest⟩

end Sys2Proof.Machine
end

section
/-! PROOFS. Control flow of a vat (05 R170, R185-R187): NOP, HALT and false predicates (O6), branches (O7) and loops (O8). -/
namespace Sys2Proof.Machine
open Sys2Proof

/-! ### NOP, HALT and a false predicate (R170, R181, R187) -/

section
variable {s : State} {v : Vat} {w : Word56}

theorem runs_nop (ready : Ready s v w ⟨[], [], []⟩) (dst : fDst w = 0) (sa : fSa w = 0) (sb : fSb w = 0) (fn : fFn w = 0) (imm : fImm w = 0) :
    Runs (.nop v w) s (s.setVat v (s.vat v).retire) :=
  runs_issueRegs rfl ready (by simp [dst, sa, sb, fn, imm]) rfl

theorem runs_halt (ready : Ready s v w ⟨[], [], []⟩) (dst : fDst w = 0) (sa : fSa w = 0) (sb : fSb w = 0) (fn : fFn w = 0) (imm : fImm w = 0) :
    Runs (.halt v w) s (s.setVat v { (s.vat v).retire with
      run := .halted, tokens := if ∃ q ∈ (s.vat v).queue, q.eng = .array then (s.vat v).tokens else 0 }) := by
  have keeps : (s.vat v).queue.any (fun q => q.eng == .array) = true ↔ ∃ q ∈ (s.vat v).queue, q.eng = .array := by simp
  exact runs_issue rfl ready (by simp [dst, sa, sb, fn, imm]) (by simp only [State.onVat, keeps])

/-- Register arithmetic retires without effect under a false predicate. -/
theorem runs_frameForm_not_predicated {c : Instr} (can : (s.vat v).canIssue = true) (pc : (s.vat v).pc.toNat < vatSize)
    (pred : (s.vat v).pred w = false) (fn : fFn w = 0)
    (hc : (fImm w = 0 ∧ c ∈ (registerForms v w).map Prod.fst) ∨ (fSb w = 0 ∧ c ∈ (immediateForms v w).map Prod.fst)) :
    Runs c s (s.setVat v (s.vat v).retire) := by
  obtain ⟨op, u, g, h⟩ := exec_frameForm (s := s) fn hc
  exact runs_not_predicated h can pc pred rfl

/-- So does a shift by zero. -/
theorem runs_shiftForm_not_predicated {c : Instr} (can : (s.vat v).canIssue = true) (pc : (s.vat v).pc.toNat < vatSize)
    (pred : (s.vat v).pred w = false) (fn : fFn w = 0) (imm : fImm w = 0) (sb : fSb w = 0) (hc : c ∈ (shiftForms v w).map Prod.fst) :
    Runs c s (s.setVat v (s.vat v).retire) := by
  obtain ⟨e, he, rfl⟩ := List.mem_map.1 hc
  obtain ⟨f, h⟩ := exec_shiftForm he
  exact runs_not_predicated (h s) can pc pred (by simp [fn, sb, imm])

end

/-- Settles O6: the predicate is asked once the word is found legal, whatever the instruction. -/
theorem nopHaltAndPredicate : Obligations.NopHaltAndPredicate := by
  intro s v w
  refine ⟨fun dst sa sb fn imm ready => ⟨runs_nop ready dst sa sb fn imm, runs_halt ready dst sa sb fn imm⟩,
    fun can pc pred fn imm => ⟨fun c hc => ?registers, fun sb c hc => ?immediates, fun dst sa sb => ?others⟩, VatState.retire_of_no_loops⟩
  case registers => exact runs_frameForm_not_predicated can pc pred fn (.inl ⟨imm, hc⟩)
  case immediates =>
    obtain h | h := List.mem_append (s := (immediateForms v w).map Prod.fst) (t := (shiftForms v w).map Prod.fst).1 hc
    · exact runs_frameForm_not_predicated can pc pred fn (.inr ⟨sb, h⟩)
    · exact runs_shiftForm_not_predicated can pc pred fn imm sb h
  case others =>
    have legal (imm' : Bool) : illegal [spare w false false false false imm'] = none := by simp [dst, sa, sb, fn, imm]
    exact List.forall_mem_cons.2 ⟨runs_not_predicated rfl can pc pred (legal _), List.forall_mem_cons.2
      ⟨runs_not_predicated rfl can pc pred (legal _), List.forall_mem_singleton.2 (runs_not_predicated rfl can pc pred (legal _))⟩⟩

/-! ### Branches (R185, R186) -/

/-- A branch to any other address is a precise fault: beyond vat SRAM of kind 4, misaligned of kind 5. -/
theorem branchTo_bad {s : State} {v : Nat} {t : W48} {f : VatState → VatState} (h : ¬ (t.toNat < vatSize ∧ t.toNat % 8 = 0)) :
    branchTo s v t f =
      s.vatFault v (boundsInfo v (s.vat v).pc.toNat t.toNat 8 (if vatSize ≤ t.toNat then 4 else 5) true) := by
  by_cases beyond : vatSize ≤ t.toNat
  · have top : 0x1FFFFF < t.toNat := beyond
    simp [branchTo, top, beyond]
  · have top : ¬ 0x1FFFFF < t.toNat := beyond
    have odd : t.toNat % 8 ≠ 0 := fun aligned => h ⟨Nat.lt_of_not_le beyond, aligned⟩
    simp [branchTo, top, odd, beyond]

/-- Settles O7: each instruction is a branch to its own target, and the target alone decides. -/
theorem branchResults : Obligations.BranchResults := by
  intro s v w sb fn
  have br (dst : fDst w = 0) (sa : fSa w = 0) : illegal [spare w false false false false true] = none := by simp [dst, sa, sb, fn]
  have brl (sa : fSa w = 0) (dst : fDst w < 16) : illegal [spare w true false false false true, aReg (fDst w)] = none := by
    simp [dst, sa, sb, fn]
  have jmpa (dst : fDst w = 0) (sa : fSa w < 16) : illegal [spare w false true false false true, aReg (fSa w)] = none := by
    simp [dst, sa, sb, fn]
  exact ⟨fun ready dst sa ⟨inside, aligned⟩ => runs_issue rfl ready (br dst sa) (branchTo_good inside aligned),
    fun ready sa dst ⟨inside, aligned⟩ => runs_issue rfl ready (brl sa dst) (branchTo_good inside aligned),
    fun ready dst sa ⟨inside, aligned⟩ => runs_issue rfl ready (jmpa dst sa) (branchTo_good inside aligned),
    fun ready dst sa bad => runs_issue rfl ready (br dst sa) (branchTo_bad bad),
    fun ready sa dst bad => runs_issue rfl ready (brl sa dst) (branchTo_bad bad),
    fun ready dst sa bad => runs_issue rfl ready (jmpa dst sa) (branchTo_bad bad)⟩

/-! ### Loops (R186) -/

section
variable {s : State} {v : Nat} {w : Word56}

theorem loopN_eq (h : fImm w < 65536) : loopN w = BitVec.ofNat 48 (fImm w) := by rw [loopN, Nat.mod_eq_of_lt h]

theorem toNat_loopN (h : fImm w < 65536) : (loopN w).toNat = fImm w := by
  rw [loopN_eq h, BitVec.toNat_ofNat, Nat.mod_eq_of_lt (by omega)]

theorem loopStart_of_zero (h : (s.vat v).s (fSa w) = 0) :
    loopStart s v w = s.setVat v { s.vat v with pc := (s.vat v).pc + 8 * loopN w + 8 } := if_pos h

theorem loopStart_of_room (h : (s.vat v).s (fSa w) ≠ 0) (room : (s.vat v).loops.length < 4)
    (within : ∀ f ∈ (s.vat v).loops.head?, (s.vat v).pc.toNat + 8 * (loopN w).toNat ≤ f.last.toNat) :
    loopStart s v w = s.setVat v { s.vat v with
      loops := ⟨(s.vat v).pc + 8, (s.vat v).pc + 8 * loopN w, (s.vat v).s (fSa w), 0⟩ :: (s.vat v).loops, pc := (s.vat v).pc + 8 } := by
  have inside : ¬ (s.vat v).loops.head?.any (fun f => decide (f.last.toNat < (s.vat v).pc.toNat + 8 * (loopN w).toNat)) = true := by
    rw [Option.any_eq_true]
    rintro ⟨f, hf, outside⟩
    exact absurd (within f hf) (Nat.not_le.2 (of_decide_eq_true outside))
  rw [loopStart, if_neg h, if_neg room.ne, if_neg inside]

theorem loopStart_of_full (h : (s.vat v).s (fSa w) ≠ 0) (full : (s.vat v).loops.length = 4) :
    loopStart s v w = s.vatFault v (illegalInfo v (s.vat v).pc.toNat 0x43 w 4) := by
  rw [loopStart, if_neg h, if_pos full]

end

/-- Settles O8: a LOOP of a legal word is `loopStart`. -/
theorem loopResults : Obligations.LoopResults := by
  intro s v w ready dst sb fn pos imm x n last
  have run {t : State} (ht : loopStart s v w = t) : Runs (.loop v w) s t :=
    runs_issue rfl ready (by simp [dst, sb, fn, imm, Nat.mod_eq_of_lt imm, pos.ne']) ht
  refine ⟨fun zero => run ?zero, fun nonzero room within => run ?room, fun nonzero full => run (loopStart_of_full nonzero full)⟩
  case zero => rw [loopStart_of_zero zero, loopN_eq imm]
  case room => rw [loopStart_of_room nonzero room (by rwa [toNat_loopN imm]), loopN_eq imm]

end Sys2Proof.Machine
end

section
/-! PROOFS. Loads and stores of the vat's own SRAM (05 R183, R184; 06 R236): what they do (O12), and precise faults (O9; R169, R175-R177). -/
namespace Sys2Proof.Machine
open Sys2Proof

/-! ### One access (R184) -/

section
variable {s : State} {v ea size al top : Nat} {store : Bool} {eff : State → State}

/-- An access in bounds, aligned, and with nothing in its way has its effect. -/
theorem memAccess_done (bound : ea ≤ top) (aligned : ea % al = 0)
    (clear : s.memWaits v (if store then [] else [ownRegion v ea size]) (if store then [ownRegion v ea size] else []) = false) :
    memAccess s v ea size al top store eff = eff s := by
  simp [memAccess, Nat.not_lt.2 bound, aligned, clear]

/-- An access that runs beyond its memory is a fault of the access's kind, a misaligned one of kind 5. -/
theorem memAccess_bad (bad : top < ea ∨ ea % al ≠ 0) : memAccess s v ea size al top store eff =
    s.vatFault v (boundsInfo v (s.vat v).pc.toNat ea size (if top < ea then (if store then 2 else 1) else 5) true) := by
  by_cases beyond : top < ea
  · simp only [memAccess, if_pos beyond]
  · simp only [memAccess, if_neg beyond, if_pos (bad.resolve_left beyond)]

end

/-! ### The words of loads and stores (R169) -/

section
variable {w : Word56}

theorem illegal_scalarMem (sb : fSb w = 0) (fn : fFn w = 0) (sa : fSa w < 16) :
    illegal [spare w true true false false true, aReg (fSa w)] = none := by simp [sb, fn, sa]

theorem illegal_addressMem (sb : fSb w = 0) (fn : fFn w = 0) (sa : fSa w < 16) (dst : fDst w < 16) :
    illegal [spare w true true false false true, aReg (fDst w), aReg (fSa w)] = none := by simp [sb, fn, sa, dst]

theorem illegal_vectorMem (sa : fSa w = 0) (sb : fSb w = 0) (fn : fFn w = 0) (ty : vTy w = 0) (sr : mSd w = 0) (vfn : vFn w = 0) :
    illegal [vSpare w true false false false false false true false true] = none := by simp [vSpare, sa, sb, fn, ty, sr, vfn]

end

/-- Settles O12: each access is legal, passes its checks and has its effect. -/
theorem loadStoreResults : Obligations.LoadStoreResults := by
  intro s v w
  refine ⟨fun sb fn sa bound => ⟨fun ready aligned => ?word, fun ready aligned dst => ?address⟩,
    fun sa sb fn ty sr vfn ready bound aligned => ?vector⟩
  case word =>
    have legal := illegal_scalarMem sb fn sa
    exact ⟨fun clear => runs_issue rfl ready legal (memAccess_done (Nat.le_of_lt_succ bound) aligned clear),
      fun clear => runs_issue rfl ready legal (memAccess_done (Nat.le_of_lt_succ bound) aligned clear)⟩
  case address =>
    have legal := illegal_addressMem sb fn sa dst
    exact ⟨fun clear => runs_issue rfl ready legal (memAccess_done (Nat.le_of_lt_succ bound) aligned clear),
      fun clear => runs_issue rfl ready legal (memAccess_done (Nat.le_of_lt_succ bound) aligned clear)⟩
  case vector =>
    have legal := illegal_vectorMem sa sb fn ty sr vfn
    exact ⟨fun clear => runs_issue rfl ready legal (memAccess_done bound aligned clear),
      fun clear => runs_issue rfl ready legal (memAccess_done bound aligned clear)⟩

/-! ### Precise faults (R175-R177) -/

theorem runs_undefinedOpcode {s : State} {v : Vat} {w : W64} (can : (s.vat v).canIssue = true) (pc : (s.vat v).pc.toNat < vatSize)
    (undefined : undefinedOp (w.toNat / 2 ^ 56) = true) : Runs (.undefinedOpcode v w) s
      (s.vatFault v (illegalInfo v (s.vat v).pc.toNat (w.toNat / 2 ^ 56) (w.setWidth 56) 1)) :=
  runs_of_answer rfl ((if_pos undefined).trans (issue_illegal can pc rfl))

theorem runs_registerForm_illegal {s : State} {v : Vat} {w : Word56} {e : Instr × Nat} (he : e ∈ registerForms v w)
    (can : (s.vat v).canIssue = true) (pc : (s.vat v).pc.toNat < vatSize) (spare : fFn w ≠ 0 ∨ fImm w ≠ 0) :
    Runs e.1 s (s.vatFault v (illegalInfo v (s.vat v).pc.toNat e.2 w 2)) := by
  obtain ⟨f, h⟩ := exec_registerForm he
  have used : ¬ (fFn w = 0 ∧ fImm w = 0) := not_and_or.2 spare
  exact runs_illegal (h s) can pc (by simp [used])

/-- Settles O9: the decode checks come first, then each access names its own fault. -/
theorem preciseFaults : Obligations.PreciseFaults := by
  intro s v can pc
  refine ⟨fun w => runs_undefinedOpcode can pc, fun w spare e he => runs_registerForm_illegal he can pc spare, fun w =>
    ⟨fun sb fn sa => ⟨fun ready bad => ?word, fun ready dst bad => ?address⟩, fun sa sb fn ty sr vfn ready bad => ?vector⟩⟩
  case word =>
    have legal := illegal_scalarMem sb fn sa
    exact ⟨runs_issue rfl ready legal (memAccess_bad bad), runs_issue rfl ready legal (memAccess_bad bad)⟩
  case address =>
    have legal := illegal_addressMem sb fn sa dst
    exact ⟨runs_issue rfl ready legal (memAccess_bad bad), runs_issue rfl ready legal (memAccess_bad bad)⟩
  case vector =>
    have legal := illegal_vectorMem sa sb fn ty sr vfn
    exact ⟨runs_issue rfl ready legal (memAccess_bad bad), runs_issue rfl ready legal (memAccess_bad bad)⟩

end Sys2Proof.Machine
end

section
/-! PROOFS. Special registers, events and STIME reads (O10; 05 R172, R188, R189, R192; 06 R249), tick waits and pail-ready marks (O11; 05 R190,
R191, R193; 02 R85, R86). -/
namespace Sys2Proof.Machine
open Sys2Proof

/-! ### MFSR (R172, R188) -/

section
variable {s : State} {v : Vat} {w : Word56}

theorem illegal_mfsr {i : Nat} (sa : fSa w = 0) (sb : fSb w = 0) (fn : fFn w = 0) (imm : fImm w = i) (byte : i < 256) :
    illegal [spare w true false false false true, unused (fImm w / 256), undef (!specialDefined (fImm w % 256))] =
      if specialDefined i = true then none else some 6 := by
  have low : i / 256 = 0 := Nat.div_eq_of_lt byte
  cases h : specialDefined i <;> simp [sa, sb, fn, imm, Nat.mod_eq_of_lt byte, low, h]

/-- A read of any special register but CYC_LO, and of LSTAT where no watch is under way. -/
theorem runs_mfsr {i : Nat} {r : W32} (ready : Ready s v w ⟨[fDst w], [], []⟩) (sa : fSa w = 0) (sb : fSb w = 0) (fn : fFn w = 0)
    (imm : fImm w = i) (defined : specialDefined i = true) (cyc : i ≠ 0x08) (lstat : ¬ (i = 0x0A ∧ (s.vat v).pendLstat = true))
    (hr : s.special v i = r) : Runs (.mfsr v w) s (s.setVat v ((s.vat v).setS (fDst w) r).retire) := by
  have byte : i < 256 := by simp [specialDefined] at defined; omega
  refine runs_issue rfl ready (by rw [illegal_mfsr sa sb fn imm byte, if_pos defined]) ?_
  rw [imm, Nat.mod_eq_of_lt byte, if_neg cyc, if_neg lstat, hr]
  rfl

theorem runs_mfsr_cycLo (ready : Ready s v w ⟨[fDst w], [], []⟩) (sa : fSa w = 0) (sb : fSb w = 0) (fn : fFn w = 0) (imm : fImm w = 8) :
    ∃ d : BitVec 56, Runs (.mfsr v w) s ({ s with fresh := s.fresh + 1 }.setVat v
      ({ s.vat v with cyc := (s.vat v).cyc + d.setWidth 64, cycHi := ((s.vat v).cyc + d.setWidth 64).extractLsb' 32 32 }.setS (fDst w)
        (((s.vat v).cyc + d.setWidth 64).extractLsb' 0 32)).retire) := by
  refine ⟨(s.takeFree 56).1, runs_issue rfl ready (illegal_mfsr sa sb fn imm (by decide)) ?_⟩
  rw [imm, if_pos rfl, ← setWidth_ushiftRight_eq, ← BitVec.setWidth_eq_extractLsb' (by decide)]
  rfl

/-- LOOP_INDEX and LOOP_REMAINING name the loops from the innermost out. -/
theorem State.special_loop (s : State) (v : Nat) {k : Nat} (h : k < 4) :
    s.special v (0x10 + k) = ((s.vat v).loopAt k).index ∧ s.special v (0x14 + k) = ((s.vat v).loopAt k).remaining := by
  interval_cases k <;> exact ⟨rfl, rfl⟩

theorem specialDefined_loop {k : Nat} (h : k < 4) : specialDefined (0x10 + k) = true ∧ specialDefined (0x14 + k) = true := by
  simp [specialDefined]
  omega

/-! ### Events, STIME and the status of the transfer engine (R189, R192, R249) -/

theorem runs_evt (ready : Ready s v w ⟨[fSa w, fSb w], [], []⟩) (dst : fDst w = 0) (fn : fFn w = 0) (imm : fImm w < 65536)
    (room : (s.vat v).events.length < 8) : Runs (.evt v w) s (s.setVat v { s.vat v with events := (s.vat v).events ++
      [(⟨BitVec.ofNat 16 (fImm w), (s.vat v).s (fSa w), (s.vat v).s (fSb w), (s.vat v).pc⟩ : VatEvent)] }.retire) :=
  runs_issue rfl ready (by simp [dst, fn, imm]) (if_neg (Nat.not_le.2 room))

theorem runs_rdst {c : Nat} (ready : Ready s v w ⟨[], [fDst w], []⟩) (dst : fDst w < 16) (sa : fSa w = 0) (sb : fSb w = 0) (fn : fFn w = 0)
    (imm : fImm w = 0) (ctx : s.vatCtx v = some c) :
    Runs (.rdst v w) s (s.setVat v { s.vat v with stimes := (s.vat v).stimes ++ [(fDst w, s.stime48 c)] }.retire) :=
  runs_issue rfl ready (by simp [dst, sa, sb, fn, imm]) (by rw [ctx]; rfl)

theorem runs_stimeReadResult {d : Nat} {t : W48} {rest : List (Nat × W48)} (h : (s.vat v).stimes = (d, t) :: rest) :
    Runs (.stimeReadResult v) s (s.setVat v ({ s.vat v with stimes := rest }.setA d t)) :=
  runs_of_answer rfl (by rw [h]; rfl)

/-- With no transfer queued the status word is the count of saturations alone. -/
theorem runs_xstat (ready : Ready s v w ⟨[mSd w], [], []⟩) (legal : illegal [xSpare w false false false false false true false false] = none)
    (idle : (s.vat v).queue = []) :
    Runs (.xstat v w) s (s.setVat v ((s.vat v).setS (mSd w) (BitVec.ofNat 32 ((s.vat v).satCnt.toNat * 65536))).retire) :=
  runs_issueRegs rfl ready legal (by simp only [idle, List.filter_nil, List.length_nil, Nat.add_zero])

end

/-- Settles O10, index by index. -/
theorem specialRegisterResults : Obligations.SpecialRegisterResults := by
  intro s v w x
  refine ⟨fun ready sa sb fn => ?mfsr, fun ready dst fn imm room => runs_evt ready dst fn imm room,
    fun ready dst sa sb fn imm c ctx => runs_rdst ready dst sa sb fn imm ctx, fun d t rest h => runs_stimeReadResult h,
    fun ready ad aa ab sa sb pol src dst imm idle => runs_xstat ready (by simp [xSpare, ad, aa, ab, sa, sb, pol, src, dst, imm, b2n]) idle⟩
  case mfsr =>
    have reads {i r} := @runs_mfsr s v w i r ready sa sb fn
    have plain {i : Nat} (r : W32) (imm : fImm w = i) : specialDefined i = true ∧ i ≠ 8 ∧ i ≠ 10 → _ :=
      fun ⟨defined, cyc, lstat⟩ => reads (r := r) imm defined cyc (fun h => lstat h.1)
    refine ⟨fun imm => plain _ imm (by decide) rfl, fun imm => plain _ imm (by decide) rfl,
      fun c ctx => ⟨fun imm => plain _ imm (by decide) ?context, fun imm => plain _ imm (by decide) ?lnid⟩,
      fun imm => plain _ imm (by decide) ?stepLo, fun imm => plain _ imm (by decide) ?stepHi,
      fun imm => plain _ imm (by decide) ?trelLo, fun imm => plain _ imm (by decide) ?trelHi,
      fun imm => runs_mfsr_cycLo ready sa sb fn imm, fun imm => plain _ imm (by decide) rfl,
      fun imm idle => reads imm rfl (by decide) (fun h => absurd h.2 (Bool.eq_false_iff.1 idle)) rfl,
      fun imm => plain _ imm (by decide) rfl, fun k hk => ?loops,
      fun byte above outside => ?undefined⟩
    case context => simp only [State.special, ctx, Option.getD_some]
    case lnid => simp only [State.special, ctx, Option.getD_some]
    case stepLo => exact BitVec.setWidth_eq_extractLsb' (by decide)
    case stepHi => exact setWidth_ushiftRight_eq _ _ _
    case trelLo => exact BitVec.setWidth_eq_extractLsb' (by decide)
    case trelHi => exact address_upper _
    case loops =>
      obtain ⟨index, remaining⟩ := s.special_loop v hk
      obtain ⟨indexDefined, remainingDefined⟩ := specialDefined_loop hk
      exact ⟨fun imm => plain _ imm ⟨indexDefined, by omega, by omega⟩ index,
        fun imm => plain _ imm ⟨remainingDefined, by omega, by omega⟩ remaining⟩
    case undefined =>
      obtain ⟨can, pc, -⟩ := ready
      refine runs_illegal rfl can pc ((illegal_mfsr sa sb fn rfl byte).trans (if_neg ?_))
      simp [specialDefined]
      omega

/-! ### Tick waits (R190, R191) -/

section
variable {s : State} {v : Vat} {w : Word56} {c : Nat} {t : W48}

theorem runs_twait (ctx : s.vatCtx v = some c) (ready : Ready s v w ⟨[], [fSa w], []⟩) (dst : fDst w = 0) (sb : fSb w = 0) (fn : fFn w = 0)
    (sa : fSa w < 16) (reached : (s.ctx c).reached ((s.vat v).base (fSa w) w) = false)
    (stale : (s.ctx c).stale ((s.vat v).base (fSa w) w) = false) :
    Runs (.twait v w) s (s.setVat v { s.vat v with run := .tickWait ((s.vat v).base (fSa w) w) }) :=
  runs_issue rfl ready (by simp [dst, sb, fn, sa]) (by simp [ctx, reached, stale, State.onVat])

theorem runs_tickWaitRelease (ctx : s.vatCtx v = some c) (run : (s.vat v).run = .tickWait t) (reached : (s.ctx c).reached t = true)
    (gated : (s.vat v).gated = false) : Runs (.tickWaitRelease v) s
      (s.setVat v { s.vat v with run := .issuing, trel := t, step := (s.ctx c).stepAt t }.retire) :=
  runs_of_answer rfl (by simp [run, ctx, reached, gated, State.onVat])

theorem runs_tickWaitRelease_early (ctx : s.vatCtx v = some c) (run : (s.vat v).run = .tickWait t) (reached : (s.ctx c).reached t = false) :
    Runs (.tickWaitRelease v) s s :=
  runs_of_answer rfl (by simp [run, ctx, reached])

/-! ### Pail-ready marks (R193, R85, R86) -/

/-- The page PREADY names (R193). -/
def VatState.markPage (x : VatState) (w : Word56) : Nat := (fImm w % 32768 + (x.s (fSa w)).toNat) % 2 ^ 32

theorem runs_pready (ctx : s.vatCtx v = some c) (ready : Ready s v w ⟨[fSa w, fSb w], [], []⟩) (dst : fDst w = 0) (fn : fFn w = 0)
    (high : fld (fImm w) 24 7 = 0) (mid : fld (fImm w) 15 1 = 0) (page : bitOf (fImm w) 31 = false)
    (outbound : s.pageKind c ((s.vat v).markPage w) = 1) (room : (s.vat v).marks.length < 4) :
    Runs (.pready v w) s (s.setVat v { s.vat v with
      marks := (s.vat v).marks ++ [(⟨false, (s.vat v).markPage w, BitVec.ofNat 8 (fImm w / 2 ^ 16 % 2 ^ 8 + ((s.vat v).s (fSb w)).toNat),
        (s.vat v).nextAge⟩ : Mark)],
      nextAge := (s.vat v).nextAge + 1 }.retire) := by
  refine runs_issue rfl ready (by simp [dst, fn, high, mid]) ?_
  rw [VatState.markPage] at outbound
  simp only [ctx, page, outbound, Option.getD_some, bne_self_eq_false, Bool.and_false, Bool.false_and, Bool.false_eq_true, if_false,
    if_neg (Nat.not_le.2 room)]
  rfl

theorem runs_pailReadyMark {m : Mark} {rest : List Mark} (h : (s.vat v).marks = m :: rest) (page : m.slot = false)
    (clear : (s.vat v).olderPailWrite m.age = false) :
    Runs (.pailReadyMark v) s (((s.setVat v { s.vat v with marks := rest }).setPageGen m.num m.gen).runSync v) := by
  have free : s.gateWaits v m = false := by simp [State.gateWaits, page]
  exact runs_of_answer rfl (by simp [h, clear, free, page, State.onVat])

theorem runs_pailReadyMark_early {m : Mark} {rest : List Mark} (h : (s.vat v).marks = m :: rest)
    (waits : (s.vat v).olderPailWrite m.age = true) : Runs (.pailReadyMark v) s s :=
  runs_of_answer rfl (by simp [h, waits])

end

/-- Settles O11: the wait and its release, then the mark and its arrival. -/
theorem tickWaitAndPailReady : Obligations.TickWaitAndPailReady :=
  ⟨fun _ _ _ _ ctx => ⟨fun ready dst sb fn sa reached stale => runs_twait ctx ready dst sb fn sa reached stale,
      fun _ => runs_tickWaitRelease ctx, fun _ => runs_tickWaitRelease_early ctx⟩,
    fun _ _ _ _ ctx => ⟨fun ready dst fn high mid page outbound room => runs_pready ctx ready dst fn high mid page outbound room,
      fun _ _ => runs_pailReadyMark, fun _ _ => runs_pailReadyMark_early⟩⟩

end Sys2Proof.Machine
end

section
/-! PROOFS. Sync instructions of a vat (05 R179, R196-R201): what is sent (O17), what waits, and what comes back (O18). -/
namespace Sys2Proof.Machine
open Sys2Proof

/-- The signed value of the low n bits is that of the n-bit word. -/
theorem sgn_eq_toInt_ofNat (n x : Nat) : sgn n x = (BitVec.ofNat n x).toInt := by
  have half : x % 2 ^ n < 2 ^ (n - 1) ↔ 2 * (x % 2 ^ n) < 2 ^ n := by
    cases n with
    | zero => simp
    | succ n => rw [Nat.add_sub_cancel, Nat.pow_succ]; omega
  simp only [sgn, half, BitVec.toInt_eq_toNat_cond, BitVec.toNat_ofNat]

theorem sgn_toNat {n : Nat} (x : BitVec n) : sgn n x.toNat = x.toInt := by
  rw [sgn_eq_toInt_ofNat, BitVec.ofNat_toNat, BitVec.setWidth_eq]

section
variable {s : State} {v : Vat} {w : Word56}

/-! ### What a vat sends and moves on (R196, R197, R200) -/

/-- A posted operation that finds a place goes on its way, and the vat retires. -/
theorem State.postSync_of_room {r : SyncReq} (room : (s.vat v).posted < 16) : s.postSync v r = s.sendSync v r VatState.retire :=
  if_neg (Nat.not_le.2 room)

theorem VatState.vid_of_narrow (x : VatState) (h : fImm w < 4096) : x.vid w = (fImm w + (x.s (fSa w)).toNat) % 4096 := by
  rw [VatState.vid, Nat.mod_eq_of_lt h]

/-- SADD of a register's amount (FN = 0). -/
theorem runs_sadd_register (ready : Ready s v w ⟨[fSa w, fSb w], [], []⟩) (dst : fDst w = 0) (room : (s.vat v).posted < 16) (fn : fFn w = 0)
    (imm : fImm w < 4096) :
    Runs (.sadd v w) s (s.sendSync v (.add ((s.vat v).vid w) ((s.vat v).s (fSb w)).toInt) VatState.retire) := by
  refine runs_issue rfl ready (by simp [dst, fn, imm]) ?_
  rw [State.postSync_of_room room, saddAmount, if_pos fn, sgn_toNat]

/-- SADD of the immediate's amount (FN = 1). -/
theorem runs_sadd_immediate (ready : Ready s v w ⟨[fSa w, fSb w], [], []⟩) (dst : fDst w = 0) (room : (s.vat v).posted < 16) (fn : fFn w = 1)
    (sb : fSb w = 0) :
    Runs (.sadd v w) s (s.sendSync v (.add ((s.vat v).vid w) (BitVec.ofNat 20 (fImm w / 4096)).toInt) VatState.retire) := by
  refine runs_issue rfl ready (by simp [dst, fn, sb]) ?_
  rw [State.postSync_of_room room, saddAmount, if_neg (by simp [fn]), sgn_eq_toInt_ofNat]

theorem runs_sset (ready : Ready s v w ⟨[fSa w, fSb w], [], []⟩) (dst : fDst w = 0) (room : (s.vat v).posted < 16) (fn : fFn w = 0)
    (imm : fImm w < 4096) : Runs (.sset v w) s (s.sendSync v (.set ((s.vat v).vid w) ((s.vat v).s (fSb w))) VatState.retire) :=
  runs_issue rfl ready (by simp [dst, fn, imm]) (State.postSync_of_room room)

theorem runs_unwatch (ready : Ready s v w ⟨[fSa w], [], []⟩) (dst : fDst w = 0) (room : (s.vat v).posted < 16) (sb : fSb w = 0)
    (fn : fFn w = 0) (imm : fImm w = 0) :
    Runs (.unwatch v w) s (s.sendSync v (.unwatch (((s.vat v).s (fSa w)).setWidth 16)) VatState.retire) :=
  runs_issue rfl ready (by simp [dst, sb, fn, imm]) (State.postSync_of_room room)

theorem runs_srd (ready : Ready s v w ⟨[fDst w, fSa w], [], []⟩) (sb : fSb w = 0) (fn : fFn w = 0) (imm : fImm w < 4096) :
    Runs (.srd v w) s (s.sendSync v (.read ((s.vat v).vid w) (fDst w)) VatState.retire) :=
  runs_issue rfl ready (by simp [sb, fn, imm]) rfl

/-- WATCH with a condition and a target that R200 defines. -/
theorem runs_watch (ready : Ready s v w ⟨[fDst w, fSa w, fSb w], [], []⟩) (fn : fFn w < 3) (imm : fImm w < 65536)
    (target : fImm w / 4096 = 0 ∨ 8 ≤ fImm w / 4096) : Runs (.watch v w) s
      (s.sendSync v (.watch ((s.vat v).vid w) (fFn w) ((s.vat v).s (fSb w)) (fImm w / 4096) (fDst w)) VatState.retire) := by
  have code : fld (fImm w) 12 4 = fImm w / 4096 := Nat.mod_eq_of_lt (Nat.div_lt_of_lt_mul imm)
  have defined : ¬ (3 ≤ fFn w ∨ 1 ≤ fImm w / 4096 ∧ fImm w / 4096 ≤ 7) := by omega
  refine runs_issue rfl ready ?_ (by rw [code])
  rw [code, illegal_spare, illegal_unused, illegal_undef]
  simp only [Bool.or_eq_true, Bool.and_eq_true, decide_eq_true_eq, if_neg defined]
  simp [imm]

/-! ### What a vat waits for (R198, R199) -/

theorem runs_swait (idle : (s.vat v).pendLstat = false) (ready : Ready s v w ⟨[fDst w, fSa w, fSb w], [], []⟩) (imm : fImm w < 4096)
    (fn : fFn w < 2) : Runs (.swait v w) s (s.sendSync v (.wait ((s.vat v).vid w) (fFn w == 1) ((s.vat v).s (fSb w)))
      (fun x => { x with run := .syncWait (fDst w) })) :=
  runs_issue rfl ready (by simp [imm, fn]) (if_neg (Bool.eq_false_iff.1 idle))

theorem runs_sclaim (idle : (s.vat v).pendLstat = false) (ready : Ready s v w ⟨[fDst w, fSa w, fSb w], [], []⟩) (imm : fImm w < 4096)
    (fn : fFn w = 0) (amount : (s.vat v).s (fSb w) ≠ 0) : Runs (.sclaim v w) s
      (s.sendSync v (.claim ((s.vat v).vid w) ((s.vat v).s (fSb w))) (fun x => { x with run := .syncWait (fDst w) })) :=
  runs_issue rfl ready (by simp [imm, fn]) ((if_neg (Bool.eq_false_iff.1 idle)).trans (if_neg amount))

/-- A claim of zero is granted at once. -/
theorem runs_sclaim_zero (idle : (s.vat v).pendLstat = false) (ready : Ready s v w ⟨[fDst w, fSa w, fSb w], [], []⟩) (imm : fImm w < 4096)
    (fn : fFn w = 0) (amount : (s.vat v).s (fSb w) = 0) :
    Runs (.sclaim v w) s (s.setVat v { (s.vat v).setS (fDst w) 0 with lstat := 0 }.retire) :=
  runs_issue rfl ready (by simp [imm, fn]) ((if_neg (Bool.eq_false_iff.1 idle)).trans (if_pos amount))

theorem runs_barr (idle : (s.vat v).pendLstat = false) (ready : Ready s v w ⟨[fSa w], [], []⟩) (imm : fImm w < 4096) (dst : fDst w = 0)
    (sb : fSb w = 0) (fn : fFn w = 0) :
    Runs (.barr v w) s (s.sendSync v (.arrive ((s.vat v).vid w)) (fun x => { x with run := .barrierWait })) :=
  runs_issue rfl ready (by simp [dst, sb, fn, imm]) (if_neg (Bool.eq_false_iff.1 idle))

/-! ### What comes back (R196-R201) -/

/-- The value of a read, and of a watch its handle and status. -/
theorem runs_syncReadResult {r : ReadResult} {rest : List ReadResult} (h : (s.vat v).results = r :: rest) : Runs (.syncReadResult v) s
    (s.setVat v { { s.vat v with results := rest }.setS r.d r.value with
      lstat := r.lstat.getD ({ s.vat v with results := rest }.setS r.d r.value).lstat }) := by
  obtain ⟨d, value, _ | status⟩ := r <;> exact runs_of_answer rfl (by rw [h]; rfl)

/-- The one notification that ends a wait on a counter. -/
theorem runs_waitNotification_sync {n : Notice} {rest : List Notice} {d : Nat} (h : (s.vat v).notices = n :: rest)
    (gated : (s.vat v).gated = false) (run : (s.vat v).run = .syncWait d) : Runs (.waitNotification v) s
      (s.setVat v ({ s.vat v with notices := rest, run := .issuing, lstat := n.status }.setS d n.value).retire) :=
  runs_of_answer rfl (by simp [h, gated, run, State.onVat])

/-- The one that ends a wait on a barrier. -/
theorem runs_waitNotification_barrier {n : Notice} {rest : List Notice} (h : (s.vat v).notices = n :: rest)
    (gated : (s.vat v).gated = false) (run : (s.vat v).run = .barrierWait) : Runs (.waitNotification v) s
      (s.setVat v { s.vat v with notices := rest, run := .issuing, lstat := n.status }.retire) :=
  runs_of_answer rfl (by simp [h, gated, run, State.onVat])

/-- The notice of a fault: a read that faulted gives zero. -/
theorem runs_syncFaultNotice_read {rest : List FaultEcho} {d : Nat} (h : (s.vat v).echoes = .read d :: rest) : Runs (.syncFaultNotice v) s
    (s.setVat v ({ s.vat v with echoes := rest, stopped := true }.setS d 0)) :=
  runs_of_answer rfl (by rw [h]; rfl)

theorem runs_syncFaultNotice_none {rest : List FaultEcho} (h : (s.vat v).echoes = .none :: rest) : Runs (.syncFaultNotice v) s
    (s.setVat v { s.vat v with echoes := rest, stopped := true }) :=
  runs_of_answer rfl (by rw [h]; rfl)

end

/-- Settles O17: what each instruction sends is the model's request to the sync unit. -/
theorem syncSends : Obligations.SyncSends := fun _ _ _ =>
  ⟨fun dst room => ⟨fun ready => ⟨fun fn imm => runs_sadd_register ready dst room fn imm, fun fn sb => runs_sadd_immediate ready dst room fn sb,
      fun fn imm => runs_sset ready dst room fn imm⟩, fun ready sb fn imm => runs_unwatch ready dst room sb fn imm⟩,
    fun ready sb fn imm => runs_srd ready sb fn imm, fun ready fn imm target => runs_watch ready fn imm target⟩

/-- Settles O18: the waits, then what ends them. -/
theorem syncWaitsAndAnswers : Obligations.SyncWaitsAndAnswers := by
  refine ⟨fun s v w idle imm => ?waits, fun s v => ⟨fun _ _ => runs_syncReadResult, fun _ _ _ => runs_waitNotification_sync,
    fun _ _ => runs_waitNotification_barrier, fun _ _ => runs_syncFaultNotice_read, fun _ => runs_syncFaultNotice_none⟩⟩
  simp only [← VatState.vid_of_narrow _ imm]
  exact ⟨fun ready => ⟨fun fn => runs_swait idle ready imm fn, fun fn amount => runs_sclaim idle ready imm fn amount,
      fun fn amount => runs_sclaim_zero idle ready imm fn amount⟩,
    fun ready dst sb fn => runs_barr idle ready imm dst sb fn⟩

end Sys2Proof.Machine
end

section
/-! PROOFS. The vector engine on registers (06 R230-R235; 03 R128): lane by lane (O14), three registers, one, and S registers (O15), and the
arithmetic of a lane (O16). -/
namespace Sys2Proof.Machine
open Sys2Proof

/-! ### The words of format V (R169, R210, R230) -/

/-- The fields an instruction of format V does not use must all be zero. -/
@[simp] theorem illegal_vSpare (w : Word56) (vd va vb vc ty sr ar fn imm : Bool) (l : List (Bool × Nat)) :
    illegal (vSpare w vd va vb vc ty sr ar fn imm :: l) =
      if (vd = false → fDst w = 0) ∧ (va = false → fSa w = 0) ∧ (vb = false → fSb w = 0) ∧ (vc = false → fFn w = 0) ∧
        (ty = false → vTy w = 0) ∧ (sr = false → mSd w = 0) ∧ (ar = false → vAr w = 0) ∧ (fn = false → vFn w = 0) ∧
        (imm = false → vImm w = 0) then illegal l else some 2 := by
  simp [vSpare, and_assoc]

@[simp] theorem illegal_badCode (b : Bool) (l : List (Bool × Nat)) : illegal (badCode b :: l) = if b = true then some 0x84 else illegal l :=
  illegal_cons b 0x84 l

/-! ### Registers lane by lane (R231) -/

theorem VatState.map_lanes {α : Type} (x : VatState) (r : Nat) (f : W32 → α) :
    (x.lanes r).map f = (List.range 64).map (fun i => f (x.lane r i)) :=
  List.map_map

/-- A list with one entry for each lane, combined with a register. -/
theorem VatState.zipWith_map_lanes {α β : Type} (x : VatState) (r : Nat) (g : Nat → α) (f : α → W32 → β) :
    List.zipWith f ((List.range 64).map g) (x.lanes r) = (List.range 64).map (fun i => f (g i) (x.lane r i)) := by
  simp [VatState.lanes, List.zipWith_map]

/-- The law `zipWith_lanes`, for results other than lanes. -/
theorem VatState.zipWith_lanes {α : Type} (x : VatState) (a b : Nat) (f : W32 → W32 → α) :
    List.zipWith f (x.lanes a) (x.lanes b) = (List.range 64).map (fun i => f (x.lane a i) (x.lane b i)) := by
  rw [VatState.lanes, VatState.zipWith_map_lanes]

section
variable {s : State} {v : Vat} {w : Word56} {c : Instr} {op : Nat} {check : List (Bool × Nat)}

/-- An instruction that combines two V registers lane by lane. -/
theorem runs_lanes2 (f : W32 → W32 → W32) (ready : Ready s v w ⟨[], [], [fDst w, fSa w, fSb w]⟩)
    (h : exec c s = answer s (lanes2 s v op w check f)) (legal : illegal check = none) :
    Runs c s (s.setVat v ((s.vat v).setV (fDst w)
      ((List.range 64).map (fun i => f ((s.vat v).lane (fSa w) i) ((s.vat v).lane (fSb w) i)))).retire) :=
  runs_issueRegs h ready legal (by rw [zipWith_lanes])

/-- An instruction that maps one V register lane by lane. -/
theorem runs_lanes1 {f : W32 → W32} (ready : Ready s v w ⟨[], [], [fDst w, fSa w]⟩) (h : exec c s = answer s (lanes1 s v op w check f))
    (legal : illegal check = none) :
    Runs c s (s.setVat v ((s.vat v).setV (fDst w) ((List.range 64).map (fun i => f ((s.vat v).lane (fSa w) i)))).retire) :=
  runs_issueRegs h ready legal (by rw [VatState.map_lanes])

end

/-- The function codes of VLOG, as a chain of tests. -/
theorem laneLog_eq (fn : Nat) (a b : W32) : laneLog fn a b =
    if fn = 0 then a &&& b else if fn = 1 then a ||| b else if fn = 2 then a ^^^ b else if fn = 3 then a <<< (b.toNat % 32)
    else if fn = 4 then a >>> (b.toNat % 32) else a.sshiftRight (b.toNat % 32) := by
  match fn with
  | 0 | 1 | 2 | 3 | 4 => rfl
  | n + 5 => simp [laneLog]

/-- Settles O14: a defined type and function code make each word legal, and the lanes are those of the instruction's own function. -/
theorem vectorLaneResults : Obligations.VectorLaneResults := by
  intro s v w vc sr ar imm ready
  refine ⟨fun ty fn => ?typed, fun ty fn => ?compare, fun ty fn => ?logic, fun ty fn => ?permute⟩
  case typed =>
    have legal : illegal (typed2 w) = none := by simp [typed2, vc, sr, ar, imm, fn, ty.ne]
    have put {c op} (f) (h : exec c s = answer s (lanes2 s v op w (typed2 w) f)) := runs_lanes2 f ready h legal
    exact ⟨put (laneAdd _) rfl, put (laneSub _) rfl, put (laneMul _) rfl, put (laneMin _) rfl, put (laneMax _) rfl⟩
  case compare =>
    exact runs_lanes2 (laneCmp (vTy w) (vFn w)) ready rfl (by simp [vc, sr, ar, imm, ty.ne, Nat.le_of_lt_succ fn])
  case logic =>
    have lanes : Runs (.vlog v w) s _ := runs_lanes2 (laneLog (vFn w)) ready rfl (by simp [vc, sr, ar, imm, ty, Nat.le_of_lt_succ fn])
    simpa only [laneLog_eq] using lanes
  case permute => exact runs_issueRegs rfl ready (by simp [vc, sr, ar, imm, ty, fn]) (by rw [VatState.map_lanes])

/-- Settles O15: the same, with one, two or three registers read lane by lane. -/
theorem vectorOtherResults : Obligations.VectorOtherResults := by
  intro s v w ar
  refine ⟨fun sr fn imm ready => ⟨fun ty => ?vfma, fun ty => ?vsel⟩,
    fun vb vc sr imm ready => ⟨fun ty fn => ?vcvt, fun ty fn => ?vfun, fun ty fn => ?vred⟩,
    fun va vb vc ty fn imm ready => ?vbcast, fun vd vb vc ty fn imm ready => ?vext⟩
  case vfma =>
    exact runs_issueRegs rfl ready (by simp [sr, ar, fn, imm, ty.ne])
      (by rw [VatState.zipWith_lanes, VatState.zipWith_map_lanes])
  case vsel =>
    refine runs_issueRegs rfl ready (by simp [sr, ar, fn, imm, ty]) ?_
    rw [List.zip, VatState.zipWith_lanes, VatState.zipWith_map_lanes]
    simp only [ne_eq, ite_not]
  case vcvt => exact runs_lanes1 ready rfl (by simp [vb, vc, sr, ar, imm, ty, Nat.le_of_lt_succ fn])
  case vfun => exact runs_lanes1 ready rfl (by simp [vb, vc, sr, ar, imm, Nat.le_of_lt_succ ty, Nat.le_of_lt_succ fn])
  case vred => exact runs_issueRegs rfl ready (by simp [vb, vc, sr, ar, imm, ty.ne, Nat.le_of_lt_succ fn]) rfl
  case vbcast => exact runs_issueRegs rfl ready (by simp [va, vb, vc, ar, ty, fn, imm]) (by simp [List.map_const'])
  case vext =>
    exact runs_issueRegs rfl ready (by simp [vd, vb, vc, ar, ty, fn, Nat.div_eq_of_lt imm]) (by rw [Nat.mod_eq_of_lt imm])

/-! ### INT32 lanes (R231, R232) -/

/-- Equal lanes are one value, so the smaller of two may be chosen by < alone. -/
theorem laneMin_int (a b : W32) : laneMin 2 a b = if a.toInt < b.toInt then a else b := by
  have le : laneMin 2 a b = if a.toInt ≤ b.toInt then a else b := rfl
  rw [le]
  by_cases h : a.toInt = b.toInt
  · rw [BitVec.toInt_inj.1 h, ite_self, ite_self]
  · simp only [Int.le_iff_lt_or_eq, h, or_false]

theorem laneMax_int (a b : W32) : laneMax 2 a b = if a.toInt < b.toInt then b else a :=
  ite_le_eq_ite_lt a b

theorem laneCmp_int (a b : W32) :
    laneCmp 2 0 a b = (if a = b then 1 else 0) ∧ laneCmp 2 1 a b = (if a = b then 0 else 1) ∧
      laneCmp 2 2 a b = (if a.toInt < b.toInt then 1 else 0) ∧ laneCmp 2 3 a b = (if a.toInt < b.toInt then 0 else 1) := by
  simp [laneCmp, ite_le_eq_ite_lt]

/-! ### NaN in a lane (R128, R232) -/

section
variable {x y : FP}

theorem FP.add_of_nan (h : x = .nan ∨ y = .nan) : x.add y = .nan := by
  obtain rfl | rfl := h
  · rfl
  · cases x <;> rfl

theorem FP.mul_of_nan (h : x = .nan ∨ y = .nan) : x.mul y = .nan := by
  obtain rfl | rfl := h
  · rfl
  · cases x <;> rfl

theorem FP.lt_of_nan (h : x = .nan ∨ y = .nan) : x.lt y = false := by
  obtain rfl | rfl := h
  · rfl
  · cases x <;> rfl

theorem FP.unordered_of_nan (h : x = .nan ∨ y = .nan) : x.unordered y = true := by
  simpa [FP.unordered] using h

theorem FP.neg_eq_nan (h : x = .nan) : x.neg = .nan := by rw [h]; rfl

end

section
variable {ty : Nat} {a b : W32}

/-- The arithmetic of floating-point lanes of which one is a NaN. -/
theorem laneArith_of_nan (fp : ty ≠ 2) (h : laneFP ty a = .nan ∨ laneFP ty b = .nan) :
    laneAdd ty a b = fpLane ty .nan ∧ laneSub ty a b = fpLane ty .nan ∧ laneMul ty a b = fpLane ty .nan ∧
      laneMin ty a b = fpLane ty .nan ∧ laneMax ty a b = fpLane ty .nan := by
  simp only [laneAdd, laneSub, laneMul, laneMin, laneMax, if_neg fp, FP.add_of_nan h, FP.add_of_nan (h.imp_right FP.neg_eq_nan),
    FP.mul_of_nan h, FP.unordered_of_nan h, if_true, and_self]

/-- A comparison with a NaN holds of ≠ alone. -/
theorem laneCmp_of_nan (fp : ty ≠ 2) (h : laneFP ty a = .nan ∨ laneFP ty b = .nan) :
    laneCmp ty 0 a b = 0 ∧ laneCmp ty 1 a b = 1 ∧ laneCmp ty 2 a b = 0 ∧ laneCmp ty 3 a b = 0 := by
  simp [laneCmp, fp, FP.lt_of_nan h, FP.unordered_of_nan h]

end

/-- Settles O16: integers by their order, a NaN by the functions it absorbs, and the two zeros by evaluation. -/
theorem laneArithmetic : Obligations.LaneArithmetic := by
  refine ⟨fun a b c => ⟨rfl, rfl, rfl, rfl, laneMin_int a b, laneMax_int a b, laneCmp_int a b⟩, fun a b h => ?nan, by decide⟩
  case nan =>
    obtain ⟨add, sub, mul, min, max⟩ := laneArith_of_nan (ty := 0) (by decide) h
    exact ⟨add, sub, mul, min, max, laneCmp_of_nan (by decide) h⟩

end Sys2Proof.Machine
end

section
/-! PROOFS. Issue of the compute instructions of formats M, P and X (06 R204-R206, R210-R212, R218-R248): those of the array and the loader
(O19), and those of the sparse and the transfer engine (O20). -/
namespace Sys2Proof.Machine
open Sys2Proof

/-! ### The words of formats M, P and X (R169, R210, R218, R237, R242) -/

@[simp] theorem allZero_nil : AllZero [] := fun _ h => absurd h List.not_mem_nil

@[simp] theorem allZero_cons {n : Nat} {l : List Nat} : AllZero (n :: l) ↔ n = 0 ∧ AllZero l := List.forall_mem_cons

/-- The fields an instruction of format M does not use must all be zero. -/
@[simp] theorem illegal_mSpare (w : Word56) (tcls pol half wb ta tb sa sb sd fa fb spk kq imm : Bool) (l : List (Bool × Nat)) :
    illegal (mSpare w tcls pol half wb ta tb sa sb sd fa fb spk kq imm :: l) =
      if (tcls = false → mTcls w = 0) ∧ (pol = false → b2n (mPol w) = 0) ∧ (half = false → b2n (mHalf w) = 0) ∧
        (wb = false → mWb w = 0) ∧ (ta = false → mTa w = 0) ∧ (tb = false → mTb w = 0) ∧ (sa = false → mSa w = 0) ∧ (sb = false → mSb w = 0) ∧
        (sd = false → mSd w = 0) ∧ (fa = false → mFa w = 0) ∧ (fb = false → mFb w = 0) ∧ (spk = false → mSpk w = 0) ∧
        (kq = false → fld w.toNat 12 3 = 0) ∧ (imm = false → mImm w = 0) then illegal l else some 2 := by
  simp [mSpare, and_assoc]

/-- The fields an instruction of format P does not use must all be zero, and FN of every one. -/
@[simp] theorem illegal_pSpare (w : Word56) (ad aa ab sa sb sd imm : Bool) (l : List (Bool × Nat)) :
    illegal (pSpare w ad aa ab sa sb sd imm :: l) =
      if (ad = false → pAd w = 0) ∧ (aa = false → pAa w = 0) ∧ (ab = false → pAb w = 0) ∧ (sa = false → mSa w = 0) ∧
        (sb = false → mSb w = 0) ∧ (sd = false → mSd w = 0) ∧ pFn w = 0 ∧ (imm = false → pImm w = 0) then illegal l else some 2 := by
  simp [pSpare, and_assoc]

/-- The fields an instruction of format X does not use must all be zero, and IMM20 of every one. -/
@[simp] theorem illegal_xSpare (w : Word56) (ad aa ab sa sb sd pol fn : Bool) (l : List (Bool × Nat)) :
    illegal (xSpare w ad aa ab sa sb sd pol fn :: l) =
      if (ad = false → pAd w = 0) ∧ (aa = false → pAa w = 0) ∧ (ab = false → pAb w = 0) ∧ (sa = false → mSa w = 0) ∧
        (sb = false → mSb w = 0) ∧ (sd = false → mSd w = 0) ∧ (pol = false → b2n (xPol w) = 0) ∧
        (fn = false → xSrc w = 0 ∧ xDst w = 0) ∧ pImm w = 0 then illegal l else some 2 := by
  simp [xSpare, and_assoc]

@[simp] theorem illegal_badFormat (b : Bool) (l : List (Bool × Nat)) :
    illegal (badFormat b :: l) = if b = true then some 0x84 else illegal l :=
  illegal_cons b 0x84 l

@[simp] theorem illegal_badSpace (b : Bool) (l : List (Bool × Nat)) : illegal (badSpace b :: l) = if b = true then some 0x85 else illegal l :=
  illegal_cons b 0x85 l

/-! ### Register checks (R206, R210-R212, R243): one that passes leaves the fault to those after it -/

section
variable {a n : Nat} {l : List (Option EngFault)}

theorem firstBad_nil : firstBad [] = none := rfl

theorem firstBad_cons {e : Option EngFault} (h : e = none) (rest : firstBad l = none) : firstBad (e :: l) = none := by
  subst h
  exact rest

theorem firstBad_overrun (fits : a + max n 1 ≤ vatSize) (rest : firstBad l = none) : firstBad (overrun a n :: l) = none :=
  firstBad_cons (if_neg (Nat.not_lt.2 fits)) rest

theorem firstBad_askew {al : Nat} (aligned : a % al = 0) (rest : firstBad l = none) : firstBad (askew a al :: l) = none :=
  firstBad_cons (if_neg (not_not.2 aligned)) rest

theorem firstBad_badLength {unit : Nat} (pos : n ≠ 0) (whole : n % unit = 0) (rest : firstBad l = none) :
    firstBad (badLength a n unit :: l) = none :=
  firstBad_cons (if_neg (by simp [pos, whole])) rest

theorem firstBad_spaceOverrun {space : Nat} (fits : a + max n 1 ≤ if space = 1 then pailSize else vatSize) (rest : firstBad l = none) :
    firstBad (spaceOverrun space a n :: l) = none := by
  refine firstBad_cons ?_ rest
  by_cases pail : space = 1
  · rw [if_pos pail] at fits
    rw [spaceOverrun, if_pos pail, if_neg (Nat.not_lt.2 fits)]
  · rw [if_neg pail] at fits
    rw [spaceOverrun, if_neg pail, overrun, if_neg (Nat.not_lt.2 fits)]

theorem firstBad_badCount {b : Bool} {addr struct : Nat} (inRange : b = false) (rest : firstBad l = none) :
    firstBad (badCount b addr struct n :: l) = none :=
  firstBad_cons (if_neg (Bool.eq_false_iff.1 inRange)) rest

end

/-- A copy passes whose places, where both exist, lie apart. -/
theorem copyOverlap_eq_none {v : Nat} {o : EngineOp} (h : ∀ y z, placeIn v (xSrc o.w) o.a1.toNat o.s1.toNat = some y →
    placeIn v (xDst o.w) o.a0.toNat o.s1.toNat = some z → y + o.s0.toNat ≤ z ∨ z + o.s0.toNat ≤ y) : copyOverlap v o = none := by
  unfold copyOverlap
  split
  next y z hy hz =>
    have apart := h y z hy hz
    exact if_neg (by omega)
  next => rfl

/-! ### Joining a queue (R204, R206) -/

section
variable {s : State} {v op : Nat} {w : Word56} {u : Uses} {c : Instr} {check : Option Nat} {e : Engine} {mk : VatState → EngineOp}
  {regs : EngineOp → Option EngFault}

/-- An instruction with room in its queue, at a vat ready for it, whose word and registers pass their checks. -/
theorem runs_issueEngine {o : EngineOp} (room : roomFor s v e (queueDepth e)) (ready : Ready s v w u)
    (h : exec c s = answer s (issueEngine s v op w check u e mk regs)) (ho : mk (s.vat v) = o) (legal : check = none) (hr : regs o = none) :
    Runs c s (queuedAt s v e o) := by
  subst ho
  exact runs_of_answer h (issueEngine_ready ready legal room hr)

end

/-! ### The array and the loader (R219-R229) -/

/-- A partial's region holds more than a byte. -/
theorem max_partialSize_one (compact unit : Bool) : max (partialSize compact unit) 1 = partialSize compact unit := by
  cases compact <;> cases unit <;> rfl

/-- Settles O19: every clause is one use of the rule for joining a queue, with the word's checks and the captured address's. -/
theorem arrayIssue : Obligations.ArrayIssue := by
  intro s v w x runs fits
  refine ⟨fun room => ⟨fun ready => ⟨fun zero imm => ?wclr, fun zero fa fb spk pair tern k cls => ?mma⟩,
    fun ready sa imm region zero => ?partials, fun ready sa sb imm region zero => ?wcvt, fun ready imm zero => ?wtov, fun ready imm zero => ?wstat⟩,
    fun room ready sa region zero => ?tld⟩
  all_goals simp only [allZero_cons, allZero_nil, and_true] at zero
  case wclr => exact runs_issueEngine room ready rfl rfl (by simp [zero, Nat.div_eq_of_lt imm]) rfl
  case mma =>
    have formats : ¬ ((11 < mFa w ∨ 11 < mFb w) ∨ mSpk w = 3) := by omega
    have permitted : macs (mFa w) (mFb w) ≠ none := Option.isSome_iff_ne_none.1 pair
    refine runs_issueEngine room ready rfl rfl ?_ rfl
    simpa [zero, illegal_cons, formats, permitted, k, Nat.not_lt.2 cls, ternary] using tern
  case partials =>
    obtain ⟨aligned, bound⟩ := region
    have legal : illegal [mSpare w true false false true false false true false false false false false false true, unused (mImm w / 4),
        aReg (mSa w)] = none := by simp [zero, Nat.div_eq_of_lt imm, sa]
    rw [← max_partialSize_one] at bound
    have regs := firstBad_overrun bound (firstBad_askew aligned firstBad_nil)
    exact ⟨runs_issueEngine room ready rfl rfl legal regs, runs_issueEngine room ready rfl rfl legal regs⟩
  case wcvt =>
    obtain ⟨aligned, bound⟩ := region
    exact runs_issueEngine room ready rfl rfl (by simp [zero, Nat.div_eq_of_lt imm, sa, sb, illegal_cons])
      (firstBad_overrun bound (firstBad_askew aligned firstBad_nil))
  case wtov => exact runs_issueEngine room ready rfl rfl (by simp [zero, Nat.div_eq_of_lt imm]) rfl
  case wstat => exact runs_issueEngine room ready rfl rfl (by simp [zero, Nat.div_eq_of_lt imm]) rfl
  case tld =>
    obtain ⟨aligned, bound⟩ := region
    exact runs_issueEngine room ready rfl rfl (by simp [zero, sa]) (firstBad_overrun bound (firstBad_askew aligned firstBad_nil))

/-! ### The sparse and the transfer engine (R238-R248) -/

/-- The registers of an instruction whose two regions are aligned and lie in vat SRAM. -/
theorem firstBad_twoRegions {a d m n al bl : Nat} (boundA : a + max m 1 ≤ vatSize) (askewA : a % al = 0) (boundD : d + max n 1 ≤ vatSize)
    (askewD : d % bl = 0) : firstBad [overrun a m, askew a al, overrun d n, askew d bl] = none :=
  firstBad_overrun boundA (firstBad_askew askewA (firstBad_overrun boundD (firstBad_askew askewD firstBad_nil)))

/-- Settles O20: the same rule; the bounds of counts and lengths are those of the statement. -/
theorem sparseAndTransferIssue : Obligations.SparseAndTransferIssue := by
  refine ⟨fun s v w room fn => ?sparse, fun s v w room imm => ?transfer⟩
  case sparse =>
    refine ⟨fun ready => ⟨fun zero pos top askewA askewD boundA boundD => ?spcmp, fun zero askewA askewD boundA boundD => ?spexp,
        fun zero imm format some most few top boundA boundD => ?topk⟩,
      fun ready => ⟨fun zero nonzero whole boundB => ⟨fun boundA boundD => ?spgath, fun boundD boundA => ?spscat⟩,
        fun zero askewB boundB boundA boundD => ?disp⟩⟩
    all_goals simp only [allZero_cons, allZero_nil, and_true] at zero
    case spcmp =>
      exact runs_issueEngine room ready rfl rfl (by simp [zero, fn])
        (firstBad_badCount (by simp [pos.ne', top]) (firstBad_twoRegions boundA askewA boundD askewD))
    case spexp => exact runs_issueEngine room ready rfl rfl (by simp [zero, fn]) (firstBad_twoRegions boundA askewA boundD askewD)
    case topk =>
      exact runs_issueEngine room ready rfl rfl (by simp [zero, fn, Nat.div_eq_of_lt imm, format])
        (firstBad_badCount (by simp [some.ne', most]) (firstBad_badCount (by simp [few, top])
          (firstBad_overrun boundA (firstBad_overrun boundD firstBad_nil))))
    case spgath =>
      exact runs_issueEngine room ready rfl rfl (by simp [zero, fn])
        (firstBad_badLength nonzero whole (firstBad_overrun boundB (firstBad_overrun boundA (firstBad_overrun boundD firstBad_nil))))
    case spscat =>
      exact runs_issueEngine room ready rfl rfl (by simp [zero, fn])
        (firstBad_badLength nonzero whole (firstBad_overrun boundB (firstBad_overrun boundD (firstBad_overrun boundA firstBad_nil))))
    case disp =>
      exact runs_issueEngine room ready rfl rfl (by simp [zero, fn])
        (firstBad_overrun boundB (firstBad_askew askewB (firstBad_overrun boundA (firstBad_overrun boundD firstBad_nil))))
  case transfer =>
    refine ⟨fun ready => ⟨fun zero src dst both pos whole askewA askewD boundA boundD apart => ?xcopy,
        fun zero askewA askewD boundA boundD => ?xexp, fun zero src askewA askewD boundA boundD => ?xchurn⟩,
      fun ready zero dst pos whole boundD => ?xfill, fun ready zero dst askewA boundA boundB boundD => ?xgath⟩
    all_goals simp only [allZero_cons, allZero_nil, and_true] at zero
    case xcopy =>
      exact runs_issueEngine room ready rfl rfl (by simp [zero, imm, src.ne, dst.ne, both])
        (firstBad_badLength pos.ne' whole (firstBad_spaceOverrun boundA (firstBad_askew askewA (firstBad_spaceOverrun boundD
          (firstBad_askew askewD (firstBad_cons (copyOverlap_eq_none apart) firstBad_nil))))))
    case xexp => exact runs_issueEngine room ready rfl rfl (by simp [zero, imm]) (firstBad_twoRegions boundA askewA boundD askewD)
    case xchurn =>
      exact runs_issueEngine room ready rfl rfl (by simp [zero, imm, Nat.le_of_lt_succ src])
        (firstBad_spaceOverrun boundA (firstBad_askew askewA (firstBad_overrun boundD (firstBad_askew askewD firstBad_nil))))
    case xfill =>
      exact runs_issueEngine room ready rfl rfl (by simp [zero, imm, Nat.le_of_lt_succ dst])
        (firstBad_badLength pos.ne' whole (firstBad_spaceOverrun boundD firstBad_nil))
    case xgath =>
      exact runs_issueEngine room ready rfl rfl (by simp [zero, imm, Nat.le_of_lt_succ dst])
        (firstBad_overrun boundA (firstBad_askew askewA (firstBad_overrun boundB (firstBad_spaceOverrun boundD firstBad_nil))))

end Sys2Proof.Machine
end

section
/-! PROOFS. The compute engines at work: completion and the governor's tokens (O21; 06 R204, R220; 02 R91-R94), and what WCLR, WSTAT, XFILL and
XCOPY do when they begin (O22; 06 R224, R229, R244, R245). -/
namespace Sys2Proof.Machine
open Sys2Proof

/-! ### Completion (R204, R220) -/

section
variable {s : State} {v : Vat} {q : QEntry}

/-- Once the only array instruction has left its queue, no other is there. -/
theorem find_array_filter_age_eq_none {l : List QEntry} (only : ∀ y ∈ l, y.eng = .array → y.age = q.age) :
    (l.filter (fun y => y.age != q.age)).find? (fun y => y.eng == .array) = none := by
  simp only [List.find?_eq_none, List.mem_filter, bne_iff_ne, beq_iff_eq]
  exact fun y ⟨hy, other⟩ array => other (only y hy array)

/-- An engine's instruction completes: the last of the array gives its tokens back, that of any other engine leaves them. -/
theorem runs_engineComplete {e : Engine} (head : (s.vat v).headOf e = some q) (begun : q.begun = true) (running : (s.vat v).gated = false)
    (only : e = .array → ∀ y ∈ (s.vat v).queue, y.eng = .array → y.age = q.age) :
    Runs (.engineComplete v e) s
      (((s.setVat v { s.vat v with
          queue := (s.vat v).queue.filter (fun y => y.age != q.age),
          tokens := if e = .array then 0 else (s.vat v).tokens }).startEngines v).runSync v) := by
  refine runs_of_answer rfl ?_
  rw [head]
  refine (if_neg (by simp [begun, running])).trans ?_
  by_cases array : e = .array
  · simp only [State.onVat, if_pos array, find_array_filter_age_eq_none (only array)]
  · simp only [State.onVat, if_neg array]

/-! ### The governor (02 R91-R94) -/

theorem runs_tokenRequest_granted {c : Nat} (head : s.readyHead v .array = some q) (ctx : s.vatCtx v = some c)
    (short : (s.vat v).tokens < tokenWeight q.tcls)
    (within : s.tokensHeld c (dieOf v) + (tokenWeight q.tcls - (s.vat v).tokens) ≤ s.tokenCeiling c (dieOf v)) :
    let sum := s.tokensHeld c (dieOf v) + (tokenWeight q.tcls - (s.vat v).tokens)
    let key := if dieOf v = 0 then Obj.tokenHighWaterD0 c else Obj.tokenHighWaterD1 c
    Runs (.tokenRequest v) s
      (((s.setObj key (max (s.obj key) sum)).setVat v { s.vat v with tokens := tokenWeight q.tcls }).startEngines v) := by
  refine runs_of_answer rfl ?_
  rw [head, ctx]
  exact (if_neg (Nat.not_le.2 short)).trans (if_pos within)

theorem runs_tokenRequest_refused {c : Nat} (head : s.readyHead v .array = some q) (ctx : s.vatCtx v = some c)
    (short : (s.vat v).tokens < tokenWeight q.tcls)
    (beyond : s.tokenCeiling c (dieOf v) < s.tokensHeld c (dieOf v) + (tokenWeight q.tcls - (s.vat v).tokens)) :
    Runs (.tokenRequest v) s (s.engineFault v q ⟨0x2002, leBytes 1 q.tcls ++ [0] ++ leBytes 2 (s.tokensHeld c (dieOf v)) ++
      leBytes 2 (s.tokenCeiling c (dieOf v))⟩) := by
  refine runs_of_answer rfl ?_
  rw [head, ctx]
  exact (if_neg (Nat.not_le.2 short)).trans (if_neg (Nat.not_le.2 beyond))

end

/-- Settles O21: what completes first leaves its queue; the sum against the ceiling decides a request. -/
theorem engineProgress : Obligations.EngineProgress := by
  intro s v
  refine ⟨fun e q head begun running other => ?others, fun q head begun running only => ?array, fun q c head ctx short =>
    ⟨runs_tokenRequest_granted head ctx short, runs_tokenRequest_refused head ctx short⟩⟩
  case others => simpa only [if_neg other] using runs_engineComplete head begun running (absurd · other)
  case array => exact runs_engineComplete head begun running fun _ => only

/-! ### The status word of a bank (R229) -/

/-- The flags and W lie below the count of inexact roundings. -/
theorem BankStat.low_lt (b : BankStat) : b2n b.ovf * 2 ^ 31 + b2n b.sat * 2 ^ 30 + b.w.toNat < 2 ^ 32 := by
  have ovf := b2n_lt_two b.ovf
  have sat := b2n_lt_two b.sat
  have w := b.w.isLt
  omega

theorem BankStat.word_eq (b : BankStat) :
    b.word = 2 ^ 32 * b.inexact.toNat + (b2n b.ovf * 2 ^ 31 + b2n b.sat * 2 ^ 30 + b.w.toNat) := by
  rw [BankStat.word]
  omega

theorem BankStat.word_lower (b : BankStat) :
    BitVec.ofNat 32 b.word = BitVec.ofNat 32 (b2n b.ovf * 2 ^ 31 + b2n b.sat * 2 ^ 30 + b.w.toNat) := by
  refine BitVec.eq_of_toNat_eq ?_
  rw [BitVec.toNat_ofNat, BitVec.toNat_ofNat, b.word_eq, Nat.mul_add_mod]

theorem BankStat.word_upper (b : BankStat) : BitVec.ofNat 32 (b.word / 2 ^ 32) = b.inexact := by
  rw [b.word_eq, Nat.mul_add_div (by decide), Nat.div_eq_of_lt b.low_lt, Nat.add_zero, BitVec.ofNat_toNat, BitVec.setWidth_eq]

section
variable {s : State} {v : Nat} {o : EngineOp}

/-- WSTAT with its immediate's bit clear reads flags and W, with it set the count of inexact roundings. -/
theorem runWstat_lower (imm : mImm o.w = 0) : runWstat s v o = (s.setVat v ((s.vat v).setS (mSd o.w)
    (BitVec.ofNat 32 (b2n ((s.vat v).bank (mWb o.w)).ovf * 2 ^ 31 + b2n ((s.vat v).bank (mWb o.w)).sat * 2 ^ 30 +
      ((s.vat v).bank (mWb o.w)).w.toNat))), none) := by
  have bit : ¬ bitOf (mImm o.w) 0 = true := by rw [imm]; decide
  simp only [runWstat, State.onVat, if_neg bit, Nat.div_one, BankStat.word_lower]

theorem runWstat_upper (imm : mImm o.w = 1) :
    runWstat s v o = (s.setVat v ((s.vat v).setS (mSd o.w) ((s.vat v).bank (mWb o.w)).inexact), none) := by
  have bit : bitOf (mImm o.w) 0 = true := by rw [imm]; decide
  simp only [runWstat, State.onVat, if_pos bit, BankStat.word_upper]

/-! ### Transfers within the vat's own SRAM (R242-R245) -/

theorem State.spaceAddr_own (s : State) (v a n id : Nat) : s.spaceAddr v 0 a n id = .ok (vatBase v + a) := rfl

theorem State.spaceWrite_own (s : State) (a : Nat) (b : List Byte) : s.spaceWrite 0 a b = s.sramWrite a b := rfl

theorem runXfill_own (dst : xDst o.w = 0) : runXfill s v o =
    (s.sramWrite (vatBase v + o.a0.toNat) (List.replicate (o.s0.toNat / 4) (leBytes 4 o.s1.toNat)).flatten, none) := by
  simp only [runXfill, dst, State.spaceAddr_own, State.spaceWrite_own]

/-- A copy is made unless its regions meet. -/
theorem runXcopy_own (src : xSrc o.w = 0) (dst : xDst o.w = 0) : runXcopy s v o =
    if vatBase v + o.a1.toNat < vatBase v + o.a0.toNat + o.s0.toNat ∧ vatBase v + o.a0.toNat < vatBase v + o.a1.toNat + o.s0.toNat
    then (s, some (descFault o.a1.toNat 10 6 0 []))
    else (s.sramWrite (vatBase v + o.a0.toNat) (s.sramRead (vatBase v + o.a1.toNat) o.s0.toNat), none) := by
  simp only [runXcopy, src, dst, State.spaceAddr_own, State.spaceWrite_own]

end

/-- Settles O22: WCLR is its definition, WSTAT reads a half of the status word, and the transfers are those within own SRAM. -/
theorem engineEffects : Obligations.EngineEffects := by
  intro s v o
  refine ⟨rfl, runWstat_lower, runWstat_upper, runXfill_own, fun src dst apart => ?apart, fun src dst low high => ?meet⟩
  case apart => exact (runXcopy_own src dst).trans (if_neg (by omega))
  case meet => exact (runXcopy_own src dst).trans (if_pos ⟨low, high⟩)

end Sys2Proof.Machine
end

section
/-! PROOFS. A channel's slots and its patrol, completed reads, refresh that no plan holds, and the signals of landings (O41; 07 R252, R262-R264,
R271-R278, R282; 08 R318; 16 R584). -/
namespace Sys2Proof.Machine
open Sys2Proof

/-! ### Channel slots and the patrol (R262-R264, R282) -/

section
variable {s : State} {ch : Fin 64} {k : Nat}

theorem runs_channelSlot_of_selfRefresh (asleep : s.selfRefresh = true) : Runs (.channelSlot ch) s s :=
  runs_of_answer rfl (if_pos asleep)

/-- On a die that no context's streams own, every slot is the patrol's. -/
theorem runs_channelSlot_of_no_streams (awake : s.selfRefresh = false) (free : s.streamCtx (ch / 32) = none) :
    Runs (.channelSlot ch) s (s.scrubOne ch) :=
  runs_of_answer rfl (by rw [if_neg (by simp [awake]), free])

/-- A slot whose tick the owner has not executed stands still with STIME. -/
theorem runs_channelSlot_of_not_due (awake : s.selfRefresh = false) (own : s.streamCtx (ch / 32) = some k)
    (wait : (s.ctx k).ticksRun ≤ s.slotTick (Tab.get (fun _ => 0) s.mem.slots ch)) : Runs (.channelSlot ch) s s :=
  runs_of_answer rfl (by rw [if_neg (by simp [awake]), own]; exact if_pos wait)

/-- A slot that is due is counted; a reserved one is the patrol's, any other the streams'. -/
theorem runs_channelSlot_of_due {n : Nat} {t u : State} (awake : s.selfRefresh = false) (own : s.streamCtx (ch / 32) = some k)
    (slot : Tab.get (fun _ => 0) s.mem.slots ch = n) (due : s.slotTick n < (s.ctx k).ticksRun)
    (counted : { s with mem := { s.mem with slots := Tab.set (fun _ => 0) s.mem.slots ch (n + 1) } } = t)
    (served : (if slotReserved n then t.scrubOne ch else t.streamSlot k ch n) = u) : Runs (.channelSlot ch) s u := by
  subst slot counted
  exact runs_of_answer rfl (by rw [if_neg (by simp [awake]), own]; exact (if_neg (Nat.not_le.2 due)).trans served)

/-- The patrol has no sector to write back and its next one is due: it reads that sector and moves on. -/
theorem State.scrubOne_of_due {c i due : Nat} (on : s.obj Obj.scrubInterval ≠ 0) (clean : s.mem.fixes.find? (fun e => e.1 == c) = none)
    (next : Tab.get (fun _ => (0, 0)) s.mem.patrol c = (i, due)) (time : due ≤ s.times.grid) :
    s.scrubOne c = ({ s with mem := { s.mem with
      patrol := Tab.set (fun _ => (0, 0)) s.mem.patrol c ((i + 1) % 2 ^ 28, due + s.scrubGap) } } : State).scrubSector c (physical c (32 * i)) := by
  rw [State.scrubOne, if_neg on, clean]
  simp only [next]
  exact if_neg (Nat.not_lt.2 time)

/-! ### Completed granules (R271, R272, R281) -/

theorem runs_granuleComplete_of_none {errs : List Byte} (none : s.mem.issued.find? (fun g => g.ch == ch.val) = none) :
    Runs (.granuleComplete ch errs) s s :=
  runs_of_answer rfl (by rw [none])

/-- The oldest granule of the channel is a read of a run that stands, and it decodes: its bytes are written and its run goes on. -/
theorem runs_granuleComplete_of_read {errs d : List Byte} {g : Granule} {r : StreamRun} {t : State}
    (oldest : s.mem.issued.find? (fun g => g.ch == ch.val) = some g) (run : s.mem.streams.find? (fun r => g.of r) = some r)
    (decoded : ({ s with mem := { s.mem with issued := s.mem.issued.erase g } } : State).eccRead 2 g.pa g.data errs = (d, none, t))
    (read : g.read = true) : Runs (.granuleComplete ch errs) s ((t.sramWrite g.va d).finishGranule r) :=
  runs_of_answer rfl (by rw [oldest]; simp only [run, read, decoded, Bool.not_true, Bool.false_eq_true, if_false])

end

/-! ### Refresh on the controller's own schedule (R277) -/

section
variable {s : State} {die : Fin 2} {k : Nat}

/-- While the owner of a die runs, the controller leaves refresh to the plan. -/
theorem runs_autonomousRefresh_of_running (own : s.streamCtx die = some k) (running : (s.ctx k).hold = none) :
    Runs (.autonomousRefresh die) s s :=
  runs_of_answer rfl (by rw [own]; exact if_neg (by simp [running]))

/-- Where every bank will do, the search through the banks in cyclic order ends at the one it begins with. -/
theorem find_cyclic_bank_of_all {p : Nat → Bool} {b : Nat} (all : ∀ x, p x = true) (hb : b < 16) :
    ((List.range 16).map (fun i => (b + i) % 16)).find? p = some b := by
  rw [List.range_succ_eq_map, List.map_cons, Nat.add_zero, Nat.mod_eq_of_lt hb, List.find?_cons_of_pos (all b)]

/-- On a die without a job no running ticks are counted, and the next bank is refreshed. -/
theorem runs_autonomousRefresh_of_no_streams (free : s.streamCtx die = none) (shut : ∀ x, s.bankShut die x = true)
    (hb : Tab.get (fun _ => 0) s.mem.auto die < 16) : Runs (.autonomousRefresh die) s { s with mem := { s.mem with
      refreshed := Tab.set (fun _ => 0) s.mem.refreshed die 0
      auto := Tab.set (fun _ => 0) s.mem.auto die ((Tab.get (fun _ => 0) s.mem.auto die + 1) % 16) } } := by
  refine runs_of_answer rfl ?_
  rw [free]
  dsimp only
  rw [find_cyclic_bank_of_all ?closed hb]
  exact shut

/-! ### The hold of a hot die (R252, R278) -/

theorem runs_hotRefreshHold_of_due (own : s.streamCtx die = some k) (hot : s.hotDie die = true)
    (period : s.obj Obj.hotHoldPeriod ≤ Tab.get (fun _ => 0) s.mem.refreshed die) (free : (s.ctx k).hold = none)
    (running : (s.ctx k).job = .running) : Runs (.hotRefreshHold die) s (s.refreshHold die k) :=
  runs_of_answer rfl (by rw [own]; exact if_pos (by simp [hot, period, free, running]))

end

/-! ### The signal of a landing (08 R318) -/

section
variable {s : State} {c : CtxId}

theorem runs_landingComplete_of_none (idle : (s.ctx c).signals = []) : Runs (.landingComplete c) s s :=
  runs_of_answer rfl (by rw [idle])

/-- The oldest landing that is written adds 1 to the counter it names. -/
theorem runs_landingComplete_of_signal {g : LandSignal} {rest : List LandSignal} (due : (s.ctx c).signals = g :: rest) :
    Runs (.landingComplete c) s ((s.setCtx c { s.ctx c with signals := rest }).syncAdd c g.vid
      ⟨srcPort g.port, g.entry, 6, (s.ctx c).lnid.toNat, none⟩ 1).2 :=
  runs_of_answer rfl (by rw [due]; rfl)

end

/-- Settles O41: slots and the patrol, completed granules, the two kinds of refresh, and landings. -/
theorem dramResults : Obligations.DramResults := by
  intro s ch die c
  refine ⟨runs_channelSlot_of_selfRefresh,
    fun awake => ⟨runs_channelSlot_of_no_streams awake, fun k => runs_channelSlot_of_not_due awake, fun k own due => ?slot⟩,
    fun on clean time => State.scrubOne_of_due on clean rfl time,
    fun g errs r d t => runs_granuleComplete_of_read, fun errs => runs_granuleComplete_of_none,
    fun k => runs_autonomousRefresh_of_running, runs_autonomousRefresh_of_no_streams,
    fun k => runs_hotRefreshHold_of_due, fun g rest => runs_landingComplete_of_signal, runs_landingComplete_of_none⟩
  case slot =>
    have served {u : State} := runs_channelSlot_of_due (u := u) awake own rfl due rfl
    exact ⟨fun reserved => served (if_pos reserved), fun planned => served (if_neg (Bool.eq_false_iff.1 planned))⟩

end Sys2Proof.Machine
end

section
/-! PROOFS. The host's windows into DRAM and SRAM, the clear of SRAM, a package's temperature, and reads and writes of registers (O46; 00 R9; 02 R590;
07 R252, R284-R286; 13 R470-R474). -/
namespace Sys2Proof.Machine
open Sys2Proof

/-- A command of the host acts at once on a module whose door is awake. -/
theorem runs_byHost {c : Instr} {s u : State} {f : State → State} (hd : s.dark = false) (hr : s.hostReady = true)
    (h : exec c s = answer s (s.byHost f)) (e : f s = u) : Runs c s u :=
  runs_of_answer h ((State.byHost_of_ready f hd hr).trans e)

/-! ### The DRAM window (07 R284-R286) -/

section
variable {s t : State} (hd : s.dark = false) (hr : s.hostReady = true)
include hd hr

theorem runs_hostDramRead_of_data {a : BitVec 39} {n : Nat} {errs d : List Byte} (h : s.bar2Read a.toNat n errs = (some d, t)) :
    Runs (.hostDramRead a n errs) s (t.emit (.readData d)) :=
  runs_byHost hd hr rfl (by simp only [h])

theorem runs_hostDramRead_of_poisoned {a : BitVec 39} {n : Nat} {errs : List Byte} (h : s.bar2Read a.toNat n errs = (none, t)) :
    Runs (.hostDramRead a n errs) s (t.emit .poisoned) :=
  runs_byHost hd hr rfl (by simp only [h])

theorem runs_hostDramWrite {a : BitVec 39} {data errs : List Byte} : Runs (.hostDramWrite a data errs) s (s.bar2Write a.toNat data errs) :=
  runs_byHost hd hr rfl rfl

/-! ### The SRAM window (13 R474) -/

theorem runs_hostSramRead {a : BitVec 31} {n : Nat} : Runs (.hostSramRead a n) s
    ((s.rouse (barDomain a.toNat)).emit (.readData ((s.rouse (barDomain a.toNat)).bar4Read a.toNat n))) :=
  runs_byHost hd hr rfl rfl

theorem runs_hostSramWrite {a : BitVec 31} {data : List Byte} : Runs (.hostSramWrite a data) s (s.bar4Write a.toNat data) :=
  runs_byHost hd hr rfl rfl

end

/-- A byte of BAR4 reads as SRAM holds it where it is mapped and SRAM has been cleared, as all ones elsewhere. -/
theorem State.bar4Read_getElem? {s : State} {a n i : Nat} (hi : i < n) : (s.bar4Read a n)[i]? =
    some (if s.host.sram ∧ s.barMaps (a + i) then Tab.get memDefault s.sram (a + i) else 0xFF) := by
  simp [State.bar4Read, hi, State.sramRead, Tab.read]

/-! ### The clear of SRAM (02 R590) and the temperature of a package (07 R252) -/

section
variable {s : State}

theorem runs_sramClearDone (hd : s.dark = false) (closed : s.host.sram = false) : Runs .sramClearDone s s.clearSram :=
  runs_of_answer rfl (if_neg (by simp [closed, hd]))

/-- What a package last reported. -/
def State.polled (s : State) (pkg : Nat) (temp : Int) (band : Byte) : State :=
  { s with mem := { s.mem with temps := Tab.set (fun _ => (400 : Int)) s.mem.temps pkg temp,
                               bands := Tab.set (fun _ => (1 : Byte)) s.mem.bands pkg band } }

variable {pkg : Fin 16} {temp : Int} {band : Byte} (hd : s.dark = false)
include hd

theorem runs_dramTemperaturePoll_within : Runs (.dramTemperaturePoll pkg temp band false) s (s.polled pkg temp band) :=
  runs_of_answer rfl (if_neg (by simp [hd]))

/-- A package beyond its range trips; the limit it crossed is a free value. -/
theorem runs_dramTemperaturePoll_beyond : Runs (.dramTemperaturePoll pkg temp band true) s
    (({ s.polled pkg temp band with fresh := s.fresh + 1 } : State).trip 3 pkg temp ((Config.freeValue s.fresh).setWidth 16).toInt) :=
  runs_of_answer rfl (if_neg (by simp [hd]))

end

/-! ### Registers (00 R9; 13 R473) -/

/-- An aligned write of 4 bytes is the driver's 32-bit write. -/
theorem State.bar0Write_four {s : State} {o : Nat} {client : Byte} {value : W64} (aligned : o % 4 = 0) :
    s.bar0Write client o 4 value = s.write32 client o (value.setWidth 32) := by
  rw [State.bar0Write, if_neg (by simp [aligned]), if_neg (by decide)]

section
variable {s : State} {off : BitVec 24} (hd : s.dark = false) (hr : s.hostReady = true)
include hd hr

/-- A read that is not naturally aligned returns zeros. -/
theorem runs_latchedRead_of_askew (askew : off.toNat % 4 ≠ 0) : Runs (.latchedRead off) s
    ((if off.toNat / 0x10000 = 5 then s.rdSettle.wSettle else s).emit (.readData (zeros 4))) :=
  runs_byHost hd hr rfl (by simp only [State.bar0Read, if_pos askew])

/-- A 64-bit write of a 64-bit register takes it whole. -/
theorem runs_registerWrite_wide {v : Nat} {value : W64} (aligned : off.toNat % 8 = 0) (reg : s.reg off.toNat = some (8, v)) :
    Runs (.registerWrite off true value) s (s.write64 0x10 off.toNat value) :=
  runs_byHost hd hr rfl (by simp [State.bar0Write, aligned, reg, clDriver])

theorem runs_registerWrite_narrow {value : W64} (aligned : off.toNat % 4 = 0) :
    Runs (.registerWrite off false value) s (s.write32 0x10 off.toNat (value.setWidth 32)) :=
  runs_byHost hd hr rfl (State.bar0Write_four aligned)

theorem runs_stagedHalfWrite {value : W32} (aligned : off.toNat % 4 = 0) :
    Runs (.stagedHalfWrite off value) s (s.write32 0x10 off.toNat value) :=
  runs_byHost hd hr rfl ((State.bar0Write_four aligned).trans (by rw [BitVec.setWidth_setWidth_of_le _ (by decide), BitVec.setWidth_eq]; rfl))

end

/-- Settles O46: the two windows, the clear, a package's temperature, and the registers. -/
theorem hostAccessResults : Obligations.HostAccessResults := by
  refine ⟨fun s hd hr => ⟨fun a n errs d t => runs_hostDramRead_of_data hd hr, fun a n errs t => runs_hostDramRead_of_poisoned hd hr,
      fun a data errs => runs_hostDramWrite hd hr, fun a n => runs_hostSramRead hd hr, fun a n i => State.bar4Read_getElem?,
      fun a data => runs_hostSramWrite hd hr, runs_sramClearDone hd,
      fun pkg temp band => ⟨runs_dramTemperaturePoll_within hd, runs_dramTemperaturePoll_beyond hd⟩⟩,
    fun s off hd hr => ⟨runs_latchedRead_of_askew hd hr, fun v value => runs_registerWrite_wide hd hr,
      fun value => runs_registerWrite_narrow hd hr, fun value => runs_stagedHalfWrite hd hr, fun v => rfl⟩⟩

end Sys2Proof.Machine
end

section
/-! PROOFS. Table banks, epoch switches, FENCE, and the SEL of a vat (O31; 08 R306, R307, R326, R328, R333; 05 R194). -/
namespace Sys2Proof.Machine
open Sys2Proof

/-! ### The states of a bank (R306) -/

section
variable {s : State} {c : CtxId} {b : BankId}

/-- The status of a command that is refused for the state of the bank: a bank in use is held. -/
def BankState.refusal : BankState → Nat
  | .active => stHeld
  | .draining => stHeld
  | _ => stWrongState

theorem State.bankRefused_eq (s : State) (c b : Nat) : s.bankRefused c b = s.withStatus ((s.ctx c).bank b).refusal := by
  unfold State.bankRefused
  cases (s.ctx c).bank b <;> rfl

theorem runs_bankOpen_of_empty (h : (s.ctx c).bank b = .empty) :
    Runs (.bankOpen c b) s ((s.clearBank c b).setCtx c (((s.clearBank c b).ctx c).setBank b .loading)).ok :=
  runs_of_answer rfl (by rw [h]; rfl)

/-- Opening a LOADED bank keeps its content. -/
theorem runs_bankOpen_of_loaded (h : (s.ctx c).bank b = .loaded) :
    Runs (.bankOpen c b) s (s.setCtx c ((s.ctx c).setBank b .loading)).ok :=
  runs_of_answer rfl (by rw [h]; rfl)

theorem runs_bankOpen_refused {t : BankState} (h : (s.ctx c).bank b = t) (closed : t ≠ .empty ∧ t ≠ .loaded) :
    Runs (.bankOpen c b) s (s.withStatus t.refusal) := by
  subst h
  refine runs_of_answer rfl (Eq.trans ?_ (s.bankRefused_eq c b))
  split <;> simp_all

theorem runs_bankDiscard_of_loading_or_loaded (h : (s.ctx c).bank b = .loading ∨ (s.ctx c).bank b = .loaded) :
    Runs (.bankDiscard c b) s ((s.clearBank c b).setCtx c (((s.clearBank c b).ctx c).setBank b .empty)).ok :=
  runs_of_answer rfl (by rcases h with h | h <;> rw [h] <;> rfl)

theorem runs_bankDiscard_refused {t : BankState} (h : (s.ctx c).bank b = t) (closed : t ≠ .loading ∧ t ≠ .loaded) :
    Runs (.bankDiscard c b) s (s.withStatus t.refusal) := by
  subst h
  refine runs_of_answer rfl (Eq.trans ?_ (s.bankRefused_eq c b))
  split <;> simp_all

theorem runs_bankCommit_refused {t : BankState} (h : (s.ctx c).bank b = t) (closed : t ≠ .loading) :
    Runs (.bankCommit c b) s (s.withStatus t.refusal) := by
  subst h
  refine runs_of_answer rfl (Eq.trans ?_ (s.bankRefused_eq c b))
  split <;> simp_all

/-! ### COMMIT (R307, R328) -/

/-- A bank that passes every check becomes LOADED with its measurement. Without a job no port is claimed. -/
theorem runs_bankCommit_accepted {x : CtxState} (loading : (s.ctx c).bank b = .loading) (good : s.bankBad c b = none)
    (idle : (s.ctx c).busy = false)
    (hx : (if b.val = 0 then { (s.ctx c).setBank b .loaded with measure0 := s.measure c b }
      else { (s.ctx c).setBank b .loaded with measure1 := s.measure c b }) = x) :
    Runs (.bankCommit c b) s ((s.setObj (Obj.commitError c) 0).setCtx c x).ok := by
  subst hx
  refine runs_of_answer rfl ?_
  rw [loading]
  simp only [good, idle, Bool.false_eq_true, if_false]
  rfl

/-- The first failure is named in the error object: table, reason, bank and index. -/
theorem runs_bankCommit_failed {t r i : Nat} (loading : (s.ctx c).bank b = .loading) (bad : s.bankBad c b = some (t, r, i)) :
    Runs (.bankCommit c b) s
      ((s.setObj (Obj.commitError c) (t * 2 ^ 56 + r * 2 ^ 48 + b.val * 2 ^ 32 + i)).withStatus (if r = 8 then stHeld else stRefused)) :=
  runs_of_answer rfl (by rw [loading]; simp only [bad])

end

/-! ### Epoch switches (R326) -/

section
variable {s : State} {c : CtxId}

theorem runs_switchArmTimed_of_not_loaded (other : (s.ctx c).bank (1 - s.activeBank c) ≠ .loaded) :
    Runs (.switchArmTimed c) s (s.withStatus stHeld) :=
  runs_of_answer rfl (if_pos other)

theorem runs_switchArmTimed_of_idle (other : (s.ctx c).bank (1 - s.activeBank c) = .loaded) (idle : (s.ctx c).busy = false) :
    Runs (.switchArmTimed c) s (s.withStatus stWrongState) :=
  runs_of_answer rfl (by simp [other, idle])

/-- With a job and a LOADED bank to switch to, the segment and then the time decide. -/
theorem runs_switchArmTimed_of_busy {u : State} (busy : (s.ctx c).busy = true) (other : (s.ctx c).bank (1 - s.activeBank c) = .loaded)
    (h : (if 4096 ≤ s.obj (Obj.segBase c) + s.obj (Obj.switchSeg c) then s.withStatus stRefused
      else if s.switchBy c (s.obj (Obj.switchAt c)) < (s.ctx c).stime then
        (s.fault c ⟨0x1001, srcSched c, 0, runDetail 0x12 0 0 (s.activeBank c) 0 (s.obj (Obj.switchAt c)) 0 0 0, false⟩).ok
      else (s.setCtx c { s.ctx c with switch := some (s.obj (Obj.switchAt c), s.obj (Obj.switchSeg c)) }).ok) = u) :
    Runs (.switchArmTimed c) s u :=
  runs_of_answer rfl ((if_neg (by simp [other])).trans ((if_neg (by simp [busy])).trans h))

/-- An armed switch is taken back up to the last tick at which it could be armed. -/
theorem runs_switchArmCancel_in_time {x : Nat × Nat} (armed : (s.ctx c).switch = some x) (time : (s.ctx c).stime ≤ s.switchBy c x.1) :
    Runs (.switchArmCancel c) s (s.setCtx c { s.ctx c with switch := none }).ok :=
  runs_of_answer rfl (by rw [armed]; exact if_neg (by simp [time]))

theorem runs_switchArmCancel_late (busy : (s.ctx c).busy = true) (none : (s.ctx c).switch = none)
    (late : s.switchBy c (s.obj (Obj.switchAt c)) < (s.ctx c).stime) : Runs (.switchArmCancel c) s (s.withStatus stWrongState) :=
  runs_of_answer rfl (by rw [none]; exact if_pos (by simp [busy, late]))

/-! ### Fencing and selectors (R333; 05 R194) -/

theorem runs_fenceWrite_beyond {off : Nat} {data : List Byte} (beyond : 512 < off + data.length) :
    Runs (.fenceWrite c off data) s (s.withStatus stRefused) :=
  runs_of_answer rfl (if_pos beyond)

/-- An LNID fenced before and after the write keeps its count; any other begins again. -/
theorem runs_fenceWrite_within {off : Nat} {data : List Byte} {t : State} (within : off + data.length ≤ 512)
    (ht : s.setDom (Obj.fence c) off data = t) : Runs (.fenceWrite c off data) s
      (t.setCtx c { t.ctx c with fenceSeen := (t.ctx c).fenceSeen.filter (fun e => s.fenced c e.1 && t.fenced c e.1) }).ok := by
  subst ht
  exact runs_of_answer rfl (if_neg (Nat.not_lt.2 within))

theorem runs_sel {v : Vat} {w : Word56} (ctx : s.vatCtx v = some c.val) (ready : Ready s v w ⟨[fSa w], [], []⟩) (dst : fDst w = 0)
    (sb : fSb w = 0) (fn : fFn w = 0) (imm : fImm w < 4) : Runs (.sel v w) s ((s.setVat v (s.vat v).retire).emitSelector c
      (((s.vat v).step + BitVec.ofNat 64 (fImm w)).setWidth 32) (((s.vat v).s (fSa w)).toNat % 16)) :=
  runs_issue rfl ready (by simp [dst, sb, fn, imm]) (by rw [ctx]; rfl)

end

/-- Settles O31: what each state of a bank allows, COMMIT, the switch, FENCE and SEL. -/
theorem tableResults : Obligations.TableResults := by
  intro s c b
  refine ⟨runs_bankOpen_of_empty, fun h => ⟨runs_bankOpen_of_loaded h, runs_bankDiscard_of_loading_or_loaded (.inr h)⟩, ?inUse,
    fun h => ⟨runs_bankOpen_refused h (by decide), runs_bankDiscard_of_loading_or_loaded (.inl h)⟩,
    fun h => runs_bankDiscard_refused h (by decide), ?closed,
    fun loading good idle => ⟨?bank0, ?bank1⟩, fun t r i => runs_bankCommit_failed, runs_switchArmTimed_of_not_loaded,
    runs_switchArmTimed_of_idle, ?armed, ?notArmed, fun x => runs_switchArmCancel_in_time, runs_switchArmCancel_late,
    fun off data => runs_fenceWrite_beyond, fun off data within => runs_fenceWrite_within within rfl, fun v w => runs_sel⟩
  case inUse =>
    rintro (h | h) <;>
      exact ⟨runs_bankOpen_refused h (by decide), runs_bankDiscard_refused h (by decide), runs_bankCommit_refused h (by decide)⟩
  case closed => rintro (h | h) <;> exact runs_bankCommit_refused h (by decide)
  case bank0 => exact fun h => runs_bankCommit_accepted loading good idle (if_pos (by simp [h]))
  case bank1 => exact fun h => runs_bankCommit_accepted loading good idle (if_neg (by simp [h]))
  case armed =>
    exact fun busy other seg time => runs_switchArmTimed_of_busy busy other ((if_neg (Nat.not_le.2 seg)).trans (if_neg (Int.not_lt.2 time)))
  case notArmed =>
    exact fun busy other => ⟨fun beyond => runs_switchArmTimed_of_busy busy other (if_pos beyond),
      fun seg late => runs_switchArmTimed_of_busy busy other ((if_neg (Nat.not_le.2 seg)).trans (if_pos late))⟩

end Sys2Proof.Machine
end

section
/-! PROOFS. Resets of contexts and of the fabric, the lock-step pair, and perturbation slots (O40; 08 R337, R338; 11 R427-R438). -/
namespace Sys2Proof.Machine
open Sys2Proof

/-! ### Resets (R337, R338) -/

section
variable {s : State}

theorem runs_ctxResetReset (c : CtxId) : Runs (.ctxResetReset c) s (s.resetCtx c 1).ok := rfl

theorem runs_ctxResetPreempt (c : CtxId) : Runs (.ctxResetPreempt c) s (s.resetCtx c 2).ok := rfl

theorem runs_fabricResetRequest_of_relays (relays : s.relays = true) : Runs .fabricResetRequest s (s.withStatus stResetting) :=
  runs_of_answer rfl (if_pos relays)

theorem runs_fabricResetRequest_of_no_relays (quiet : s.relays = false) : Runs .fabricResetRequest s s.resetFabric.ok :=
  runs_of_answer rfl (if_neg (by simp [quiet]))

theorem runs_fabricResetForce : Runs .fabricResetForce s s.resetFabric.ok := rfl

/-! ### Lock-step (R427-R431) -/

theorem runs_lockstepEnable_of_busy (on : Bool) (busy : s.anyBusy = true) : Runs (.lockstepEnable on) s (s.withStatus stWrongState) :=
  runs_of_answer rfl (if_pos busy)

/-- With X1 free, the write that enables lock-step gives it to the comparator, which begins empty. -/
theorem runs_lockstepEnable_claims {t : State} (idle : s.anyBusy = false) (off : s.obj Obj.lockstepEnable = 0)
    (free : s.obj (Obj.xOwner 1) = clNone) (unscheduled : s.obj (Obj.schedOwner 33) = clNone)
    (written : s.commitScalar Obj.lockstepEnable 0x10 1 = t) (done : t.succeeded = true) :
    Runs (.lockstepEnable true) s ((t.dropQueued 33).setObj (Obj.xOwner 1) clLock).clearLock := by
  subst written
  refine runs_of_answer rfl ((if_neg (by simp [idle])).trans ((if_neg (by simp [free, unscheduled])).trans ?_))
  refine (if_neg ?_).trans rfl
  rw [off]
  exact not_or.2 ⟨Bool.eq_false_iff.1 (congrArg not done), by decide⟩

/-- The oldest phase of its own that the peer has not matched diverges with cause 4. -/
theorem runs_lockstepTimeout {o : Signature} {rest : List Signature} (oldest : s.lock.own = o :: rest) (owns : s.lockOwns = true) :
    Runs .lockstepTimeout s (s.diverge 4 o.step o.ps 0) :=
  runs_of_answer rfl (by rw [oldest]; exact if_pos owns)

end

/-! ### Perturbation slots (R434-R438) -/

section
variable {s : State} {client : Byte} {n : Fin 16}

theorem runs_perturb_of_no_scope (scope : s.inScope client 0 = false) :
    Runs (.perturbArm client n) s (s.withStatus stToken) ∧ Runs (.perturbDisarm client n) s (s.withStatus stToken) ∧
      ∀ on, Runs (.perturbEnable client on) s (s.withStatus stToken) := by
  have out : (!s.inScope client 0) = true := by rw [scope]; rfl
  exact ⟨runs_of_answer rfl (if_pos out), runs_of_answer rfl (if_pos out), fun on => runs_of_answer rfl (if_pos out)⟩

theorem runs_perturbInject_of_not_armed (idle : (s.slot n).armed = false) : Runs (.perturbInject n) s s :=
  runs_of_answer rfl (if_pos (by simp [idle]))

/-- The last injection of a slot on FTIME disarms it, has its effect, is counted and is logged with the time. -/
theorem runs_perturbInject_last (armed : (s.slot n).armed = true) (on : s.obj Obj.perturbEnable = 1)
    (due : s.triggered (s.slotWord n) (s.slot n).due = true) (last : (s.slot n).left ≤ 1) (ftime : (s.slotWord n).ftime = true) :
    Runs (.perturbInject n) s ((((s.setSlot n Perturb.reset).injectKind (s.slotWord n)).bump64 Obj.perturbInjections 1).log (srcPerturb n) 0x0070
      (leBytes 1 (s.slotWord n).kind ++ [0] ++ leBytes 2 (s.slotWord n).target ++ leBytes 6 s.times.ftime.toNat)) :=
  runs_of_answer rfl ((if_neg (by simp [armed, on, due])).trans (by rw [if_pos last, if_pos ftime]))

variable (scope : s.inScope client 0 = true)
include scope

theorem runs_perturbArm_of_held (armed : (s.slot n).armed = true) (other : (s.slot n).owner ≠ client) :
    Runs (.perturbArm client n) s (s.withStatus stHeld) :=
  runs_of_answer rfl ((if_neg (by simp [scope])).trans (if_pos (by simp [armed, other])))

theorem runs_perturbArm_of_bad (bad : (s.slotWord n).bad = true) (free : (s.slot n).armed = false) :
    Runs (.perturbArm client n) s (s.withStatus stRefused) :=
  runs_of_answer rfl ((if_neg (by simp [scope])).trans ((if_neg (by simp [free])).trans (if_pos bad)))

/-- Arming takes the count and the first time from the slot's word, and the module remembers that a slot was armed. -/
theorem runs_perturbArm_of_free (free : (s.slot n).armed = false) (good : (s.slotWord n).bad = false) : Runs (.perturbArm client n) s
    ({ s.setSlot n ⟨client, true, (s.slotWord n).count, (s.slotWord n).first⟩ with boot := { s.boot with everPerturb := true } }).ok :=
  runs_of_answer rfl ((if_neg (by simp [scope])).trans ((if_neg (by simp [free])).trans (if_neg (by simp [good]))))

theorem runs_perturbDisarm : Runs (.perturbDisarm client n) s (s.setSlot n Perturb.reset).ok :=
  runs_of_answer rfl (if_neg (by simp [scope]))

theorem runs_perturbEnable_on : Runs (.perturbEnable client true) s (s.setObj Obj.perturbEnable 1).ok :=
  runs_of_answer rfl (if_neg (by simp [scope]))

/-- Switched off, injection disarms every slot. -/
theorem runs_perturbEnable_off : Runs (.perturbEnable client false) s ({ s.setObj Obj.perturbEnable 0 with perturb := [] }).ok :=
  runs_of_answer rfl (if_neg (by simp [scope]))

end

/-- Settles O40: resets, the lock-step pair, and the slots with and without the scope to use them. -/
theorem resetAndPerturbResults : Obligations.ResetAndPerturbResults :=
  fun _ c _ _ => ⟨runs_ctxResetReset c, runs_ctxResetPreempt c, runs_fabricResetRequest_of_relays, runs_fabricResetRequest_of_no_relays,
    runs_fabricResetForce, runs_lockstepEnable_of_busy, fun _ => runs_lockstepEnable_claims, fun _ _ => runs_lockstepTimeout,
    runs_perturb_of_no_scope,
    fun scope => ⟨runs_perturbArm_of_free scope, runs_perturbArm_of_bad scope, runs_perturbArm_of_held scope, runs_perturbDisarm scope,
      runs_perturbEnable_on scope, runs_perturbEnable_off scope⟩,
    runs_perturbInject_of_not_armed, runs_perturbInject_last⟩

end Sys2Proof.Machine
end

section
/-! PROOFS. The block as a whole: every step answers a next state and takes one command (O56). -/
namespace Sys2Proof.Machine
open Sys2Proof

/-- Every arm of the dispatch is an `answer` to the state it is given: no command stops the machine. -/
theorem exec_eq_answer (c : Instr) (s : State) : ∃ t, exec c s = answer s t := by
  cases c <;> exact ⟨_, rfl⟩

theorem step_of_empty {s : State} (empty : s.pending = []) : step s = .next s := by
  rw [step, empty]

theorem step_of_cons {s : State} {c : Instr} {rest : List Instr} (front : s.pending = c :: rest) :
    step s = exec c { s with pending := rest } := by
  rw [step, front]

/-- A step answers a next state, in which all waiting commands but the first still wait. -/
theorem step_takes_one (s : State) : ∃ t, step s = .next t ∧ t.pending = s.pending.tail := by
  cases front : s.pending with
  | nil => exact ⟨s, step_of_empty front, front⟩
  | cons c rest =>
    obtain ⟨t, ht⟩ := exec_eq_answer c { s with pending := rest }
    exact ⟨{ t with pending := rest }, (step_of_cons front).trans ht, rfl⟩

/-- Settles O56: the commands that wait after a step waited before it. -/
theorem everyStepTakesOne : Obligations.EveryStepTakesOne := by
  intro s
  obtain ⟨t, hstep, hqueue⟩ := step_takes_one s
  refine ⟨t, hstep, hqueue, fun wf c hc => wf c ?_⟩
  rw [hqueue] at hc
  exact List.mem_of_mem_tail hc

end Sys2Proof.Machine
end

section
/-! PROOFS. Training, retraining, link control and the link's timers (09 R344-R349, R354-R379; 04 R153): O32, O33, O34. -/
namespace Sys2Proof.Machine
open Sys2Proof

/-! ### Training (R344-R346, R376) -/

section
variable {s : State} {p : PortId}

/-- In DETECT a sequence leads to LOCK if both ends stored coefficients, and else to EQUALIZE. -/
theorem runs_trainingSequence_of_detect {b : Bool} (detect : (s.port p).link = .detect) : Runs (.trainingSequence p b) s
    ((s.setPort p { s.port p with resumed := b && (s.port p).coeffs }).setLink p (if b && (s.port p).coeffs then .lock else .equalize)) :=
  runs_of_answer rfl (if_pos detect)

theorem runs_trainingSequence_of_asleep {b : Bool} (active : (s.port p).link = .active) (asleep : (s.port p).peerSleep = true) :
    Runs (.trainingSequence p b) s (s.setPort p { s.port p with peerWake := s.times.grid + s.obj Obj.laneWake + 16 }) :=
  runs_of_answer rfl ((if_neg (by simp [active])).trans (if_pos ⟨active, asleep⟩))

theorem runs_trainingSequence_of_other {b : Bool} (detect : (s.port p).link ≠ .detect)
    (awake : (s.port p).link ≠ .active ∨ (s.port p).peerSleep = false) : Runs (.trainingSequence p b) s s :=
  runs_of_answer rfl ((if_neg detect).trans (if_neg (by simpa [imp_iff_not_or] using awake)))

theorem runs_equalizeDone_of_equalize (equalize : (s.port p).link = .equalize) :
    Runs (.equalizeDone p) s ((s.setPort p { s.port p with coeffs := true }).setLink p .lock) :=
  runs_of_answer rfl (if_pos equalize)

theorem runs_equalizeDone_of_other (other : (s.port p).link ≠ .equalize) : Runs (.equalizeDone p) s s :=
  runs_of_answer rfl (if_neg other)

/-- Lanes a port offers when a number of them locked: the width they make, within the port's cap (R345). -/
def State.offered (s : State) (p lanes : Nat) : Nat :=
  min (laneWidth lanes) (laneWidth (if isUplink p then 1 else s.obj (Obj.linkWidthCap p)))

/-- In LOCK the port offers what locked, unless that is nothing. -/
theorem State.lockDone_of_lock {p n : Nat} (lock : (s.port p).link = .lock) : s.lockDone p n =
    if s.offered p n = 0 then s.linkDown p 8 0
    else let t := (s.setPort p { s.port p with lanes := s.offered p n }).setLink p .param
      t.emitTc3 p 5 (t.paramPay p (b2n (s.port p).resumed)) := by
  simp only [State.lockDone, State.onPort, State.offered, lock]

theorem State.lockDone_of_active {p n : Nat} (active : (s.port p).link = .active) :
    s.lockDone p n = s.setPort p { s.port p with peerWake := 0 } := by
  simp only [State.lockDone, State.onPort, active]

/-- A retrain keeps its width; the end that measures begins the delay exchanges, once. -/
theorem State.lockDone_of_retrain {p n : Nat} (retrain : (s.port p).link = .retrain) : s.lockDone p n =
    if (s.port p).lanes ≤ n ∧ s.measures p = true ∧ (s.port p).exchanges = 0 then s.emitTc3 p 3 [] else s := by
  simp only [State.lockDone, State.askDelay, retrain]

theorem State.lockDone_of_other {p n : Nat} (lock : (s.port p).link ≠ .lock) (active : (s.port p).link ≠ .active)
    (retrain : (s.port p).link ≠ .retrain) : s.lockDone p n = s := by
  rw [State.lockDone]
  split
  next h => exact absurd h lock
  next h => exact absurd h active
  next h => exact absurd h retrain
  next => rfl

theorem runs_lockDone {n : Byte} {t : State} (h : s.lockDone p n.toNat = t) : Runs (.lockDone p n) s t :=
  runs_of_answer rfl h

theorem runs_trainingRetry_of_failed (failed : s.obj (Obj.downReason p) = 8) (down : (s.port p).link = .down) (may : s.mayTrain p = true) :
    Runs (.trainingRetry p) s (s.startTraining p) :=
  runs_of_answer rfl ((if_pos ⟨failed, down⟩).trans (if_pos ⟨may, .inl down⟩))

theorem runs_trainingRetry_of_other (other : s.obj (Obj.downReason p) ≠ 8 ∨ (s.port p).link ≠ .down ∨ s.mayTrain p = false) :
    Runs (.trainingRetry p) s s := by
  refine runs_of_answer rfl ?_
  split_ifs with failed
  · obtain ⟨reason, down⟩ := failed
    have barred : s.mayTrain p = false := by simpa [reason, down] using other
    exact if_neg (by simp [barred])
  · rfl

theorem laneWidth_eq (n : Nat) : laneWidth n = if 4 ≤ n then 4 else if 2 ≤ n then 2 else if n = 1 then 1 else 0 := by
  unfold laneWidth
  split_ifs <;> omega

end

/-- Settles O32: each row in the states of the port in which it acts, and in the others. -/
theorem trainingResults : Obligations.TrainingResults := by
  intro s p x
  refine ⟨fun detect stored => ?resume, fun b detect fresh => ?equalize, fun _ => runs_trainingSequence_of_asleep, runs_equalizeDone_of_equalize,
    fun n lock none => runs_lockDone ((State.lockDone_of_lock lock).trans (if_pos none)),
    fun n lock => ?some,
    runs_trainingRetry_of_failed, fun _ => runs_trainingSequence_of_other, runs_equalizeDone_of_other,
    fun n => ⟨fun active => runs_lockDone (State.lockDone_of_active active), ?measure, ?keep,
      fun lock active retrain => runs_lockDone (State.lockDone_of_other lock active retrain)⟩,
    runs_trainingRetry_of_other, laneWidth_eq⟩
  case resume =>
    have run := runs_trainingSequence_of_detect (b := true) detect
    rwa [show (s.port p).coeffs = true from stored] at run
  case equalize =>
    have run := runs_trainingSequence_of_detect (b := b) detect
    rwa [show (b && (s.port p).coeffs) = false from fresh] at run
  case some =>
    exact fun some => runs_lockDone ((State.lockDone_of_lock lock).trans (if_neg some))
  case measure =>
    exact fun retrain lanes measures first => runs_lockDone ((State.lockDone_of_retrain retrain).trans (if_pos ⟨lanes, measures, first⟩))
  case keep =>
    intro retrain other
    refine runs_lockDone ((State.lockDone_of_retrain retrain).trans (if_neg ?_))
    rintro ⟨lanes, measures, first⟩
    obtain few | passive | again := other
    · exact absurd lanes (Nat.not_le_of_lt few)
    · exact absurd measures (by simp [passive])
    · exact again first

/-! ### Retraining, loss of signal and link control (R347-R349, R362, R376, R379) -/

section
variable {s : State} {p : PortId}

theorem runs_retrainStart_due {r : Retrain} (agreed : (s.port p).retrain = some r) (active : (s.port p).link = .active)
    (due : s.retrainDue r = true) : Runs (.retrainStart p) s
    ((s.setPort p { s.port p with exchanges := 0, rttSum := 0, wantRetrain := false }).setLink p .retrain) :=
  runs_of_answer rfl (by rw [agreed]; exact if_pos ⟨active, due⟩)

theorem runs_retrainStart_not_due {r : Retrain} (agreed : (s.port p).retrain = some r)
    (early : (s.port p).link ≠ .active ∨ s.retrainDue r = false) : Runs (.retrainStart p) s s :=
  runs_of_answer rfl (by rw [agreed]; exact if_neg (by simpa [imp_iff_not_or] using early))

theorem runs_retrainStart_of_none (none : (s.port p).retrain = none) : Runs (.retrainStart p) s s :=
  runs_of_answer rfl (by rw [none])

theorem runs_retrainTimeout_of_retrain (retrain : (s.port p).link = .retrain) : Runs (.retrainTimeout p) s (s.linkDown p 4 0) :=
  runs_of_answer rfl (if_pos retrain)

theorem runs_retrainTimeout_of_other (other : (s.port p).link ≠ .retrain) : Runs (.retrainTimeout p) s s :=
  runs_of_answer rfl (if_neg other)

/-- A port that is DOWN goes down no further. -/
theorem State.linkDown_of_down {p reason carried : Nat} (down : (s.port p).link = .down) : s.linkDown p reason carried = s :=
  if_pos down

theorem runs_lossOfSignal_of_carrying (up : ((s.port p).link = .active ∧ (s.port p).peerSleep = false) ∨ (s.port p).link = .retrain) :
    Runs (.lossOfSignal p) s (s.linkDown p 3 0) := by
  refine runs_of_answer rfl ?_
  obtain ⟨active, awake⟩ | retrain := up
  · simp only [active, awake, Bool.false_eq_true, if_false]
  · simp only [retrain]

theorem runs_lossOfSignal_of_asleep (active : (s.port p).link = .active) (asleep : (s.port p).peerSleep = true) :
    Runs (.lossOfSignal p) s s :=
  runs_of_answer rfl (by simp only [active, asleep, if_true])

theorem runs_lossOfSignal_of_training (training : (s.port p).link = .lock ∨ (s.port p).link = .equalize ∨ (s.port p).link = .detect ∨
    (s.port p).link = .param ∨ (s.port p).link = .delay) : Runs (.lossOfSignal p) s (s.linkDown p 8 0) := by
  refine runs_of_answer rfl ?_
  obtain h | h | h | h | h := training <;> simp only [h]

theorem runs_lossOfSignal_of_quiet (quiet : (s.port p).link = .listen ∨ (s.port p).link = .down) : Runs (.lossOfSignal p) s s := by
  refine runs_of_answer rfl ?_
  obtain listen | down := quiet
  · simp only [listen]
  · simp only [down, State.linkDown_of_down]

theorem runs_linkCtrlWakePeer_of_uplink (uplink : isUplink p = true) : Runs (.linkCtrlWakePeer p) s (s.withStatus stRefused) :=
  runs_of_answer rfl (if_pos uplink)

theorem runs_linkCtrlWakePeer_of_down (board : isUplink p = false) (down : (s.port p).link = .down) :
    Runs (.linkCtrlWakePeer p) s (s.setPort p { s.port p with wakeSend := true }).ok :=
  runs_of_answer rfl ((if_neg (Bool.eq_false_iff.1 board)).trans (if_pos down))

theorem runs_linkCtrlWakePeer_of_up (board : isUplink p = false) (up : (s.port p).link ≠ .down) : Runs (.linkCtrlWakePeer p) s s.ok :=
  runs_of_answer rfl ((if_neg (Bool.eq_false_iff.1 board)).trans (if_neg up))

theorem runs_wakeBurst_of_waking (waking : (s.port p).wakeSend = true) : Runs (.wakeBurst p) s { s with out := .wakeBurst p :: s.out } :=
  runs_of_answer rfl (if_pos waking)

theorem runs_wake_of_not_waking (quiet : (s.port p).wakeSend = false) : Runs (.wakeBurst p) s s ∧ Runs (.wakeTimeout p) s s :=
  ⟨runs_of_answer rfl (if_neg (by simp [quiet])), runs_of_answer rfl (if_pos (by simp [quiet]))⟩

/-- At its timeout the pattern stops, is logged, and what waited for the peer fails. -/
theorem runs_wakeTimeout_of_waking (waking : (s.port p).wakeSend = true) : Runs (.wakeTimeout p) s
    (let x := s.port p
     let t := ((s.setPort p { x with wakeSend := false, skim1 := [], skim2 := [] }).log (srcPort p) 0x0052 (leBytes 1 p)).dropSkim (x.skim1 ++ x.skim2)
     t.failRequests (t.skim.reqs.filter (fun r => r.port == p.val))) :=
  runs_of_answer rfl (if_neg (by simp [waking]))

end

/-- Settles O33: retraining, the lost signal by the state of the port, LINK_CTRL and the wake pattern. -/
theorem linkControlResults : Obligations.LinkControlResults :=
  fun _ _ => ⟨fun _ => runs_retrainStart_due, fun _ => runs_retrainStart_not_due, runs_retrainStart_of_none, runs_retrainTimeout_of_retrain,
    runs_retrainTimeout_of_other, runs_lossOfSignal_of_carrying, runs_lossOfSignal_of_asleep, runs_lossOfSignal_of_training,
    runs_lossOfSignal_of_quiet, rfl, rfl, runs_linkCtrlWakePeer_of_uplink, runs_linkCtrlWakePeer_of_down, runs_linkCtrlWakePeer_of_up,
    runs_wakeBurst_of_waking, runs_wake_of_not_waking, runs_wakeTimeout_of_waking⟩

/-! ### Timers of a port (R354, R355, R365, R367; 04 R153) -/

section
variable {s : State} {p : PortId}

/-- Whether a port carries units, as the link's timers and the receiver ask it. -/
theorem State.carries_iff {p : Nat} : s.carries p = true ↔ (s.port p).link = .active ∨ (s.port p).link = .retrain := by
  simp [State.carries]

theorem runs_unitCrcFail_first (up : (s.port p).link = .active ∨ (s.port p).link = .retrain) (first : (s.port p).discarding = false) :
    Runs (.unitCrcFail p) s ((s.bump64 (Obj.crcErrors p) 1).sendNak p) :=
  runs_of_answer rfl (if_pos (by rw [first, Bool.not_false, Bool.and_true]; exact State.carries_iff.2 up))

theorem runs_unitCrcFail_again
    (again : (s.port p).discarding = true ∨ ¬ ((s.port p).link = .active ∨ (s.port p).link = .retrain)) :
    Runs (.unitCrcFail p) s (s.bump64 (Obj.crcErrors p) 1) :=
  runs_of_answer rfl (if_neg (by simpa [or_comm, imp_iff_not_or] using again))

theorem runs_nakTimer_of_discarding (up : (s.port p).link = .active ∨ (s.port p).link = .retrain) (discarding : (s.port p).discarding = true) :
    Runs (.nakTimer p) s (s.sendNak p) :=
  runs_of_answer rfl (if_pos (by rw [discarding, Bool.and_true]; exact State.carries_iff.2 up))

theorem runs_nakTimer_idle (idle : (s.port p).discarding = false ∨ ¬ ((s.port p).link = .active ∨ (s.port p).link = .retrain)) :
    Runs (.nakTimer p) s s :=
  runs_of_answer rfl (if_neg (by simpa [or_comm, imp_iff_not_or] using idle))

theorem runs_ackDue (owed : (s.port p).unacked ≠ 0) : Runs (.ackDue p) s (s.setPort p { s.port p with ackOwed := true }) :=
  runs_of_answer rfl (if_pos owed)

theorem runs_ackDue_idle (idle : (s.port p).unacked = 0) : Runs (.ackDue p) s s :=
  runs_of_answer rfl (if_neg (not_not.2 idle))

theorem runs_creditTimeout_of_starved (active : (s.port p).link = .active)
    (starving : starved (s.port p).credit1 (s.port p).skim1 = true ∨ starved (s.port p).credit2 (s.port p).skim2 = true) :
    Runs (.creditTimeout p) s (s.linkDown p 2 0) :=
  runs_of_answer rfl (if_pos ⟨active, starving⟩)

theorem runs_creditTimeout_of_fed (fed1 : starved (s.port p).credit1 (s.port p).skim1 = false)
    (fed2 : starved (s.port p).credit2 (s.port p).skim2 = false) : Runs (.creditTimeout p) s s :=
  runs_of_answer rfl (if_neg (by simp [fed1, fed2]))

theorem runs_creditTimeout_of_not_active (other : (s.port p).link ≠ .active) : Runs (.creditTimeout p) s s :=
  runs_of_answer rfl (if_neg (fun ⟨active, _⟩ => other active))

/-! ### Timers of the skim layer, and TIME units (R371-R373, R375) -/

/-- An ACTIVE board or X port sends one TIME unit an interval, unless FTIME comes through it. -/
theorem State.sendTimes_of_board {p : Nat} (active : (s.port p).link = .active) (board : isUplink p = false)
    (other : s.parentPort ≠ some p) : s.sendTimes p = s.stirPort p (fun y => { y with tc3 := y.tc3 ++ [(2, [])] }) :=
  (if_neg (not_not.2 active)).trans ((if_neg (Bool.eq_false_iff.1 board)).trans (if_neg other))

theorem State.sendTimes_of_not_active {p : Nat} (other : (s.port p).link ≠ .active) : s.sendTimes p = s := if_pos other

end

/-- Settles O34: the timers of one port, and those that go over all ports or over the skim layer's tables. -/
theorem linkTimers : Obligations.LinkTimers :=
  ⟨fun _ _ => ⟨runs_unitCrcFail_first, runs_unitCrcFail_again, runs_nakTimer_of_discarding, runs_nakTimer_idle, runs_ackDue, runs_ackDue_idle,
      rfl, runs_creditTimeout_of_starved, runs_creditTimeout_of_fed, runs_creditTimeout_of_not_active, rfl⟩,
    fun _ => ⟨rfl, fun _ _ => rfl, ⟨rfl, rfl, rfl⟩, rfl, fun _ => rfl, rfl, fun _ => State.sendTimes_of_board,
      fun _ => State.sendTimes_of_not_active⟩⟩

end Sys2Proof.Machine
end

section
/-! PROOFS. Units that arrive, messages that come alone in one, and the units of TC3 (09 R345-R375): O35, O36. -/
namespace Sys2Proof.Machine
open Sys2Proof

/-! ### A unit without piggyback and hold field arrives on an ACTIVE port (R355) -/

/-- A port that has heard its peer: the peer is awake, and FTIME is that of the last unit accepted. -/
def State.heard (s : State) (p : Nat) : State :=
  s.setPort p { s.port p with peerSleep := false, peerWake := 0, lastFtime := s.times.ftime }

section
variable {s : State} {p : Nat} {u : RxUnit}

theorem State.port_heard (up : (s.port p).link ≠ .down) :
    (s.heard p).port p = { s.port p with peerSleep := false, peerWake := 0, lastFtime := s.times.ftime } :=
  State.port_setPort_of_ne _ _ _ (PortState.ne_reset_of_link p up)

theorem State.heard_link (active : (s.port p).link = .active) : ((s.heard p).port p).link = .active := by
  rw [State.port_heard (by simp [active])]
  exact active

theorem State.carries_of_active (active : (s.port p).link = .active) : s.carries p = true :=
  State.carries_iff.2 (.inl active)

/-- With neither piggyback nor hold field a unit is only delivered and counted. -/
theorem State.arriveUnit_of_plain (active : (s.port p).link = .active) (good : u.badFormat = false) (piggyback : u.hdr.toNat / 2 ^ 12 % 8 = 0)
    (hold : u.hdr.getLsbD 63 = false) : s.arriveUnit p u = ((s.heard p).deliverUnit p u).countUnit p (decide (u.tc ≤ 2)) := by
  have hear : s.onPort p (fun x =>
      { x with peerSleep := if x.link = .listen then x.peerSleep else false, peerWake := 0, lastFtime := s.times.ftime }) = s.heard p := by
    simp [State.onPort, State.heard, active]
  have kind : fld u.hdr.toNat 12 3 = 0 := piggyback
  have valid : bitOf (fld u.hdr.toNat 24 40) 39 = false := by
    rw [← hold, ← bitOf_toNat, bitOf, bitOf, fld]
    congr 1
    omega
  rw [State.arriveUnit, hear]
  simp [active, good, kind, State.takePiggyback, State.carries_of_active (State.heard_link active), State.holdArrive_of_not_valid valid]

/-! ### What a unit delivers (R368; 11 R429) -/

theorem State.deliverUnit_of_data (tc : u.tc = 0) (scheduled : ¬ (p = 33 ∧ s.lockOwns = true)) :
    s.deliverUnit p u = s.landUnit p (u.hdr.toNat / 2 ^ 21 % 2) (u.hdr.getLsbD 20) u.pay := by
  simp only [State.deliverUnit, tc, if_neg scheduled, bitOf_toNat]
  rfl

theorem State.deliverUnit_of_signature (tc : u.tc = 0) (owns : s.lockOwns = true) : s.deliverUnit 33 u = s.takeSignature u.pay := by
  simp only [State.deliverUnit, tc, owns, and_self, if_true]

theorem State.deliverUnit_of_skim (tc : u.tc = 1 ∨ u.tc = 2) : s.deliverUnit p u = u.msgs.foldl (fun s m => s.msgIn p u.tc m) s := by
  obtain h | h := tc <;> simp only [State.deliverUnit, h]

theorem State.deliverUnit_of_tc3 (tc : u.tc = 3) : s.deliverUnit p u = s.tc3In p u := by
  simp only [State.deliverUnit, tc]

theorem State.tc3In_idle (kind : u.kind = 0) : s.tc3In p u = s := by simp only [State.tc3In, kind]

theorem State.tc3In_sleep (kind : u.kind = 1) : s.tc3In p u = s.setPort p { s.port p with peerSleep := true } := by
  simp only [State.tc3In, kind]; rfl

theorem State.tc3In_time (kind : u.kind = 2) : s.tc3In p u = s.recvTime p u.pay := by simp only [State.tc3In, kind]

theorem State.tc3In_delayReq (kind : u.kind = 3) : s.tc3In p u = s.recvDelayReq p u.pay := by simp only [State.tc3In, kind]

theorem State.tc3In_delayResp (kind : u.kind = 4) : s.tc3In p u = s.recvDelayResp p u.pay := by simp only [State.tc3In, kind]

theorem State.tc3In_param (kind : u.kind = 5) : s.tc3In p u = s.recvParam p u.pay := by simp only [State.tc3In, kind]

theorem State.tc3In_retrainReq (kind : u.kind = 6) : s.tc3In p u = s.recvRetrain p u.pay := by simp only [State.tc3In, kind]

theorem State.tc3In_resetReq (kind : u.kind = 7) (awake : (s.port p).link ≠ .listen) : s.tc3In p u = s.recvReset p u.pay := by
  simp only [State.tc3In, kind, if_neg awake]

end

/-- Every row of a unit that arrives has one meaning; a plain unit on an ACTIVE port leaves what its payload does, counted if it is sequenced. -/
theorem runs_plainUnit {c : Instr} {s t : State} {p : PortId} {u : RxUnit} {seq : Bool} (row : exec c s = answer s (s.arriveUnit p u))
    (active : (s.port p).link = .active) (good : u.badFormat = false) (piggyback : u.hdr.toNat / 2 ^ 12 % 8 = 0)
    (hold : u.hdr.getLsbD 63 = false) (deliver : (s.heard p).deliverUnit p u = t) (counted : decide (u.tc ≤ 2) = seq) :
    Runs c s (t.countUnit p seq) :=
  runs_of_answer row (by rw [State.arriveUnit_of_plain active good piggyback hold, deliver, counted])

/-! ### The counts of a unit that was taken (R354, R355; 04 R153) -/

/-- Waking changes only when a port sends. -/
theorem State.port_wakeIfDue {s : State} {p : Nat} (up : (s.port p).link ≠ .down) :
    ∃ asleep start, (s.wakeIfDue p).port p = { s.port p with txSleep := asleep, waking := start } := by
  unfold State.wakeIfDue State.startWake
  split_ifs
  · exact ⟨_, _, State.port_setPort_of_ne _ _ _ (PortState.ne_reset_of_link p up)⟩
  · exact ⟨_, _, rfl⟩
  · exact ⟨_, _, rfl⟩

theorem State.port_stirPort {s : State} {p : Nat} {f : PortState → PortState} (up : (f (s.port p)).link ≠ .down) :
    ∃ asleep start, ((s.stirPort p f).port p) = { f (s.port p) with txSleep := asleep, waking := start } := by
  have changed : (s.onPort p f).port p = f (s.port p) := State.port_setPort_of_ne _ _ _ (PortState.ne_reset_of_link p up)
  have wake := State.port_wakeIfDue (s := s.onPort p f) (p := p) (by rwa [changed])
  rwa [changed] at wake

/-- A port that has taken a unit: it awaits no replay, and a sequenced unit has its count, which is to be acknowledged. -/
def PortState.counted (x : PortState) (seq : Bool) : PortState :=
  { x with discarding := false, expect := x.expect + (if seq then 1 else 0), unacked := x.unacked + (if seq then 1 else 0) }

theorem State.countUnit_of_active {s : State} {p : Nat} (seq : Bool) (active : (s.port p).link = .active) :
    s.countUnit p seq = s.stirPort p (fun x => x.counted seq) := by
  rw [State.countUnit, if_neg (by simp [State.carries_of_active active])]
  congr 1
  funext x
  cases seq <;> simp [PortState.counted]

theorem State.port_countUnit {s : State} {p : Nat} (seq : Bool) (active : (s.port p).link = .active) :
    ((s.countUnit p seq).port p).discarding = false ∧ ((s.countUnit p seq).port p).expect = (s.port p).expect + (if seq then 1 else 0) ∧
      ((s.countUnit p seq).port p).unacked = (s.port p).unacked + (if seq then 1 else 0) := by
  have up : ((s.port p).counted seq).link ≠ .down := by simp [PortState.counted, active]
  obtain ⟨_, _, port⟩ := State.port_stirPort (f := fun x => x.counted seq) up
  rw [State.countUnit_of_active seq active, port]
  exact ⟨rfl, rfl, rfl⟩

theorem State.countUnit_of_down {s : State} {p : Nat} (b : Bool) (down : (s.port p).link = .down) : s.countUnit p b = s :=
  if_pos (by simp [State.carries, down])

/-! ### A message that comes alone in a unit (R368, R369) -/

theorem leBytes_length (n x : Nat) : (leBytes n x).length = n := by
  induction n generalizing x with
  | zero => rfl
  | succ n ih => simp [leBytes, ih]

/-- Bytes spell the number they were cut from, as far as they go. -/
theorem leNat_leBytes (n x : Nat) : leNat (leBytes n x) = x % 256 ^ n := by
  induction n generalizing x with
  | zero => simp [leBytes, leNat, Nat.mod_one]
  | succ n ih => rw [leBytes, leNat, ih, BitVec.toNat_ofNat, Nat.pow_succ' (m := 256), Nat.mod_mul]

theorem slice_front {l r : List Byte} {n : Nat} (h : l.length = n) : slice (l ++ r) 0 n = l := by
  subst h; exact List.take_left

theorem slice_middle {l m r : List Byte} {k n : Nat} (hl : l.length = k) (hm : m.length = n) : slice (l ++ (m ++ r)) k n = m := by
  subst hl hm; simp [slice]

/-- A message whose body is as long as its header says is read back from its bytes. -/
theorem parseMsgs_bytes {m : SkimMsg} (whole : m.body.length = 16 * m.blocks) (r : List Byte) : parseMsgs 1 (m.bytes ++ r) = [m] := by
  have hdr : leAt (m.bytes ++ r) 0 8 = m.hdr.toNat := by
    rw [leAt, SkimMsg.bytes, List.append_assoc, slice_front (leBytes_length _ _), leNat_leBytes]
    exact Nat.mod_eq_of_lt m.hdr.isLt
  have body : slice (m.bytes ++ r) 8 (16 * m.blocks) = m.body := by
    rw [SkimMsg.bytes, List.append_assoc, slice_middle (leBytes_length _ _) whole]
  rw [SkimMsg.blocks] at body
  simp [parseMsgs, hdr, body]

/-- The header of a lone message's unit names the class, and nothing else. -/
theorem loneUnit_hdr {cls : Nat} (skim : cls = 1 ∨ cls = 2) (m : SkimMsg) :
    (loneUnit cls m).tc = cls ∧ (loneUnit cls m).kind = 0 ∧ bitOf (loneUnit cls m).hdr.toNat 15 = false ∧
      fld (loneUnit cls m).hdr.toNat 12 3 = 0 ∧ fld (loneUnit cls m).hdr.toNat 20 2 = 0 ∧ (loneUnit cls m).hdr.getLsbD 63 = false := by
  have hdr : (loneUnit cls m).hdr = unitHdr cls 0 false 0 := rfl
  rw [RxUnit.tc, RxUnit.kind, hdr]
  obtain rfl | rfl := skim <;> decide

section
variable {m : SkimMsg} (whole : m.body.length = 16 * m.blocks)
include whole

/-- The payload of a lone message: no record, the count of messages, and the message, which fits. -/
theorem loneUnit_pay (cls : Nat) : ∃ r, (loneUnit cls m).pay = 0 :: 0 :: 1 :: 0 :: 0 :: 0 :: 0 :: 0 :: (m.bytes ++ r) := by
  have blocks : m.blocks < 8 := Nat.mod_lt _ (by decide)
  have size : m.bytes.length = 8 + 16 * m.blocks := by rw [SkimMsg.bytes, List.length_append, leBytes_length, whole]
  have start : leBytes 2 0 ++ leBytes 1 1 ++ zeros 5 = [0, 0, 1, 0, 0, 0, 0, 0] := by decide
  refine ⟨List.replicate (240 - (8 + m.bytes.length)) 0, ?_⟩
  rw [loneUnit, start, payload, padTo, List.take_of_length_le (by simp; omega)]
  simp
  omega

theorem loneUnit_msgs (cls : Nat) : (loneUnit cls m).msgs = [m] := by
  obtain ⟨r, pay⟩ := loneUnit_pay whole cls
  have count : leAt (loneUnit cls m).pay 2 1 = 1 := by rw [pay]; rfl
  rw [RxUnit.msgs, count, pay]
  exact parseMsgs_bytes whole r

/-- A lone message makes a good unit of its class, whatever the type: only the reserved bits of its header count. -/
theorem loneUnit_good {cls : Nat} (skim : cls = 1 ∨ cls = 2) (reserved : m.hdr.toNat % 2 ^ 13 = 0) : (loneUnit cls m).badFormat = false := by
  obtain ⟨r, pay⟩ := loneUnit_pay whole cls
  have blocks : m.blocks < 8 := Nat.mod_lt _ (by decide)
  have messages : (loneUnit cls m).badSkim = false := by
    have count : leAt (loneUnit cls m).pay 2 1 = 1 := by rw [pay]; rfl
    have zero : leAt (loneUnit cls m).pay 3 5 = 0 := by rw [pay]; rfl
    have low : fld m.hdr.toNat 0 13 = 0 := (fld_zero _ _).trans reserved
    simp [RxUnit.badSkim, count, zero, loneUnit_msgs whole, low]
    omega
  obtain ⟨tc, kind, top, piggyback, flags, _⟩ := loneUnit_hdr skim m
  have other : cls ≠ 3 := by omega
  simp [RxUnit.badFormat, top, piggyback, flags, kind, tc, other, messages]

/-- Every row of a message has one meaning: on an ACTIVE port the message enters, and the unit it came in is counted. -/
theorem runs_message {c : Instr} {s : State} {p : PortId} {cls : Nat} (row : exec c s = answer s (s.arriveUnit p (loneUnit cls m)))
    (skim : cls = 1 ∨ cls = 2) (active : (s.port p).link = .active) (reserved : m.hdr.toNat % 2 ^ 13 = 0) :
    Runs c s (((s.heard p).msgIn p cls m).countUnit p true) := by
  obtain ⟨tc, _, _, piggyback, _, hold⟩ := loneUnit_hdr skim m
  refine runs_plainUnit row active (loneUnit_good whole skim reserved) piggyback hold ?_ (by rw [tc]; simp; omega)
  rw [State.deliverUnit_of_skim (by rwa [tc]), loneUnit_msgs whole, tc]
  rfl

end

/-- Settles O35: the units by traffic class and kind, the counts, and the rows of messages by class. -/
theorem unitAndMessageRows : Obligations.UnitAndMessageRows := by
  refine ⟨fun s p u active good piggyback hold => ?units,
    fun s p b => ⟨State.port_countUnit b, State.countUnit_of_down b⟩, fun s p m active whole reserved => ?messages⟩
  case units =>
    intro heard
    have awake : (heard.port p).link ≠ .listen := fun listen => absurd ((State.heard_link active).symm.trans listen) (by decide)
    have plain {c : Instr} {t : State} (row : exec c s = answer s (s.arriveUnit p u)) {seq : Bool} (counted : decide (u.tc ≤ 2) = seq)
        (deliver : heard.deliverUnit p u = t) : Runs c s (t.countUnit p seq) :=
      runs_plainUnit row active good piggyback hold deliver counted
    refine ⟨fun tc scheduled => plain rfl (by simp [tc]) (State.deliverUnit_of_data tc scheduled), fun tc x1 owns => ?signature,
      fun tc => plain rfl (by obtain h | h := tc <;> simp [h]) (State.deliverUnit_of_skim tc), fun tc => ?tc3⟩
    case signature =>
      have row : exec (.lockstepSignature u) s = answer s (s.arriveUnit p u) := by rw [x1]; rfl
      exact plain row (by simp [tc]) (by rw [x1]; exact State.deliverUnit_of_signature tc owns)
    case tc3 =>
      have taken {c : Instr} {t : State} (row : exec c s = answer s (s.arriveUnit p u)) (deliver : heard.tc3In p u = t) :
          Runs c s (t.countUnit p false) :=
        plain row (by simp [tc]) ((State.deliverUnit_of_tc3 tc).trans deliver)
      exact ⟨fun kind => taken rfl (State.tc3In_idle kind), fun kind => taken rfl (State.tc3In_sleep kind),
        fun kind => taken rfl (State.tc3In_time kind), fun kind => taken rfl (State.tc3In_delayReq kind),
        fun kind => taken rfl (State.tc3In_delayResp kind), fun kind => taken rfl (State.tc3In_param kind),
        fun kind => taken rfl (State.tc3In_retrainReq kind), fun kind => taken rfl (State.tc3In_resetReq kind awake)⟩
  case messages =>
    have entered {c : Instr} {cls : Nat} (skim : cls = 1 ∨ cls = 2) (row : exec c s = answer s (s.arriveUnit p (loneUnit cls m))) :
        Runs c s (((s.heard p).msgIn p cls m).countUnit p true) :=
      runs_message whole row skim active reserved
    have request {c : Instr} (row : exec c s = answer s (s.arriveUnit p (loneUnit 1 m))) := entered (.inl rfl) row
    have response {c : Instr} (row : exec c s = answer s (s.arriveUnit p (loneUnit 2 m))) := entered (.inr rfl) row
    exact ⟨request rfl, request rfl, request rfl, request rfl, response rfl, response rfl, response rfl, response rfl, response rfl,
      response rfl, response rfl⟩

/-! ### A change that leaves a port as reset has it (04 R153) -/

/-- A sleeping port with a retrain to request, which is something to send. -/
def sleepingPort : PortState := { PortState.reset 0 with txSleep := true, wantRetrain := true }

/-- A state whose table of ports is not in canonical form: port 0 stands behind port 1. -/
def misordered : State := { State.reset with ports := [(1, PortState.reset 1), (0, sleepingPort)] }

/-- A default is not written before the first key, so port 0 still reads as the entry further on. -/
theorem misordered_setPort_reset : misordered.setPort 0 (PortState.reset 0) = misordered := rfl

/-- That entry sleeps and has something to send, so the change that was to leave the port awake wakes it. -/
theorem misordered_stirPort_reset : misordered.stirPort 0 (fun _ => PortState.reset 0) = misordered.startWake 0 := by
  have due : ((misordered.port 0).txSleep && (misordered.port 0).wakeNow (misordered.obj Obj.ackWakeUnits)) = true := rfl
  rw [State.stirPort, State.onPort, misordered_setPort_reset, State.wakeIfDue, if_pos due]

theorem misordered_stirPort_ne : misordered.stirPort 0 (fun _ => PortState.reset 0) ≠ misordered.setPort 0 (PortState.reset 0) := by
  rw [misordered_stirPort_reset, misordered_setPort_reset]
  have woken : ((misordered.startWake 0).port 0).txSleep = false := rfl
  have asleep : (misordered.port 0).txSleep = true := rfl
  intro same
  rw [same, asleep] at woken
  exact Bool.noConfusion woken

/-- Refutes O36 in its last clause: of every state it says that a change which leaves a port awake is only written, and it asks nothing of the
form of the table of ports. Out of canonical form a port written as reset has it can still read as another entry, and that one wakes. -/
theorem not_trainingUnitResults : ¬ Obligations.TrainingUnitResults := by
  intro h
  obtain ⟨_, _, _, _, _, _, _, _, stirred⟩ := h misordered 0 []
  exact misordered_stirPort_ne (stirred (fun _ => PortState.reset 0) rfl)

end Sys2Proof.Machine
end

section
/-! PROOFS. The sync unit's counters (O38; 10 R383, R384, R395). -/
namespace Sys2Proof.Machine
open Sys2Proof

section
variable {s : State} {c vid n : Nat} {src : SyncSrc} {new amount : Int} {echo : FaultEcho}

theorem State.applyCounter_of_neg (below : new < 0) : s.applyCounter c src vid n new amount echo = (false,
    s.syncFault c src 0x3001 src.kind vid (s.counter n).value.toNat amount (s.counter n).limit.toNat n echo) :=
  if_pos below

/-- A limit is not negative, so a result above it is not below zero. -/
theorem State.applyCounter_of_limit_lt (above : ((s.counter n).limit.toNat : Int) < new) : s.applyCounter c src vid n new amount echo = (false,
    s.syncFault c src 0x3002 src.kind vid (s.counter n).value.toNat amount (s.counter n).limit.toNat n echo) :=
  (if_neg (by omega)).trans (if_pos above)

/-- A result in range becomes the value; SENSE goes by whether that word is another one. -/
theorem State.applyCounter_of_le_limit (low : 0 ≤ new) (high : new ≤ (s.counter n).limit.toNat) :
    s.applyCounter c src vid n new amount echo = (true, ((s.setCounter n { s.counter n with
      value := BitVec.ofNat 32 new.toNat,
      sense := if BitVec.ofNat 32 new.toNat = (s.counter n).value then (s.counter n).sense else !(s.counter n).sense }).settle
        (.counter n)).bump64 (Obj.syncOps c) 1) :=
  (if_neg (Int.not_lt.2 low)).trans (if_neg (Int.not_lt.2 high))

theorem State.applyCounter_of_same (same : new = (s.counter n).value.toNat) (high : new ≤ (s.counter n).limit.toNat) :
    s.applyCounter c src vid n new amount echo =
      (true, ((s.setCounter n (s.counter n)).settle (.counter n)).bump64 (Obj.syncOps c) 1) := by
  have word : BitVec.ofNat 32 new.toNat = (s.counter n).value := by rw [same, Int.toNat_natCast, BitVec.ofNat_toNat, BitVec.setWidth_eq]
  rw [State.applyCounter_of_le_limit (same ▸ Int.natCast_nonneg _) high, word, if_pos rfl]

/-- A limit has 32 bits, so a result in range other than the value is another word. -/
theorem State.applyCounter_of_changed (low : 0 ≤ new) (high : new ≤ (s.counter n).limit.toNat) (changed : new ≠ (s.counter n).value.toNat) :
    s.applyCounter c src vid n new amount echo = (true, ((s.setCounter n { s.counter n with
      value := BitVec.ofNat 32 new.toNat, sense := !(s.counter n).sense }).settle (.counter n)).bump64 (Obj.syncOps c) 1) := by
  have word : BitVec.ofNat 32 new.toNat ≠ (s.counter n).value := by
    intro same
    have fits := (s.counter n).limit.isLt
    rw [← same, BitVec.toNat_ofNat, Nat.mod_eq_of_lt (by omega)] at changed
    omega
  rw [State.applyCounter_of_le_limit low high, if_neg word]

end

/-- Settles O38: below zero, above the limit, and within the range with the value kept or changed. -/
theorem counterRules : Obligations.CounterRules := fun _ _ _ _ _ _ _ _ =>
  ⟨State.applyCounter_of_neg, State.applyCounter_of_limit_lt, State.applyCounter_of_same, State.applyCounter_of_changed⟩

end Sys2Proof.Machine
end

section
/-! PROOFS. The host sync port, and the debugger's counter set and barrier release (O39; 10 R400-R403, R406; 11 R433). -/
namespace Sys2Proof.Machine
open Sys2Proof

/-! ### Operations of the host (R401) -/

section
variable {s : State} {c vid : Nat} {op : State → State}

theorem State.spOp_of_none (jobless : (s.ctx c).sync = .none) :
    s.spOp c vid op = { s with sync := { s.sync with nojob := true, last := BitVec.ofNat 16 stResetting } } := by
  simp only [State.spOp, jobless]

theorem State.spOp_of_frozen (frozen : (s.ctx c).sync = .frozen) : s.spOp c vid op = s.spRefused := by
  simp only [State.spOp, frozen]

theorem State.spOp_of_live (live : (s.ctx c).sync = .live) (there : ∀ n, s.resolve c vid ≠ .gone n) : s.spOp c vid op = op s := by
  cases name : s.resolve c vid with
  | gone n => exact absurd name (there n)
  | _ => simp only [State.spOp, live, name]

variable {n : Nat} (live : (s.ctx c).sync = .live)
include live

/-- The host is one of the two sources that reach the counters of other contexts. -/
theorem State.spAdd_of_counter {amount : Int} (name : s.resolve c vid = .counter n) : s.spAdd c vid amount =
    (s.applyCounter c (s.spSrc c 3) vid n ((s.counter n).value.toNat + amount) amount .none).2 := by
  rw [State.spAdd, State.spOp_of_live live (by simp [name])]
  simp [State.syncAdd, live, name, State.spSrc]

theorem State.spSet_of_counter {value : W32} (name : s.resolve c vid = .counter n) :
    s.spSet c vid value = (s.syncSet c vid (s.spSrc c 4) value).2 :=
  State.spOp_of_live live (by simp [name])

theorem State.spArrive_of_barrier (name : s.resolve c vid = .barrier n) : s.spArrive c vid = s.localArrive c n (s.spSrc c 9) := by
  rw [State.spArrive, State.spOp_of_live live (by simp [name])]
  simp only [name]

end

/-- A word cut from the bits of a number does not see what lies above them. -/
theorem ofNat_fld (n x lo : Nat) : BitVec.ofNat n (fld x lo n) = BitVec.ofNat n (x / 2 ^ lo) :=
  BitVec.eq_of_toNat_eq (by simp [fld])

section
variable {s t : State} {w : W64} (hd : s.dark = false) (hr : s.hostReady = true)
include hd hr

theorem runs_spOpAdd
    (h : s.spAdd (w.toNat / 2 ^ 16 % 16) (w.toNat % 4096) (BitVec.ofNat 32 (w.toNat / 2 ^ 32)).toInt = t) : Runs (.spOpAdd w) s t :=
  runs_byHost hd hr rfl (by rw [spVid, fld_zero, sgn_eq_toInt_ofNat, spArg, ofNat_fld]; exact h)

theorem runs_spOpSet (h : s.spSet (w.toNat / 2 ^ 16 % 16) (w.toNat % 4096) (BitVec.ofNat 32 (w.toNat / 2 ^ 32)) = t) :
    Runs (.spOpSet w) s t :=
  runs_byHost hd hr rfl (by rw [spVid, fld_zero, spArg, ofNat_fld]; exact h)

theorem runs_spOpArrive (h : s.spArrive (w.toNat / 2 ^ 16 % 16) (w.toNat % 4096) = t) : Runs (.spOpArrive w) s t :=
  runs_byHost hd hr rfl (by rw [spVid, fld_zero]; exact h)

/-- What becomes of every operation in a context becomes of each of the three. -/
theorem runs_spOps (h : ∀ op, s.spOp (w.toNat / 2 ^ 16 % 16) (w.toNat % 4096) op = t) :
    Runs (.spOpAdd w) s t ∧ Runs (.spOpSet w) s t ∧ Runs (.spOpArrive w) s t :=
  ⟨runs_spOpAdd hd hr (h _), runs_spOpSet hd hr (h _), runs_spOpArrive hd hr (h _)⟩

end

/-! ### When an answer is DONE (R390; DESIGN CHOICE, log entry 126) -/

section
variable {s : State} {t : Nat}

theorem State.spDue_of_elapsed (elapsed : t + 3 ≤ s.times.grid) : s.spDue t = (true, s) := if_pos elapsed

/-- Before its eight cycles are over an answer is DONE at a free choice. -/
theorem State.spDue_of_early (early : s.times.grid < t + 3) : ∃ b, s.spDue t = (b, { s with fresh := s.fresh + 1 }) :=
  ⟨_, if_neg (Nat.not_le.2 early)⟩

theorem State.rdSettle_of_none (idle : s.sync.rdPend = none) : s.rdSettle = s := by simp only [State.rdSettle, idle]

theorem State.rdSettle_of_due {u : State} {b : Bool} (asked : s.sync.rdPend = some t) (due : s.spDue t = (b, u)) :
    s.rdSettle = if b then { u with sync := { u.sync with rdDone := true, rdPend := none } } else u := by
  cases b <;> simp [State.rdSettle, asked, due]

theorem State.wSettle_of_none (idle : s.sync.wPend = none) : s.wSettle = s := by simp only [State.wSettle, idle]

theorem State.wSettle_of_due {u : State} {b : Bool} (asked : s.sync.wPend = some t) (due : s.spDue t = (b, u)) :
    s.wSettle = if b then { u with sync := { u.sync with wDone := true, wPend := none } } else u := by
  cases b <;> simp [State.wSettle, asked, due]

end

/-- The sync port discards a request made while one is under way (R403). -/
def State.spBusy (s : State) : State := { s with sync := { s.sync with busy := true } }

/-! ### Reads (R402) -/

section
variable {s : State} {c vid : Nat}

theorem State.spValue_of_none (jobless : (s.ctx c).sync = .none) : s.spValue c vid = (stResetting, 0, s) := if_pos jobless

theorem State.spValue_of_live {n : Nat} (live : (s.ctx c).sync = .live) (name : s.resolve c vid = .counter n) :
    s.spValue c vid = (stSuccess, (s.counter n).value, s) := by
  simp [State.spValue, live, name]

theorem State.spValue_of_frozen {n : Nat} (frozen : (s.ctx c).sync = .frozen) (name : s.resolve c vid = .counter n) :
    s.spValue c vid = (stOwnerLost, (s.counter n).value, s) := by
  simp [State.spValue, frozen, name]

theorem State.goneValue_times (s : State) (n : Nat) : (s.goneValue n).2.times = s.times := by
  unfold State.goneValue
  split <;> rfl

/-- Reading a value may take a free one, and takes no time. -/
theorem State.spValue_times (s : State) (c vid : Nat) : (s.spValue c vid).2.2.times = s.times := by
  by_cases jobless : (s.ctx c).sync = .none
  · rw [State.spValue_of_none jobless]
  · cases name : s.resolve c vid with
    | gone n => simp [State.spValue, jobless, name, State.goneValue_times]
    | _ => simp [State.spValue, jobless, name]

/-- A read has its status and value when it is asked for, and is DONE later. -/
def State.readAsked (s : State) (st : Nat) (v : W32) : State :=
  { s with sync := { s.sync with rdDone := false, rdPend := some s.times.grid, rdStatus := BitVec.ofNat 16 st, rdValue := v } }

variable {u : State} (settled : s.rdSettle = u)
include settled

theorem State.spRead_of_none {st : Nat} {v : W32} {t : State} (idle : u.sync.rdPend = none) (value : u.spValue c vid = (st, v, t)) :
    s.spRead c vid = t.readAsked st v := by
  simp [State.spRead, settled, idle, value, State.readAsked]

theorem State.spRead_asks (idle : u.sync.rdPend = none) :
    (s.spRead c vid).sync.rdDone = false ∧ (s.spRead c vid).sync.rdPend = some u.times.grid := by
  rw [State.spRead_of_none settled idle rfl, ← State.spValue_times u c vid]
  exact ⟨rfl, rfl⟩

theorem State.spRead_of_some {a : Nat} (asked : u.sync.rdPend = some a) : s.spRead c vid = u.spBusy := by
  simp [State.spRead, settled, asked, State.spBusy]

end

/-- A read asked for before the last one's eight cycles are over finds it under way, or DONE and is taken. -/
theorem State.spRead_of_early {s : State} {t : Nat} (c vid : Nat) (asked : s.sync.rdPend = some t) (early : s.times.grid < t + 3) :
    s.spRead c vid = ({ s with fresh := s.fresh + 1 } : State).spBusy ∨
      (s.spRead c vid).sync.rdDone = false ∧ (s.spRead c vid).sync.rdPend = some s.times.grid := by
  obtain ⟨done, due⟩ := State.spDue_of_early early
  have settled := State.rdSettle_of_due asked due
  cases done with
  | false => exact .inl (State.spRead_of_some settled asked)
  | true =>
    have taken := State.spRead_asks (c := c) (vid := vid) (settled.trans (if_pos rfl)) rfl
    exact .inr taken

theorem runs_spRdreq {s t : State} {r : W32} (hd : s.dark = false) (hr : s.hostReady = true)
    (h : s.spRead (r.toNat / 2 ^ 16 % 16) (r.toNat % 4096) = t) : Runs (.spRdreq r) s t :=
  runs_byHost hd hr rfl (by rw [fld_zero]; exact h)

/-- With no read under way the answer is what the vid reads. -/
theorem runs_spRdreq_of_none {s t : State} {r : W32} {st : Nat} {v : W32} (hd : s.dark = false) (hr : s.hostReady = true)
    (idle : s.sync.rdPend = none) (value : s.spValue (r.toNat / 2 ^ 16 % 16) (r.toNat % 4096) = (st, v, t)) :
    Runs (.spRdreq r) s (t.readAsked st v) :=
  runs_spRdreq hd hr (State.spRead_of_none (State.rdSettle_of_none idle) idle value)

/-! ### Watches (R402, R403) -/

section
variable {s : State} {w : W64}

theorem State.spRegister_of_none (jobless : (s.ctx (w.toNat / 2 ^ 16 % 16)).sync = .none) : s.spRegister w = (.error stResetting, s) := by
  have ctx : fld w.toNat 16 4 = w.toNat / 2 ^ 16 % 16 := rfl
  simp only [State.spRegister, ctx, jobless]

theorem State.spRegister_of_counter {n : Nat} (live : (s.ctx (w.toNat / 2 ^ 16 % 16)).sync = .live) (cond : w.toNat / 2 ^ 30 % 4 ≠ 3)
    (name : s.resolve (w.toNat / 2 ^ 16 % 16) (w.toNat % 4096) = .counter n) : s.spRegister w =
      s.registerPool (.counter n) (w.toNat / 2 ^ 16 % 16) (w.toNat % 4096) (condOf (w.toNat / 2 ^ 30 % 4))
        (BitVec.ofNat 32 (w.toNat / 2 ^ 32)) (.queue (w.toNat / 2 ^ 27 % 8)) := by
  have ctx : fld w.toNat 16 4 = w.toNat / 2 ^ 16 % 16 := rfl
  have vid : fld w.toNat 0 12 = w.toNat % 4096 := fld_zero _ _
  have fn : fld w.toNat 30 2 = w.toNat / 2 ^ 30 % 4 := rfl
  have queue : fld w.toNat 27 3 = w.toNat / 2 ^ 27 % 8 := rfl
  simp only [State.spRegister, ctx, vid, fn, queue, ofNat_fld, live, if_neg cond, name, watchOn]

/-- A registration has its handle, or the status of its refusal, when it is asked for, and is DONE later. -/
def State.watchAsked (s : State) (r : Except Nat (BitVec 16)) : State :=
  { s with sync := { s.sync with
      wDone := false, wPend := some s.times.grid
      wFail := match r with | .ok _ => false | .error _ => true
      wHandle := match r with | .ok h => h | .error st => BitVec.ofNat 16 st } }

variable {u : State} (settled : s.wSettle = u)
include settled

theorem State.spWatch_of_none {t : State} {r : Except Nat (BitVec 16)} (idle : u.sync.wPend = none) (made : u.spRegister w = (r, t)) :
    s.spWatch w = t.watchAsked r := by
  rw [State.spWatch, settled, if_neg (by simp [idle]), made]
  rfl

theorem State.spWatch_asks (idle : u.sync.wPend = none) :
    (s.spWatch w).sync.wDone = false ∧ (s.spWatch w).sync.wPend = some (s.spWatch w).times.grid := by
  rw [State.spWatch_of_none settled idle rfl]
  exact ⟨rfl, rfl⟩

theorem State.spWatch_of_some {a : Nat} (asked : u.sync.wPend = some a) : s.spWatch w = u.spBusy := by
  simp [State.spWatch, settled, asked, State.spBusy]

end

/-- A watch asked for before the last one's eight cycles are over finds it under way, or DONE and is taken. -/
theorem State.spWatch_of_early {s : State} {t : Nat} (w : W64) (asked : s.sync.wPend = some t) (early : s.times.grid < t + 3) :
    s.spWatch w = ({ s with fresh := s.fresh + 1 } : State).spBusy ∨
      (s.spWatch w).sync.wDone = false ∧ (s.spWatch w).sync.wPend = some (s.spWatch w).times.grid := by
  obtain ⟨done, due⟩ := State.spDue_of_early early
  have settled := State.wSettle_of_due asked due
  cases done with
  | false => exact .inl (State.spWatch_of_some settled asked)
  | true => exact .inr (State.spWatch_asks (settled.trans (if_pos rfl)) rfl)

/-- With no watch under way the answer is what the registration gives. -/
theorem runs_spWatch_of_none {s t : State} {w : W64} {r : Except Nat (BitVec 16)} (hd : s.dark = false) (hr : s.hostReady = true)
    (idle : s.sync.wPend = none) (made : s.spRegister w = (r, t)) : Runs (.spWatch w) s (t.watchAsked r) :=
  runs_byHost hd hr rfl (State.spWatch_of_none (State.wSettle_of_none idle) idle made)

theorem runs_spUnwatch {s : State} {r : W32} (hd : s.dark = false) (hr : s.hostReady = true) :
    Runs (.spUnwatch r) s (s.unwatch (r.toNat / 2 ^ 16 % 16) (r.setWidth 16)) :=
  runs_byHost hd hr rfl (by rw [ofNat_fld, Nat.pow_zero, Nat.div_one]; rfl)

/-! ### Debugger writes (R406; 11 R433) -/

/-- Context and vid of a debugger's word, which is the lower part of its body. -/
theorem fld_fld_debugWord (x : Nat) : fld (fld x 0 16) 12 4 = x / 2 ^ 12 % 16 ∧ fld x 0 16 % 4096 = x % 4096 := by
  simp only [fld]; omega

section
variable {s : State} {client : Byte}

theorem runs_debugSync_of_no_scope {body : W64} {b : BitVec 16} (scope : s.inScope client 1 = false) :
    Runs (.debugCounterSet client body) s (s.withStatus stToken) ∧ Runs (.debugBarrierRelease client b) s (s.withStatus stToken) := by
  have out : ¬ s.inScope client 1 = true := Bool.eq_false_iff.1 scope
  exact ⟨runs_of_answer rfl (if_neg out), runs_of_answer rfl (if_neg out)⟩

end

section
variable {s : State} {client : Byte} {body : W64} {n : Nat} {t : State} (scope : s.inScope client 1 = true)
include scope

/-- A set within the limit to another value is noted; it settles and is counted unless the owner is frozen. -/
theorem runs_debugCounterSet_of_changed (known : (s.ctx (body.toNat / 2 ^ 12 % 16)).sync ≠ .none) (zero : body.toNat / 2 ^ 16 % 2 ^ 16 = 0)
    (name : s.resolve (body.toNat / 2 ^ 12 % 16) (body.toNat % 4096) = .counter n ∨
      s.resolve (body.toNat / 2 ^ 12 % 16) (body.toNat % 4096) = .gone n ∧ (s.ctx (n / 4096)).sync = .frozen)
    (within : (BitVec.ofNat 32 (body.toNat / 2 ^ 32)).toNat ≤ (s.counter n).limit.toNat)
    (changed : BitVec.ofNat 32 (body.toNat / 2 ^ 32) ≠ (s.counter n).value)
    (set : s.setCounter n { s.counter n with value := BitVec.ofNat 32 (body.toNat / 2 ^ 32), sense := !(s.counter n).sense } = t) :
    Runs (.debugCounterSet client body) s ((if (s.ctx (n / 4096)).sync = .frozen then t else
      (t.settle (.counter n)).bump64 (Obj.syncOps (body.toNat / 2 ^ 12 % 16)) 1).noteDebug (body.toNat % 2 ^ 16) (s.counter n).value.toNat
        (BitVec.ofNat 32 (body.toNat / 2 ^ 32)).toNat client.toNat) := by
  subst set
  obtain ⟨ctx, vid⟩ := fld_fld_debugWord body.toNat
  have accepted : ¬ ((s.ctx (body.toNat / 2 ^ 12 % 16)).sync = .none ∨ fld body.toNat 16 16 ≠ 0) := by
    rintro (jobless | nonzero)
    · exact known jobless
    · exact nonzero zero
  refine runs_of_answer rfl ((if_pos scope).trans ?_)
  simp only [State.debugSet, ctx, vid, ofNat_fld, if_neg accepted]
  obtain counter | ⟨gone, frozen⟩ := name
  · simp only [counter, if_neg changed, if_neg (Nat.not_lt.2 within), fld_zero]
  · simp only [gone, if_pos frozen, if_neg changed, if_neg (Nat.not_lt.2 within), fld_zero]

theorem runs_debugCounterSet_of_limit_lt (name : s.resolve (body.toNat / 2 ^ 12 % 16) (body.toNat % 4096) = .counter n)
    (above : (s.counter n).limit.toNat < (BitVec.ofNat 32 (body.toNat / 2 ^ 32)).toNat) :
    Runs (.debugCounterSet client body) s (s.withStatus stRefused) := by
  obtain ⟨ctx, vid⟩ := fld_fld_debugWord body.toNat
  refine runs_of_answer rfl ((if_pos scope).trans ?_)
  simp only [State.debugSet, ctx, vid, ofNat_fld, name, if_pos above, ite_self]

/-- The release of a live barrier at its root. -/
theorem runs_debugBarrierRelease_of_root {b : BitVec 16} (live : (s.ctx (b.toNat / 2 ^ 12)).sync = .live)
    (name : s.resolve (b.toNat / 2 ^ 12) (b.toNat % 4096) = .barrier n) (root : (s.barrier n).root = (s.ctx (b.toNat / 2 ^ 12)).lnid) :
    Runs (.debugBarrierRelease client b) s
      ((s.rootRelease (b.toNat / 2 ^ 12) n).noteDebug b.toNat (s.barrier n).episode.toNat ((s.barrier n).episode + 1).toNat client.toNat) := by
  have ctx : fld b.toNat 12 4 = b.toNat / 2 ^ 12 := Nat.mod_eq_of_lt (by have := b.isLt; omega)
  refine runs_of_answer rfl ((if_pos scope).trans ?_)
  simp only [State.debugRelease, ctx, live, name, if_pos root, ne_eq, not_true_eq_false, if_false]

end

/-- Settles O39: the host's operations by the state of the context, its reads and watches by what is under way, and the debugger's two writes. -/
theorem hostAndDebugSync : Obligations.HostAndDebugSync := by
  refine ⟨fun s w r hd hr => ?host, fun s client body b => ?debugger⟩
  case host =>
    refine ⟨fun jobless => runs_spOps hd hr fun _ => State.spOp_of_none jobless,
      fun frozen => runs_spOps hd hr fun _ => State.spOp_of_frozen frozen,
      fun n live name => ⟨runs_spOpAdd hd hr (State.spAdd_of_counter live name), runs_spOpSet hd hr (State.spSet_of_counter live name)⟩,
      fun n live name => runs_spOpArrive hd hr (State.spArrive_of_barrier live name),
      fun idle => ⟨fun n live name => runs_spRdreq_of_none hd hr idle (State.spValue_of_live live name),
        fun n frozen name => runs_spRdreq_of_none hd hr idle (State.spValue_of_frozen frozen name),
        fun jobless => runs_spRdreq_of_none hd hr idle (State.spValue_of_none jobless)⟩,
      fun t asked early => ⟨_, runs_spRdreq hd hr rfl, State.spRead_of_early _ _ asked early⟩,
      fun idle jobless => runs_spWatch_of_none hd hr idle (State.spRegister_of_none jobless),
      fun n h t idle live cond name made => runs_spWatch_of_none hd hr idle ((State.spRegister_of_counter live cond name).trans made),
      fun t asked early => ⟨_, runs_byHost hd hr rfl rfl, State.spWatch_of_early w asked early⟩,
      fun t elapsed asked => State.rdSettle_of_due asked (State.spDue_of_elapsed elapsed),
      fun t elapsed asked => State.wSettle_of_due asked (State.spDue_of_elapsed elapsed), runs_spUnwatch hd hr⟩
  case debugger =>
    refine ⟨runs_debugSync_of_no_scope, fun n scope known zero name within changed => ⟨fun frozen => ?kept, fun live counter => ?settled⟩,
      fun n scope => runs_debugCounterSet_of_limit_lt scope, fun n scope => runs_debugBarrierRelease_of_root scope⟩
    case kept =>
      have set := runs_debugCounterSet_of_changed scope known zero (name.imp_right fun gone => ⟨gone, frozen⟩) within changed rfl
      rwa [if_pos frozen] at set
    case settled =>
      have set := runs_debugCounterSet_of_changed scope known zero (.inl counter) within changed rfl
      rwa [if_neg live] at set

end Sys2Proof.Machine
end

section
/-! PROOFS. A power fail: detection, commit, cut, and the return of the input (O43; 12 R452-R454; 15 R558). -/
namespace Sys2Proof.Machine
open Sys2Proof

section
variable {s : State} {vin iin bulk : BitVec 16} {trigger : Nat}

theorem State.powerFail_of_none (on : s.power.off = false) (quiet : s.power.fail = .none) : s.powerFail trigger vin iin bulk =
    ({ s with power := { s.power with fail := .detected } } : State).faultAll ⟨0x6001, srcPower, 0, leBytes 1 trigger ++ [0] ++
      leBytes 2 vin.toNat ++ leBytes 2 iin.toNat ++ leBytes 2 bulk.toNat ++ leBytes 2 (s.obj Obj.powerNow), false⟩ :=
  if_neg (by simp [on, quiet])

/-- A power fail is detected once. -/
theorem State.powerFail_of_failing (failing : s.power.fail ≠ .none) : s.powerFail trigger vin iin bulk = s :=
  if_pos (.inr failing)

/-- Whatever the module held before the cut, these are gone after it. -/
theorem State.powerCut_lost (s : State) : s.powerCut.sram = [] ∧ s.powerCut.dram = [] ∧ s.powerCut.vats = [] ∧ s.powerCut.ext = [] ∧
    s.powerCut.host.linkUp = false :=
  ⟨rfl, rfl, rfl, rfl, rfl⟩

theorem runs_powerFailCommitDone (detected : s.power.fail = .detected) : Runs .powerFailCommitDone s s.powerCut :=
  runs_of_answer rfl (if_pos detected)

theorem runs_powerFailCommitDone_of_not_detected (other : s.power.fail ≠ .detected) : Runs .powerFailCommitDone s s :=
  runs_of_answer rfl (if_neg other)

/-- Before the cut the module stays powered, and the restored input is logged. -/
theorem runs_inputRestored_of_detected {us : W32} (detected : s.power.fail = .detected) : Runs (.inputRestored us) s
    (({ s with power := { s.power with fail := .none } } : State).log srcPower 0x0096 (leBytes 4 us.toNat)) :=
  runs_of_answer rfl (by rw [detected])

theorem runs_inputRestored_of_committed {us : W32} (committed : s.power.fail = .committed) :
    Runs (.inputRestored us) s (s.restart 2 true) :=
  runs_of_answer rfl (by rw [committed])

theorem runs_bulkDepleted (failing : s.power.fail ≠ .none) :
    Runs .bulkDepleted s { s.restart 1 false with entry := { (s.restart 1 false).entry with switch := false } } :=
  runs_of_answer rfl (if_neg failing)

theorem runs_bulkDepleted_of_none (quiet : s.power.fail = .none) : Runs .bulkDepleted s s :=
  runs_of_answer rfl (if_pos quiet)

end

/-- Settles O43, by the stages of a power fail: none, detected, committed. -/
theorem powerFailResults : Obligations.PowerFailResults := by
  intro s vin iin bulk detail failed
  refine ⟨fun on quiet => ?first, fun detected => ?detected, s.powerCut_lost, fun committed us => runs_inputRestored_of_committed committed,
    runs_bulkDepleted, fun quiet => ⟨runs_bulkDepleted_of_none quiet, runs_powerFailCommitDone_of_not_detected (by simp [quiet])⟩⟩
  case first =>
    have fails (trigger : Nat) : s.powerFail trigger vin iin bulk = failed trigger := State.powerFail_of_none on quiet
    exact ⟨runs_of_answer rfl (fails 1), runs_of_answer rfl (fails 2), runs_of_answer rfl (fails 3)⟩
  case detected =>
    exact ⟨runs_of_answer rfl (State.powerFail_of_failing (by simp [detected])), runs_powerFailCommitDone detected,
      fun us => runs_inputRestored_of_detected detected⟩

end Sys2Proof.Machine
end

section
/-! PROOFS. Wakes, votes, OFF_REQUEST and the movement of the power domains (O44; 12 R455-R466; 13 R470; 16 R573). -/
namespace Sys2Proof.Machine
open Sys2Proof

/-! ### Wakes (R461, R466) -/

section
variable {s : State} {p : PortId}

theorem runs_wakeN (on : s.power.off = false) : Runs .wakeN s (s.wake 1) :=
  runs_of_answer rfl (if_neg (by simp [on]))

/-- In OFF the module starts as a reset does, with FABRIC and HOST in IDLE (DEDUCED, log entries 46 and 98). -/
theorem runs_wakeN_of_off (off : s.power.off = true) (closed : s.entry.switch = true) (charged : s.entry.soft = false) :
    Runs .wakeN s ({ (s.restart 1 true).setObj Obj.wakeCause 1 with power := { ((s.restart 1 true).setObj Obj.wakeCause 1).power with
      wakeHold := true, fabric := ⟨.idle, none, false⟩, host := ⟨.idle, none, false⟩,
      compute := ⟨.deep, none, false⟩, memory := ⟨.deep, none, false⟩ } } : State).settlePower :=
  runs_of_answer rfl ((if_pos off).trans (if_pos (by simp [closed, charged])))

theorem runs_wakePattern (down : isUplink p = false) (on : s.power.off = false) (lit : (s.wake 5).dark = false) :
    Runs (.wakePattern p) s ((s.wake 5).signalDetect p) :=
  runs_of_answer rfl ((if_neg (by simp [down, on])).trans (if_neg (by simp [lit])))

theorem runs_wakePattern_of_uplink (up : isUplink p = true) : Runs (.wakePattern p) s s :=
  runs_of_answer rfl (if_pos (.inl up))

theorem runs_signalDetect (lit : s.dark = false) : Runs (.signalDetect p) s ((s.wake 4).signalDetect p) :=
  runs_of_answer rfl (if_neg (by simp [lit]))

theorem State.hostIn_of_ready (ready : s.hostReady = true) : s.hostIn = s :=
  if_pos ready

theorem State.hostIn_of_not_ready (asleep : s.hostReady = false) : s.hostIn = ((s.wake 3).serve .host).answered :=
  if_neg (by simp [asleep])

theorem State.byHost_of_dark (f : State → State) (dark : s.dark = true) : s.byHost f = s :=
  if_pos dark

theorem State.byHost_of_lit (f : State → State) (lit : s.dark = false) : s.byHost f = f s.hostIn :=
  if_neg (by simp [lit])

theorem runs_pcieLinkStateExit (lit : s.dark = false) (up : s.hostIn.host.linkUp = true) :
    Runs .pcieLinkStateExit s { s.hostIn with host := { s.hostIn.host with link := .l0 } } :=
  runs_of_answer rfl ((State.byHost_of_lit _ lit).trans (if_pos up))

theorem runs_pcieLinkStateExit_of_down (lit : s.dark = false) (down : s.hostIn.host.linkUp = false) : Runs .pcieLinkStateExit s s.hostIn :=
  runs_of_answer rfl ((State.byHost_of_lit _ lit).trans (if_neg (by simp [down])))

end

/-! ### Votes and OFF_REQUEST (R457, R462) -/

section
variable {s : State} {client : Byte} {w : W32}

/-- A client's word in its slot, with the client's code in the word (R457). -/
def State.castVote (s : State) (client : Byte) (w : W32) : State :=
  let word : W32 := BitVec.ofNat 32 (w.toNat / 2 ^ 24 * 2 ^ 24 + client.toNat * 2 ^ 16 + w.toNat % 2 ^ 16)
  { s with power := { s.power with votes := Tab.set (fun _ => 0) s.power.votes (voteSlot client.toNat) word } }

section
variable (admitted : s.clientGate client = none) (served : s.served Obj.voteOwn = true)
include admitted served

theorem runs_voteOwn_of_bad (bad : voteBad w = true) : Runs (.voteOwn client w) s (s.withStatus stRefused) :=
  runs_of_answer rfl ((asClient_admitted admitted served).trans (if_pos bad))

/-- A defined word is cast; what follows goes by whether it raises a module that sleeps. -/
theorem State.writeVote_of_good (good : voteBad w = false) : s.writeVote client w =
    (if (s.castVote client w).asleep ∧ (s.castVote client w).target .fabric < 2 then (s.castVote client w).wake 6
      else (s.castVote client w).settlePower).ok :=
  (asClient_admitted admitted served).trans (if_neg (by simp [good]))

theorem runs_voteOwn (good : voteBad w = false)
    (still : (s.castVote client w).asleep = false ∨ 2 ≤ (s.castVote client w).target .fabric) :
    Runs (.voteOwn client w) s (s.castVote client w).settlePower.ok := by
  refine runs_of_answer rfl ((State.writeVote_of_good admitted served good).trans (congrArg State.ok (if_neg ?_)))
  rintro ⟨asleep, raised⟩
  obtain awake | low := still
  · simp [awake] at asleep
  · omega

/-- A vote raised in SLEEP is a wake (R466). -/
theorem runs_voteOwn_of_asleep (good : voteBad w = false) (asleep : (s.castVote client w).asleep = true)
    (raised : (s.castVote client w).target .fabric < 2) : Runs (.voteOwn client w) s ((s.castVote client w).wake 6).ok :=
  runs_of_answer rfl ((State.writeVote_of_good admitted served good).trans (congrArg State.ok (if_pos ⟨asleep, raised⟩)))

end

/-- OFF_REQUEST of a client other than the debugger, whom R462 does not name. -/
theorem runs_offRequest (admitted : s.clientGate client = none) (served : s.served Obj.offRequest = true) (other : client ≠ 0x11) :
    Runs (.offRequest client) s (if s.cannotStop then s.withStatus stHeld else s.enterOff.ok) := by
  have code : client.toNat ≠ clDebugger := fun same => other (BitVec.eq_of_toNat_eq same)
  exact runs_of_answer rfl ((if_neg code).trans (asClient_admitted admitted served))

end

/-! ### The movement of the domains (R459, R460) -/

section
variable {s : State} {d : Domain}

theorem runs_domainFall (lit : s.dark = false) (below : (s.domain d).level.code < s.target d) :
    Runs (.domainFall d) s (s.setDomain d { s.domain d with due := true }).fallAll :=
  runs_of_answer rfl ((if_neg (by simp [lit])).trans (if_pos below))

theorem runs_domainFall_of_target_le (lit : s.dark = false) (reached : s.target d ≤ (s.domain d).level.code) : Runs (.domainFall d) s s :=
  runs_of_answer rfl ((if_neg (by simp [lit])).trans (if_neg (Nat.not_lt.2 reached)))

theorem runs_domainTransitionDone (lit : s.dark = false) : Runs (.domainTransitionDone d) s (s.moved d) :=
  runs_of_answer rfl (if_neg (by simp [lit]))

theorem State.moved_of_still (still : (s.domain d).moving = none) : s.moved d = s := by
  simp only [State.moved, still]

/-- A module in DEEP, in OFF or after the power cut takes no notice of its links and moves no domain. -/
theorem runs_power_of_dark (p : PortId) (d : Domain) (dark : s.dark = true) :
    Runs (.signalDetect p) s s ∧ Runs .pcieLinkStateExit s s ∧ Runs (.domainFall d) s s ∧ Runs (.domainTransitionDone d) s s :=
  ⟨runs_of_answer rfl (if_pos dark), runs_of_answer rfl (State.byHost_of_dark _ dark), runs_of_answer rfl (if_pos dark),
    runs_of_answer rfl (if_pos dark)⟩

end

/-- Settles O44: the wakes by their source, then votes and OFF_REQUEST, then the falls and moves of a domain. -/
theorem powerStateResults : Obligations.PowerStateResults := by
  intro s p d client w
  refine ⟨runs_wakeN, runs_wakeN_of_off, runs_wakePattern, runs_wakePattern_of_uplink,
    fun lit => ⟨runs_signalDetect lit, runs_pcieLinkStateExit lit, runs_pcieLinkStateExit_of_down lit⟩,
    State.hostIn_of_ready, State.hostIn_of_not_ready, runs_power_of_dark p d, runs_of_answer rfl rfl, runs_voteOwn_of_bad,
    fun admitted served good => ⟨runs_voteOwn admitted served good, runs_voteOwn_of_asleep admitted served good⟩,
    fun admitted served other => ?off, runs_domainFall, runs_domainFall_of_target_le, fun lit still => ?still, runs_domainTransitionDone⟩
  case off =>
    have answers := runs_offRequest admitted served other
    exact ⟨fun held => by rwa [if_pos held] at answers, fun free => by rwa [if_neg (by simp [free])] at answers⟩
  case still =>
    have done := runs_domainTransitionDone (d := d) lit
    rwa [State.moved_of_still still] at done

end Sys2Proof.Machine
end

section
/-! PROOFS. The host's side of its mailboxes and doorbells, and the firmware's (O49; 13 R476-R481; 15 R562). -/
namespace Sys2Proof.Machine
open Sys2Proof

/-! ### Mailboxes (R476-R479) -/

section
variable {s : State} {m : Fin 8}

theorem State.collide_of_not_full {m : Nat} (empty : (s.mbIn m).full = false) : s.collide m = s :=
  if_neg (by simp [empty])

theorem State.collide_of_full {m : Nat} (full : (s.mbIn m).full = true) (first : (s.mbIn m).collision = false) :
    s.collide m = (s.setMbIn m { s.mbIn m with collision := true }).noteCollision m 0 (s.mbIn m).seq :=
  if_pos (by simp [full, first])

theorem runs_mbTake (runs : s.fwRuns = true) (full : (s.mbIn m).full = true) (free : (s.mbIn m).taken = none) :
    Runs (.mbTake m) s (s.setMbIn m { s.mbIn m with taken := some ((s.mbIn m).seq, (s.mbIn m).words) }) :=
  runs_of_answer rfl (if_pos (by simp [runs, full, free]))

theorem runs_mpMailboxPost {words : List W32} (runs : s.fwRuns = true) (lit : s.dark = false) :
    Runs (.mpMailboxPost m words) s (s.post m words) :=
  runs_of_answer rfl (if_pos (by simp [runs, lit]))

/-- Firmware that does not run neither takes a message nor posts one. -/
theorem runs_mailbox_of_stopped (stopped : s.fwRuns = false) :
    Runs (.mbTake m) s s ∧ ∀ words, Runs (.mpMailboxPost m words) s s :=
  ⟨runs_of_answer rfl (if_neg (by simp [stopped])), fun _ => runs_of_answer rfl (if_neg (by simp [stopped]))⟩

/-- A service code other than 1, 2 and 3 is answered with VALUE_REFUSED. -/
theorem runs_mbAcknowledge {code : BitVec 16} {k : Nat} {w : List W32} (held : (s.mbIn m).service = some (k, w)) (runs : s.fwRuns = true) :
    Runs (.mbAcknowledge m code) s (s.acknowledge m (if k = 1 ∨ k = 2 ∨ k = 3 then code.toNat else stRefused)) :=
  runs_of_answer rfl (by rw [held]; exact if_neg (by simp [runs]))

theorem State.mailHack_of_current {m : Nat} {w : W32} (current : w.toNat / 2 ^ 16 % 256 = (s.mbOut m).seq.toNat) :
    s.mailHack m w = (s.setMbOut m { s.mbOut m with full := false }).emit (.mp [BitVec.ofNat 32 (0x100 + m), w &&& 0x00FFFFFF]) :=
  if_pos current

theorem State.mailHack_of_stale {m : Nat} {w : W32} (stale : w.toNat / 2 ^ 16 % 256 ≠ (s.mbOut m).seq.toNat) :
    s.mailHack m w = s.bump32 Obj.mbStaleAcks 1 :=
  if_neg stale

end

/-! ### Doorbells to the host (R480) -/

/-- The outward bit n is set. -/
def State.withBellOut (s : State) (n : Nat) : State :=
  { s with host := { s.host with dbOut := s.host.dbOut ||| BitVec.ofNat 64 (2 ^ n) } }

/-- A bit that rises signals its vector, unless its mask bit is set. -/
theorem runs_dbOutSet {s : State} {n : Fin 64} (runs : s.fwRuns = true) (lit : s.dark = false) (low : s.host.dbOut.getLsbD n = false) :
    Runs (.dbOutSet n) s
      (if s.host.dbOutMask.getLsbD n then s.withBellOut n else (s.withBellOut n).signal (32 + n.val / 2)) := by
  refine runs_of_answer rfl ((if_neg ?rises).trans ?mask)
  case rises => simp [runs, lit, (bitOf_toNat s.host.dbOut n).trans low]
  case mask => rw [bitOf_toNat]; rfl

/-- Settles O49: the collision rule, then the host's and the firmware's commands of both mailbox directions, then the doorbells. GO, a DATA write, a
read of MB_ACK and a write of DB_IN always have one result, which is the model's; the rest turn on a lemma above. -/
theorem mailboxResults : Obligations.MailboxResults := by
  intro s m lit ready
  refine ⟨State.collide_of_not_full, State.collide_of_full, runs_byHost lit ready rfl rfl,
    fun i w => runs_byHost lit ready rfl rfl, runs_mbTake, runs_mailbox_of_stopped, fun code k w => runs_mbAcknowledge,
    runs_byHost lit ready rfl rfl, fun w current => runs_byHost lit ready rfl (State.mailHack_of_current current),
    fun w stale => runs_byHost lit ready rfl (State.mailHack_of_stale stale), fun words runs => runs_mpMailboxPost runs lit,
    fun bits => runs_byHost lit ready rfl rfl, fun n runs low masked => ?masked, fun n runs low unmasked => ?unmasked⟩
  case masked =>
    have answers := runs_dbOutSet runs lit low
    rwa [if_pos masked] at answers
  case unmasked =>
    have answers := runs_dbOutSet runs lit low
    rwa [if_neg (Bool.eq_false_iff.1 unmasked)] at answers

end Sys2Proof.Machine
end

section
/-! PROOFS. Event queues, MSI-X vectors, proxy slots, and the resets and training of the host door (O50; 13 R470-R475, R482-R486; 14 R516;
16 R574). -/
namespace Sys2Proof.Machine
open Sys2Proof

/-- In DEEP and OFF the host does not reach the module (R470). -/
theorem runs_byHost_of_dark {s : State} {c : Instr} {f : State → State} (dark : s.dark = true) (meaning : exec c s = answer s (s.byHost f)) :
    Runs c s s :=
  runs_of_answer meaning (State.byHost_of_dark f dark)

/-! ### Event queues (R482, R483) -/

section
variable {s : State} {w : W32}

/-- A write with EN to a queue whose EN is 0 and whose SIZE is in range enables it, with WIDE as written. -/
theorem State.writeEqCtrl_of_enable {q : Nat} (off : (s.eq q).ctrl.getLsbD 31 = false) (en : w.getLsbD 31 = true)
    (small : 6 ≤ (s.eq q).size.toNat % 32) (large : (s.eq q).size.toNat % 32 ≤ 16) :
    s.writeEqCtrl q w =
      (s.setEq q { s.eq q with ctrl := (w &&& 0x0000FFFF) ||| (w &&& 0x40000000) ||| 0x80000000 }).deliver 4096 q := by
  have was : bitOf (s.eq q).ctrl.toNat 31 = false := (bitOf_toNat _ _).trans off
  have enabled : bitOf w.toNat 31 = true := (bitOf_toNat _ _).trans en
  simp [State.writeEqCtrl, fld_zero, was, enabled, small, large]

theorem runs_eqCoalesceTimer {q : Fin 8} (en : (s.eq q).ctrl.getLsbD 31 = true) (coalesces : (s.eq q).ctrl.toNat % 256 ≠ 0)
    (waits : (s.eq q).unsignalled ≠ 0) :
    Runs (.eqCoalesceTimer q) s ((s.setEq q { s.eq q with unsignalled := 0 }).signal (1 + q.val)) :=
  have enabled : bitOf (s.eq q).ctrl.toNat 31 = true := (bitOf_toNat _ _).trans en
  runs_of_answer rfl (if_pos (by simp [fld_zero, enabled, coalesces, waits]))

end

/-! ### MSI-X (R475) -/

/-- Vector n is neither masked nor pending. -/
def State.unmaskedVector (s : State) (n : Nat) : State :=
  { s with host := { s.host with
    masked := s.host.masked &&& ~~~ (BitVec.ofNat 64 (2 ^ n)), pendingV := s.host.pendingV &&& ~~~ (BitVec.ofNat 64 (2 ^ n)) } }

/-- The message that waited leaves. -/
theorem State.setMask_false_of_pending {s : State} {n : Nat} (pending : s.host.pendingV.getLsbD n = true) :
    s.setMask n false = (s.unmaskedVector n).emit (.msix n) :=
  if_pos ((bitOf_toNat _ _).trans pending)

theorem State.setMask_false_of_not_pending {s : State} {n : Nat} (quiet : s.host.pendingV.getLsbD n = false) :
    s.setMask n false = s.unmaskedVector n :=
  if_neg (Bool.eq_false_iff.1 ((bitOf_toNat _ _).trans quiet))

/-- A vector that is not masked sends its message at once. -/
theorem State.signal_of_unmasked {s : State} {n : Nat} (unmasked : s.host.masked.toNat / 2 ^ n % 2 = 0) : s.signal n = s.emit (.msix n) :=
  if_neg (by simp [bitOf, unmasked])

/-! ### Proxy slots (R485, R486) -/

section
variable {s : State} {i : Nat} {w : W32}

theorem State.goProxy_of_other (idle : (s.proxy i).busy = false) (other : w.toNat % 512 ≠ s.pnid) :
    let x := { s.proxy i with ctrl := w &&& 0x0FFF01FF }
    let t := (s.setProxy i { x with busy := true }).bump64 Obj.proxyRequests 1
    s.goProxy i w = t.issueRequest (.proxy i) (t.proxyMsg x) :=
  (if_neg (by simp [idle])).trans (if_neg (by simpa [fld_zero] using other))

/-- A request to the module itself completes refused. -/
theorem State.goProxy_of_self (idle : (s.proxy i).busy = false) (own : w.toNat % 512 = s.pnid) :
    s.goProxy i w =
      (s.setProxy i { s.proxy i with ctrl := w &&& 0x0FFF01FF, done := true, status := BitVec.ofNat 16 stRefused }).signal 26 :=
  (if_neg (by simp [idle])).trans (if_pos (by simpa [fld_zero] using own))

end

/-! ### Resets and training of the door (R471; 14 R516; 16 R574) -/

section
variable {s : State}

theorem runs_doorResets (lit : s.dark = false) :
    Runs .pcieFlr s (s.resetDoor 1) ∧ Runs .pcieHotReset s (s.resetDoor 2) ∧ Runs .pcieLinkLost s (s.resetDoor 3) :=
  have acts {t : State} : (if s.dark then s else t) = t := if_neg (by simp [lit])
  ⟨runs_of_answer rfl acts, runs_of_answer rfl acts, runs_of_answer rfl acts⟩

theorem runs_doorResets_of_dark (dark : s.dark = true) : Runs .pcieFlr s s ∧ Runs .pcieHotReset s s ∧ Runs .pcieLinkLost s s :=
  ⟨runs_of_answer rfl (if_pos dark), runs_of_answer rfl (if_pos dark), runs_of_answer rfl (if_pos dark)⟩

/-- The fall of PERST_N resets the door as a hot reset does. -/
theorem runs_perstN_of_fall (lit : s.dark = false) (high : s.host.perst = false) :
    Runs (.perstN true) s (({ s with host := { s.host with perst := true } } : State).resetDoor 2) :=
  runs_of_answer rfl (if_pos (by simp [lit, high]))

theorem runs_perstN_of_rise : Runs (.perstN false) s { s with host := { s.host with perst := false } } :=
  runs_of_answer rfl (if_neg (by simp))

theorem runs_pcieLinkTrained {width : Byte} {gen : BitVec 4} (lit : s.dark = false) (high : s.host.perst = false) :
    Runs (.pcieLinkTrained width gen) s (s.linkTrained width gen) :=
  runs_of_answer rfl (if_neg (by simp [lit, high]))

/-- The link does not train while PERST_N is low. -/
theorem runs_pcieLinkTrained_of_perst {width : Byte} {gen : BitVec 4} (low : s.host.perst = true) : Runs (.pcieLinkTrained width gen) s s :=
  runs_of_answer rfl (if_pos (by simp [low]))

end

/-- Settles O50: the commands of the host at a module that it reaches, the same at a dark one, then the resets and the training of its link. -/
theorem hostDoorResults : Obligations.HostDoorResults := by
  intro s
  refine ⟨fun lit ready => ⟨fun q w => runs_byHost lit ready rfl rfl,
      fun q w off en small large => runs_byHost lit ready rfl (State.writeEqCtrl_of_enable off en small large), fun q => runs_eqCoalesceTimer,
      fun n => ⟨fun pending => runs_byHost lit ready rfl (State.setMask_false_of_pending pending),
        fun quiet => runs_byHost lit ready rfl (State.setMask_false_of_not_pending quiet)⟩,
      fun n => State.signal_of_unmasked, fun i w idle other => runs_byHost lit ready rfl (State.goProxy_of_other idle other),
      fun i w idle own => runs_byHost lit ready rfl (State.goProxy_of_self idle own)⟩,
    fun dark => ?dark, runs_doorResets, runs_doorResets_of_dark, runs_perstN_of_fall, runs_perstN_of_rise,
    fun width gen => runs_pcieLinkTrained, fun width gen => runs_pcieLinkTrained_of_perst⟩
  case dark =>
    exact ⟨fun q w => ⟨runs_byHost_of_dark dark rfl, runs_byHost_of_dark dark rfl⟩, fun n => runs_byHost_of_dark dark rfl,
      fun i w => runs_byHost_of_dark dark rfl⟩

end Sys2Proof.Machine
end

section
/-! PROOFS. The 36 V entry and the reference clock (O45; 16 R568, R579-R583), and a step against the front of the queue (O55). -/
namespace Sys2Proof.Machine
open Sys2Proof

/-! ### The input switch and the soft start (16 R568, R581, R583) -/

section
variable {s : State}

theorem runs_inputSwitchClose (mated : s.entry.mate = true) (opened : s.entry.switch = false) :
    Runs .inputSwitchClose s { s with entry := { s.entry with switch := true, soft := true } } :=
  runs_of_answer rfl (if_pos (by simp [mated, opened]))

theorem runs_inputSwitchClose_of_unmated (unmated : s.entry.mate = false) : Runs .inputSwitchClose s s :=
  runs_of_answer rfl (if_neg (by simp [unmated]))

theorem runs_softStartDone (soft : s.entry.soft = true) (on : s.power.off = false) :
    Runs .softStartDone s { s with entry := { s.entry with soft := false } } :=
  runs_of_answer rfl ((if_pos soft).trans (if_neg (by simp [on])))

/-- A module that was in OFF restarts with cause 1 (DEDUCED, log entry 120). -/
theorem runs_softStartDone_of_off (soft : s.entry.soft = true) (off : s.power.off = true) :
    Runs .softStartDone s (({ s with entry := { s.entry with soft := false } } : State).restart 1 true) :=
  runs_of_answer rfl ((if_pos soft).trans (if_pos off))

/-- The trigger of an over-voltage is 2 or 3, as a free bit has it (DESIGN CHOICE, log entry 3). -/
theorem overVoltage_trigger (bit : BitVec 1) : 2 + bit.toNat ∈ [2, 3] := by
  have one : bit.toNat < 2 := bit.isLt
  simp only [List.mem_cons, List.not_mem_nil, or_false]
  omega

end

/-! ### The reference (16 R579, R580) -/

section
variable {s : State} {ppb : W32} {p : Nat}

theorem runs_frefLost_of_lost (lost : s.entry.fref = false) : Runs (.frefLost ppb) s s :=
  runs_of_answer rfl (if_pos (by simp [lost]))

theorem runs_frefLost (valid : s.entry.fref = true) (lit : s.dark = false) : Runs (.frefLost ppb) s (s.loseFref ppb) :=
  runs_of_answer rfl ((if_neg (by simp [valid])).trans (if_neg (by simp [lit])))

/-- With a designated link the synthesiser fails over to it. -/
theorem State.loseFref_of_designated (link : s.designated = some p) : s.loseFref ppb =
    ({ s with entry := { s.entry with fref := false, ppb := ppb, failover := some p, pending := true } } : State).referenceLost 1 p := by
  simp only [State.loseFref, link, Option.isSome_some]

/-- Without one it is in holdover. -/
theorem State.loseFref_of_not_designated (alone : s.designated = none) : s.loseFref ppb =
    ({ s with entry := { s.entry with fref := false, ppb := ppb, failover := none, pending := false } } : State).referenceLost 2 0xFF := by
  simp only [State.loseFref, alone, Option.isSome_none]

/-- The lock keeps the link the loss failed over to, and takes the designated one where there was none. -/
theorem runs_frefFailoverLock (lost : s.entry.fref = false) (lit : s.dark = false) (link : s.designated = some p)
    (pending : s.entry.pending = true) : Runs .frefFailoverLock s
      { s with entry := { s.entry with failover := some (s.entry.failover.getD p), pending := false, barred := false } } :=
  runs_of_answer rfl ((if_neg (by simp [lost, lit])).trans (by rw [link]; exact if_pos (by simp [pending])))

end

/-- Settles O45: the entry's switch and its soft start, then the reference with and without a designated link. -/
theorem entryResults : Obligations.EntryResults := by
  intro s vin iin bulk ppb e
  refine ⟨runs_of_answer rfl rfl, runs_of_answer rfl rfl, runs_inputSwitchClose, runs_inputSwitchClose_of_unmated, runs_softStartDone,
    runs_softStartDone_of_off, ⟨_, overVoltage_trigger (s.takeFree 1).1, runs_of_answer rfl rfl⟩, runs_frefLost_of_lost,
    fun p valid lit link => ?failover, fun valid lit alone => ?holdover, fun p => runs_frefFailoverLock, runs_of_answer rfl rfl⟩
  case failover => exact State.loseFref_of_designated link ▸ runs_frefLost valid lit
  case holdover => exact State.loseFref_of_not_designated alone ▸ runs_frefLost valid lit

/-- Settles O55: the queue of each of the two states is the one that the step looks at. -/
theorem stepRunsFront : Obligations.StepRunsFront :=
  fun _ _ _ => ⟨step_of_cons rfl, step_of_empty rfl⟩

end Sys2Proof.Machine
end

section
/-! PROOFS. What logging an event leaves alone of the boot unit, reset release, the boot ROM, starting images and module reset (O51; 15 R532-R545). -/
namespace Sys2Proof.Machine
open Sys2Proof

/-! ### Logging leaves the boot unit alone (11 R418-R421, R589; 13 R482, R483) -/

section
variable (s : State)

@[simp] theorem State.signal_boot (n : Nat) : (s.signal n).boot = s.boot := by
  unfold State.signal
  split <;> rfl

@[simp] theorem State.hostFails_boot (n : Nat) : (s.hostFails n).2.boot = s.boot := by
  unfold State.hostFails
  dsimp only
  split <;> rfl

@[simp] theorem State.lose_boot (e : Event) : (s.lose e).2.boot = s.boot := by
  unfold State.lose
  dsimp only
  split
  · rfl
  · split <;> rfl

/-- Whether the ring is full or not, a record enters the event unit alone; a lost one may announce another. -/
@[simp] theorem State.enter_boot (n : Nat) (src code : Nat) (detail : List Byte) (queue : Option Nat) :
    (State.enter n s src code detail queue).boot = s.boot := by
  induction n generalizing s src code detail queue with
  | zero => rfl
  | succ n ih =>
    have dropped : ((if s.events.ring.length < 4096 then s
        else { s with events := { s.events with ring := s.events.ring.drop 1 } } : State).appendEvent src code detail queue).2.boot = s.boot := by
      split <;> rfl
    unfold State.enter
    dsimp only
    split
    case h_1 => exact dropped
    case h_2 o _ =>
      split
      case isTrue => exact dropped
      case isFalse =>
        split
        case h_1 lost => exact (congrArg (fun r => r.2.boot) lost).symm.trans ((State.lose_boot _ o).trans dropped)
        case h_2 lost => exact (ih _ _ _ _ _).trans ((congrArg (fun r => r.2.boot) lost).symm.trans ((State.lose_boot _ o).trans dropped))

@[simp] theorem State.taken_boot (src : BitVec 16) (seq : W32) : (s.taken src seq).boot = s.boot := by
  unfold State.taken
  dsimp only
  split
  · rfl
  · exact State.enter_boot _ _ _ _ _ _

@[simp] theorem State.eqWrite_boot (q : Nat) (rec : List Byte) (pnid : Nat) : (s.eqWrite q rec pnid).2.boot = s.boot := by
  unfold State.eqWrite
  dsimp only
  split
  case h_1 fails => exact (congrArg (fun r => r.2.boot) fails).symm.trans (State.hostFails_boot s _)
  case h_2 passes =>
    have same := (congrArg (fun r => r.2.boot) passes).symm.trans (State.hostFails_boot s _)
    dsimp only
    split
    · exact (State.signal_boot _ _).trans same
    · exact same

@[simp] theorem State.deliver_boot (n q : Nat) : (State.deliver n s q).boot = s.boot := by
  induction n generalizing s with
  | zero => rfl
  | succ n ih =>
    unfold State.deliver
    split
    case isFalse => rfl
    case isTrue =>
      split
      case h_1 => rfl
      case h_2 e _ =>
        split
        case h_1 written =>
          exact (ih _).trans ((State.taken_boot _ _ _).trans ((congrArg (fun r => r.2.boot) written).symm.trans (State.eqWrite_boot s _ _ _)))
        case h_2 failed =>
          exact (State.enter_boot _ _ _ _ _ _).trans ((congrArg (fun r => r.2.boot) failed).symm.trans (State.eqWrite_boot s _ _ _))

@[simp] theorem State.deliverAll_boot : s.deliverAll.boot = s.boot :=
  List.foldlRecOn (motive := fun t => t.boot = s.boot) _ _ rfl (fun t same q _ => (State.deliver_boot t 4096 q).trans same)

@[simp] theorem State.log_boot (src code : Nat) (detail : List Byte) : (s.log src code detail).boot = s.boot := by
  simp only [State.log, State.logTo, State.deliverAll_boot, State.enter_boot]

/-- A session that a module reset closes is logged; the records of the configuration store are those before it. -/
theorem State.restart_records (cause : Nat) (on : Bool) : (s.restart cause on).boot.records = s.boot.records := by
  unfold State.restart
  dsimp only
  split
  · exact congrArg BootUnit.records (State.log_boot _ _ _ _)
  · rfl

end

/-! ### The ROM and the push window (R535-R537, R540) -/

section
variable {s : State}

theorem runs_resetRelease {samples : List (BitVec 9)} {fref : Bool} (held : s.boot.mp = .off) (released : s.entry.released = true)
    (closed : s.entry.switch = true) (charged : s.entry.soft = false) (on : s.power.off = false) :
    Runs (.resetRelease samples fref) s (s.bootRom samples fref) :=
  runs_of_answer rfl (if_pos (by simp [held, released, closed, charged, on]))

theorem runs_resetRelease_of_running {samples : List (BitVec 9)} {fref : Bool} (running : s.boot.mp = .running) :
    Runs (.resetRelease samples fref) s s :=
  runs_of_answer rfl (if_neg (by simp [running]))

theorem runs_norVerifyDone {b : Bool} (rom : s.boot.mp = .rom b) (unverified : s.boot.norOk = none) : Runs .norVerifyDone s s.norVerified :=
  runs_of_answer rfl (by rw [rom]; exact if_pos (by simp [unverified]))

theorem runs_norVerifyDone_of_running (running : s.boot.mp = .running) : Runs .norVerifyDone s s :=
  runs_of_answer rfl (by rw [running])

theorem State.endWindow_of_running (running : s.boot.mp = .running) : s.endWindow = s := by
  simp only [State.endWindow, running]

/-- With no push begun the NOR copy starts, if it verified. -/
theorem State.endWindow_of_verified {b : Bool} (rom : s.boot.mp = .rom b) (unpushed : s.boot.pushed = false)
    (verified : s.boot.norOk = some true) : s.endWindow = s.startImage 3 s.norBytes := by
  simp [State.endWindow, rom, unpushed, verified]

/-- A push that has begun goes on after the window. -/
theorem State.endWindow_of_pushed {b : Bool} (rom : s.boot.mp = .rom b) (pushed : s.boot.pushed = true) :
    s.endWindow = { s with boot := { s.boot with mp := .rom false } } := by
  simp [State.endWindow, rom, pushed]

end

/-! ### Watchdogs, running firmware and MODULE_RESET (R540, R543, R545) -/

section
variable {s : State}

theorem runs_bootWatchdog (starts : s.boot.mp = .starting ∨ s.boot.mp = .restarting) : Runs .bootWatchdog s (s.restart 4 true) :=
  runs_of_answer rfl (if_pos starts)

theorem runs_bootWatchdog_of_running (running : s.boot.mp = .running) : Runs .bootWatchdog s s :=
  runs_of_answer rfl (if_neg (by simp [running]))

theorem runs_firmwareReportsRunning {identity : IdentityOutcome} (starts : s.boot.mp = .starting ∨ s.boot.mp = .restarting) :
    Runs (.firmwareReportsRunning identity) s (s.firmwareUp identity) :=
  runs_of_answer rfl (if_pos starts)

theorem State.restartMp_of_runs (runs : s.fwRuns = true) : s.restartMp = s.restartInto s.boot.source s.boot.image :=
  if_pos runs

section
variable {client : Byte} (admitted : s.clientGate client = none) (served : s.served Obj.moduleReset = true)
include admitted served

theorem runs_moduleReset_of_claimed (claimed : s.cannotStop = true) : Runs (.moduleReset client) s (s.withStatus stHeld) :=
  runs_of_answer rfl ((asClient_admitted admitted served).trans (if_pos claimed))

theorem runs_moduleReset (free : s.cannotStop = false) : Runs (.moduleReset client) s ((s.sendFlags 2).restart 3 true).ok :=
  runs_of_answer rfl ((asClient_admitted admitted served).trans (if_neg (by simp [free])))

end

end

/-- Settles O51: the ROM by the state of the MP, the window by whether a push has begun, then the watchdogs and what a restart keeps and loses. -/
theorem bootResults : Obligations.BootResults := by
  intro s client
  exact ⟨fun samples fref => runs_resetRelease, fun samples fref => runs_resetRelease_of_running, fun b => runs_norVerifyDone,
    fun running => ⟨runs_norVerifyDone_of_running running, runs_of_answer rfl (State.endWindow_of_running running)⟩,
    fun b rom unpushed verified => runs_of_answer rfl (State.endWindow_of_verified rom unpushed verified),
    fun b rom pushed => runs_of_answer rfl (State.endWindow_of_pushed rom pushed),
    fun starts => ⟨runs_bootWatchdog starts, fun id => runs_firmwareReportsRunning starts⟩, runs_bootWatchdog_of_running,
    fun runs => runs_of_answer rfl (State.restartMp_of_runs runs),
    fun admitted served => ⟨runs_moduleReset_of_claimed admitted served, runs_moduleReset admitted served⟩,
    fun cause on => ⟨rfl, rfl, rfl, rfl, rfl, rfl, s.restart_records cause on, rfl, rfl⟩⟩

end Sys2Proof.Machine
end

section
/-! PROOFS. The staging buffer and the rollback floor (O52; 15 R541-R543, R546). -/
namespace Sys2Proof.Machine
open Sys2Proof

/-- The staging buffer is free or the client's own (R542). -/
def State.mayStageImage (s : State) (client : Byte) : Prop := s.boot.owner = 0xFF ∨ s.boot.owner = client

section
variable {s : State} {client : Byte} (admitted : s.clientGate client = none)

theorem State.not_held_of_mayStageImage (own : s.mayStageImage client) : ¬ (s.boot.owner ≠ 0xFF ∧ s.boot.owner ≠ client) :=
  fun ⟨claimed, other⟩ => own.elim claimed other

/-! ### FW_IMAGE (R541, R542) -/

section
variable (served : s.served Obj.fwImage = true) {off : Nat} {data : List Byte}
include admitted served

theorem runs_fwImage_of_long (long : 4194304 < off + data.length) : Runs (.fwImage client off data) s (s.withStatus stRefused) :=
  runs_of_answer rfl ((asClient_admitted admitted served).trans (if_pos long))

/-- Outside the ROM a write into a buffer that is neither being verified nor programmed is kept, and begins a new image unless one is LOADING. -/
theorem runs_fwImage_of_running (own : s.mayStageImage client) (fits : off + data.length ≤ 4194304) (running : s.boot.mp = .running)
    (unverifying : s.boot.fw ≠ .verifying) (unprogramming : s.boot.fw ≠ .programming) : Runs (.fwImage client off data) s
      ({ s with boot := { s.boot with
        fw := .loading, owner := client,
        staged := Tab.write (fun _ => 0) (if s.boot.fw != .loading then [] else s.boot.staged) off data,
        stagedLen := max (if s.boot.fw != .loading then 0 else s.boot.stagedLen) (off + data.length) } } : State).ok := by
  refine runs_of_answer rfl ((asClient_admitted admitted served).trans ?_)
  dsimp only
  rw [if_neg (Nat.not_lt.2 fits), if_neg (State.not_held_of_mayStageImage own), if_neg (by simp [unverifying, unprogramming]), running,
    Bool.or_false]

theorem runs_fwImage_of_loading (own : s.mayStageImage client) (fits : off + data.length ≤ 4194304) (loading : s.boot.fw = .loading)
    (running : s.boot.mp = .running) : Runs (.fwImage client off data) s ({ s with boot := { s.boot with
      owner := client, staged := Tab.write (fun _ => 0) s.boot.staged off data,
      stagedLen := max s.boot.stagedLen (off + data.length) } } : State).ok := by
  have answers := runs_fwImage_of_running admitted served own fits running (by simp [loading]) (by simp [loading])
  simpa [loading] using answers

theorem runs_fwImage_of_empty (own : s.mayStageImage client) (fits : off + data.length ≤ 4194304) (empty : s.boot.fw = .empty)
    (running : s.boot.mp = .running) : Runs (.fwImage client off data) s ({ s with boot := { s.boot with
      fw := .loading, owner := client, staged := Tab.write (fun _ => 0) [] off data, stagedLen := off + data.length } } : State).ok := by
  have answers := runs_fwImage_of_running admitted served own fits running (by simp [empty]) (by simp [empty])
  simpa [empty] using answers

end

/-! ### FW_CTRL (R542, R543) -/

section
variable (served : s.served Obj.fwCtrl = true) (own : s.mayStageImage client)
include admitted served own

/-- A write of FW_CTRL by the buffer's owner, or while it is free, has its effect. -/
theorem State.asStager_admitted (f : State → State) : s.asStager client f = f s :=
  (asClient_admitted admitted served).trans (if_neg (State.not_held_of_mayStageImage own))

theorem runs_fwVerify (loading : s.boot.fw = .loading) :
    Runs (.fwVerify client) s ({ s with boot := { s.boot with fw := .verifying } } : State).ok :=
  runs_of_answer rfl ((State.asStager_admitted admitted served own _).trans (if_pos loading))

theorem runs_fwVerify_of_not_loading (other : s.boot.fw ≠ .loading) : Runs (.fwVerify client) s (s.withStatus stWrongState) :=
  runs_of_answer rfl ((State.asStager_admitted admitted served own _).trans (if_neg other))

theorem runs_fwActivate (verified : s.boot.fw = .verified) (runs : s.fwRuns = true) :
    Runs (.fwActivate client) s (s.releaseStage.restartInto 4 s.stagedImage).ok :=
  runs_of_answer rfl ((State.asStager_admitted admitted served own _).trans (if_pos ⟨verified, runs⟩))

theorem runs_fwProgram (verified : s.boot.fw = .verified) : Runs (.fwProgram client) s
    ({ s with boot := { s.boot with fw := .programming }, power := { s.power with busyMp := true } } : State).settlePower.ok :=
  runs_of_answer rfl ((State.asStager_admitted admitted served own _).trans (if_pos verified))

/-- CLEAR opens a further push window where the ROM runs (DEDUCED, log entry 52). -/
theorem runs_fwClear (unverifying : s.boot.fw ≠ .verifying) (unprogramming : s.boot.fw ≠ .programming) :
    Runs (.fwClear client) s ((s.logStage 5 0 client).releaseStage).reopenWindow.ok :=
  runs_of_answer rfl ((State.asStager_admitted admitted served own _).trans (if_neg (by simp [unverifying, unprogramming])))

theorem runs_fwBootNor {w : Bool} (rom : s.boot.mp = .rom w) : Runs (.fwBootNor client) s s.endWindow.ok :=
  runs_of_answer rfl ((State.asStager_admitted admitted served own _).trans (by rw [rom]))

theorem runs_fwBootNor_of_running (running : s.boot.mp = .running) : Runs (.fwBootNor client) s (s.withStatus stWrongState) :=
  runs_of_answer rfl ((State.asStager_admitted admitted served own _).trans (by rw [running]))

end

/-! ### ROLLBACK_FLOOR (R546) -/

section
variable (served : s.served Obj.rollbackFloor = true) {v : W32}
include admitted served

/-- A floor below the one in force, or above the running image's SVN, is refused. -/
theorem runs_rollbackFloor_of_out_of_range (out : v.toNat < s.obj Obj.rollbackFloor ∨ s.runningSvn < v.toNat) :
    Runs (.rollbackFloor client v) s (s.withStatus stRefused) :=
  runs_of_answer rfl ((asClient_admitted admitted served).trans (if_pos out))

theorem runs_rollbackFloor_of_raised (above : s.obj Obj.rollbackFloor < v.toNat) (within : v.toNat ≤ s.runningSvn)
    (stored : (s.commitScalar Obj.rollbackFloor client v.toNat).succeeded = true) : Runs (.rollbackFloor client v) s
      ((s.commitScalar Obj.rollbackFloor client v.toNat).log srcMp 0x00C2
        (leBytes 4 (s.obj Obj.rollbackFloor) ++ leBytes 4 v.toNat ++ leBytes 1 client.toNat)) :=
  runs_of_answer rfl ((asClient_admitted admitted served).trans ((if_neg (by omega)).trans (if_pos ⟨stored, above⟩)))

end

end

/-! ### What completes without a client (R542, R543) -/

section
variable {s : State}

/-- After 60 s without a write the buffer is given up (DEDUCED, log entry 52). -/
theorem runs_fwIdleTimeout (loading : s.boot.fw = .loading) : Runs .fwIdleTimeout s s.releaseStage.reopenWindow :=
  runs_of_answer rfl (if_pos loading)

theorem runs_fwVerifyDone (verifying : s.boot.fw = .verifying) : Runs .fwVerifyDone s s.fwVerified :=
  runs_of_answer rfl (if_pos verifying)

theorem runs_fwProgramDone {readBack : Bool} (programming : s.boot.fw = .programming) :
    Runs (.fwProgramDone readBack) s (s.fwProgrammed readBack) :=
  runs_of_answer rfl (if_pos programming)

end

/-- Settles O52: writes of the image, then the commands of FW_CTRL by the state of the buffer, then the floor. -/
theorem stagingResults : Obligations.StagingResults := by
  intro s client admitted ctrl image floor own
  exact ⟨fun off data fits loading running => runs_fwImage_of_loading admitted image own fits loading running,
    fun off data fits empty running => runs_fwImage_of_empty admitted image own fits empty running,
    fun off data => runs_fwImage_of_long admitted image,
    fun loading => ⟨runs_fwVerify admitted ctrl own loading, runs_fwIdleTimeout loading⟩,
    fun verifying => ⟨runs_fwVerifyDone verifying, runs_fwVerify_of_not_loading admitted ctrl own (by simp [verifying])⟩,
    runs_fwActivate admitted ctrl own, runs_fwProgram admitted ctrl own, fun readBack => runs_fwProgramDone,
    runs_fwClear admitted ctrl own, fun w => runs_fwBootNor admitted ctrl own, runs_fwBootNor_of_running admitted ctrl own,
    fun v => runs_rollbackFloor_of_out_of_range admitted floor,
    fun v above within => runs_rollbackFloor_of_raised admitted floor above within⟩

end Sys2Proof.Machine
end

section
/-! PROOFS. The firmware's services, attestation and debug sessions (O53; 14 R516; 15 R550-R562). -/
namespace Sys2Proof.Machine
open Sys2Proof

/-! ### Services (R557, R562) -/

section
variable {s : State} {m : Fin 8} {w : List W32}

theorem runs_echoService (echo : (s.mbIn m).service = some (1, w)) (runs : s.fwRuns = true) :
    Runs (.echoService m) s ((s.post m w).acknowledge m stSuccess) :=
  runs_of_answer rfl (by rw [echo]; exact if_pos runs)

theorem runs_restartMp (restart : (s.mbIn m).service = some (2, w)) (runs : s.fwRuns = true) (idle : s.boot.fw ≠ .programming) :
    Runs (.restartMp m) s (s.acknowledge m stSuccess).restartMp :=
  runs_of_answer rfl (by rw [restart]; exact (if_neg (by simp [runs])).trans (if_neg idle))

theorem runs_restartMp_of_programming (restart : (s.mbIn m).service = some (2, w)) (runs : s.fwRuns = true)
    (programming : s.boot.fw = .programming) : Runs (.restartMp m) s (s.acknowledge m 0x8001) :=
  runs_of_answer rfl (by rw [restart]; exact (if_neg (by simp [runs])).trans (if_pos programming))

section
variable {bad : Nat} (compact : (s.mbIn m).service = some (3, w)) (runs : s.fwRuns = true)
include compact runs

theorem runs_configCompact (powered : s.power.fail = .none) : Runs (.configCompact m bad) s
    ((s.compact bad).acknowledge m (if (s.compact bad).boot.failed then 0x8002 else stSuccess)) :=
  runs_of_answer rfl (by rw [compact]; exact (if_neg (by simp [runs])).trans (if_neg (by simp [powered])))

/-- A power fail starts no compaction (R558). -/
theorem runs_configCompact_of_failing (failing : s.power.fail ≠ .none) : Runs (.configCompact m bad) s (s.acknowledge m stResetting) :=
  runs_of_answer rfl (by rw [compact]; exact (if_neg (by simp [runs])).trans (if_pos failing))

end

end

/-! ### Attestation (R550, R551) -/

section
variable {s : State} {client : Byte}

theorem runs_csCompact {bad : Nat} (admitted : s.clientGate client = none) (served : s.served Obj.csCompact = true)
    (powered : s.power.fail = .none) : Runs (.csCompact client bad) s (s.compact bad).ok :=
  runs_of_answer rfl ((asClient_admitted admitted served).trans (if_pos powered))

/-- The chassis manager has its code to itself. -/
theorem toNat_ne_clChassis (other : client ≠ 0x12) : client.toNat ≠ clChassis :=
  fun same => other (BitVec.eq_of_toNat_eq same)

/-- A nonce has taken the attestation unit; the evidence is that at the nonce (DEDUCED, log entry 53). -/
def State.attesting (s : State) (data : List Byte) : State :=
  { s with boot := { s.boot with nonce := data, attBusy := true, attReady := false, evidence := s.evidence data } }

theorem runs_attestNonce {data : List Byte} (other : client ≠ 0x12) (admitted : s.clientGate client = none)
    (served : s.served Obj.attestNonce = true) (whole : data.length = 32) (idle : s.boot.attBusy = false)
    (ready : s.boot.identity = some .ready) : Runs (.attestNonce client data) s
      ((s.attesting data).log srcMp 0x00C6
        (data.take 4 ++ leBytes 1 client.toNat ++ leBytes 1 (popCount 16 (s.obj Obj.attestCtx)))).ok := by
  refine runs_of_answer rfl ((if_neg (toNat_ne_clChassis other)).trans ((asClient_admitted admitted served).trans ?_))
  rw [if_neg (by simp [whole]), if_neg (by simp [idle]), if_neg (by simp [ready])]
  rfl

theorem runs_attestDone (busy : s.boot.attBusy = true) : Runs .attestDone s
    { s with
      boot := { s.boot with
        attBusy := false, attReady := true, evidence := s.boot.evidence ++ padTo 17088 (Config.slhDsaSign s.boot.evidence s.host.draws) }
      host := { s.host with draws := s.host.draws + 1 } } :=
  runs_of_answer rfl (if_pos busy)

/-! ### Debug sessions (14 R516; 15 R559-R561) -/

/-- A client other than the debugger delivers no token (DEDUCED, log entry 54). -/
theorem runs_debugToken_of_other {off : Nat} {data : List Byte} (other : client ≠ 0x11) :
    Runs (.debugToken client off data) s (s.withStatus stDenied) :=
  runs_of_answer rfl (if_neg (fun same => other (BitVec.eq_of_toNat_eq same)))

/-- A part before the token's last byte is only held. -/
theorem runs_debugToken_of_part {off : Nat} {data : List Byte} (debugger : client = 0x11) (served : s.served Obj.debugToken = true)
    (part : off + data.length < 7952) : Runs (.debugToken client off data) s
      ({ s with host := { s.host with token := Tab.write (fun _ => 0) s.host.token off data } } : State).ok := by
  subst debugger
  refine runs_of_answer rfl ((if_pos rfl).trans ?_)
  simp only [State.writeToken, served, Bool.not_true, Bool.false_eq_true, if_false]
  rw [if_neg (by omega), if_neg (by omega)]
  simp only [Nat.zero_mul, Nat.zero_add]

theorem runs_tokenLockoutEnd (locked : s.host.lockout = true) :
    Runs .tokenLockoutEnd s { s with host := { s.host with lockout := false, refusals := 0 } } :=
  runs_of_answer rfl (if_pos locked)

theorem runs_debugClose (other : client ≠ 0x12) (admitted : s.clientGate client = none) (served : s.served Obj.debugClose = true) :
    Runs (.debugClose client) s (s.closeSession 2).ok :=
  runs_of_answer rfl ((if_neg (toNat_ne_clChassis other)).trans (asClient_admitted admitted served))

/-- At its expiry a session's remaining time is zero. -/
theorem runs_debugSessionExpiry {x : Session} (opened : s.host.session = some x) (now : s.times.atime = x.expiry) :
    Runs .debugSessionExpiry s (s.closeSession 3) := by
  have due : 0 ≤ sgn 48 (wrap 48 ((s.times.atime.toNat : Int) - x.expiry.toNat)) := by rw [now, Int.sub_self]; decide
  exact runs_of_answer rfl (by rw [opened]; exact if_pos due)

theorem runs_debugSessionExpiry_of_none (closed : s.host.session = none) : Runs .debugSessionExpiry s s :=
  runs_of_answer rfl (by rw [closed])

end

/-- Settles O53: the mailbox's services by their code, then attestation, then tokens and the debug session. -/
theorem serviceAndDebugResults : Obligations.ServiceAndDebugResults := by
  intro s m client
  exact ⟨fun w => runs_echoService, fun w => runs_restartMp, fun w => runs_restartMp_of_programming,
    fun w bad compact => runs_configCompact compact, fun bad => runs_csCompact, fun data => runs_attestNonce, runs_attestDone,
    fun off data => runs_debugToken_of_other, fun off data => runs_debugToken_of_part, runs_tokenLockoutEnd, runs_debugClose,
    fun x => runs_debugSessionExpiry, fun w bad compact => runs_configCompact_of_failing compact, runs_debugSessionExpiry_of_none⟩

end Sys2Proof.Machine
end

section
/-! PROOFS. The dictionary engine, owner fields, and settings with rows of their own (O48; 11 R422; 13 R487, R490; 14 R498-R519). -/
namespace Sys2Proof.Machine
open Sys2Proof

/-! ### Engine slots (R508, R512-R514) -/

section
variable {s : State} {i : Fin 8} {cmd : W32}

theorem State.goSlot_of_busy {i : Nat} {dma : List Byte} (busy : (s.engine i).busy = true) : s.goSlot i cmd dma = s :=
  if_pos busy

/-- GO starts a request in a slot that is idle. -/
theorem State.goSlot_of_idle {i : Nat} {dma : List Byte} (idle : (s.engine i).busy = false) :
    s.goSlot i cmd dma = (s.setEngine i { s.engine i with cmd := cmd &&& 0x0F030001 }).runSlot i dma :=
  if_neg (by simp [idle])

/-- GO in a busy slot is discarded, whether the module is dark or not. -/
theorem runs_dictRead_of_busy (busy : (s.engine i).busy = true) (ready : s.hostReady = true) : Runs (.dictRead i cmd) s s := by
  cases dark : s.dark with
  | true => exact runs_byHost_of_dark dark rfl
  | false => exact runs_byHost dark ready rfl (State.goSlot_of_busy busy)

theorem runs_domainChunk (busy : (s.engine i).busy = true) : Runs (.domainChunk i) s (s.chunk i) :=
  runs_of_answer rfl (if_pos busy)

end

/-! ### RESTORE_DEFAULTS and EVENT_RESUME (R504; 11 R422) -/

section
variable {s : State} {client : Byte} (admitted : s.clientGate client = none) (served : s.served Obj.restoreDefaults = true)
include admitted served

theorem runs_restoreDefaults_of_busy (busy : s.anyBusy = true) : Runs (.restoreDefaults client) s (s.withStatus stWrongState) :=
  runs_of_answer rfl ((asClient_admitted admitted served).trans (if_pos busy))

/-- The persistent objects that do not hold their defaults (R504). -/
def State.changedObjects (s : State) : List (Nat × ObjRow) := restorable.filter (fun e => s.objBytes e.1 e.2 != defaultBytes e.1 e.2)

/-- Each of them takes its default, in the store too. -/
def State.restoreObjects (s : State) : State :=
  s.changedObjects.foldl (fun s e => (s.setBytes e.1 e.2 (defaultBytes e.1 e.2)).csWrite e.1 (defaultBytes e.1 e.2)) s

theorem runs_restoreDefaults (idle : s.anyBusy = false) (powered : s.power.fail = .none) (stores : s.boot.failed = false) :
    Runs (.restoreDefaults client) s (s.restoreObjects.settleX.settleIslands.settlePower.log (srcOf client) 0x00B4
      (leBytes 1 client.toNat ++ [0, 0, 0] ++ leBytes 2 s.changedObjects.length)).ok := by
  refine runs_of_answer rfl ((asClient_admitted admitted served).trans ?_)
  dsimp only
  rw [if_neg (by simp [idle]), if_neg (by simp [powered]), if_neg (by simp [stores])]
  rfl

end

section
variable {s : State} {data : List Byte}

theorem runs_eventResume (short : data.length ≤ 393216) (whole : data.length % 6 = 0) : Runs (.eventResume data) s (s.eventResume data).ok :=
  runs_of_answer rfl (if_neg (by omega))

theorem runs_eventResume_of_bad (bad : 393216 < data.length ∨ data.length % 6 ≠ 0) :
    Runs (.eventResume data) s (s.withStatus stRefused) :=
  runs_of_answer rfl (if_pos bad)

end

/-! ### Owner fields (R502) -/

/-- A group and a row of which a byte may be written by any client, whatever job runs and whatever the byte is. -/
structure OpenByte (g : ObjGroup) (sub : Nat) (r : ObjRow) : Prop where
  type : r.type = .u8
  access : r.access = .rw
  size : r.size = 1
  base : g.base = 0x3110 ∨ g.base = 0x3120 ∨ (g.base = 0x6000 ∧ 0x28 ≤ sub)

/-- The owner fields are those of the compare units, of the pins and of the retention ranges. -/
theorem isOwnerField_cases {ix sub : Nat} (small : sub < 256) (owner : isOwnerField (256 * ix + sub) = true) :
    (0x3110 ≤ ix ∧ ix ≤ 0x311F ∧ sub = 1) ∨ (ix = 0x3120 ∧ 1 ≤ sub ∧ sub ≤ 6) ∨ (ix = 0x6000 ∧ 0x28 ≤ sub ∧ sub ≤ 0x2F) := by
  simp only [isOwnerField, Bool.or_eq_true, Bool.and_eq_true, decide_eq_true_eq, beq_iff_eq] at owner
  omega

/-- The dictionary defines every owner field, as such a byte. -/
theorem ownerField_defined {ix sub : Nat} (small : sub < 256) (owner : isOwnerField (256 * ix + sub) = true) :
    ∃ g r, objGroup ix = some g ∧ objFind ix sub = some r ∧ OpenByte g sub r := by
  obtain ⟨low, high, rfl⟩ | ⟨rfl, low, high⟩ | ⟨rfl, low, high⟩ := isOwnerField_cases small owner
  · interval_cases ix <;> exact ⟨_, _, rfl, rfl, rfl, rfl, rfl, .inl rfl⟩
  · interval_cases sub <;> exact ⟨_, _, rfl, rfl, rfl, rfl, rfl, .inr (.inl rfl)⟩
  · interval_cases sub <;> exact ⟨_, _, rfl, rfl, rfl, rfl, rfl, .inr (.inr ⟨rfl, low⟩)⟩

section
variable {s : State} {g : ObjGroup} {r : ObjRow} {sub : Nat} (row : OpenByte g sub r)
include row

/-- No table gives a range for the byte. -/
theorem OpenByte.rangeOk_eq (c v : Nat) : s.rangeOk g.base c sub v = true := by
  obtain base | base | ⟨base, high⟩ := row.base
  · rw [base]; rfl
  · rw [base]; rfl
  · have above : ¬ sub ≤ 0x27 := by omega
    simp [base, State.rangeOk, above]

theorem OpenByte.valueBad_eq {key : Nat} (here : key % 256 = sub) (data : List Byte) : s.valueBad g key r data = false := by
  subst here
  simp only [State.valueBad, row.type, row.rangeOk_eq, Bool.not_true]

/-- The byte is in no table bank, no stream bank and no retention range. -/
theorem OpenByte.bankClosed_eq (client : Byte) (off len : Nat) : s.bankClosed client g.base sub off len = false := by
  obtain base | base | ⟨base, high⟩ := row.base
  · rw [base]; rfl
  · rw [base]; rfl
  · have above : ¬ sub ≤ 0x16 := by omega
    have beyond : ¬ sub ≤ 0x27 := by omega
    simp [base, State.bankClosed, above, beyond]

theorem OpenByte.shapeBad_eq : shapeBad r 0 1 = false := by
  simp [shapeBad, row.type, row.size]

theorem OpenByte.stateBad_eq (key : Nat) : s.stateBad g key r = false := by
  simp [State.stateBad, row.access]

end

section
variable {s : State} {ix sub : Nat}

/-- An owner field is in a block that the hardware serves, whatever the MP does. -/
theorem State.served_of_ownerField (small : sub < 256) (owner : isOwnerField (256 * ix + sub) = true) : s.served (256 * ix + sub) = true := by
  have block : ix = 0x3120 ∨ ix = 0x6000 ∨ (0x3110 ≤ ix ∧ ix ≤ 0x311F) := by
    obtain _ | _ | _ := isOwnerField_cases small owner <;> omega
  have index : (256 * ix + sub) / 256 = ix := by omega
  have hardware : mpServed (256 * ix + sub) = false := by
    simp only [mpServed, index, Bool.or_eq_false_iff, Bool.and_eq_false_iff, beq_eq_false_iff_ne, decide_eq_false_iff_not,
      Obj.restoreDefaults, Obj.bootCount]
    omega
  simp [State.served, hardware]

/-- No owner field is a debug object (R503). -/
theorem debugBit_of_ownerField (small : sub < 256) (owner : isOwnerField (256 * ix + sub) = true) : debugBit (256 * ix + sub) = none := by
  have cases := isOwnerField_cases small owner
  exact (if_neg (by omega)).trans (if_neg (by simp only [Obj.debugCounterSet, Obj.debugBarrierRelease]; omega))

/-- A byte written into an owner field through an admitted door reaches it. -/
theorem State.writeObj_of_ownerField {d : Door} {value : Byte} (small : sub < 256) (owner : isOwnerField (256 * ix + sub) = true)
    (admitted : s.doorGate d false = none) : s.writeObj d ix sub 0 [value] = s.writeOwner d.client (256 * ix + sub) value.toNat := by
  obtain ⟨g, r, group, found, row⟩ := ownerField_defined small owner
  have here : (256 * ix + sub) % 256 = sub := by omega
  have noToken : 256 * ix + sub ≠ Obj.debugToken := by
    have cases := isOwnerField_cases small owner
    simp only [Obj.debugToken]
    omega
  have gate : s.writeGate d ix sub 0 1 [value] = .ok (g, r) := by
    simp [State.writeGate, noToken, beq_false_of_ne noToken, admitted, group, found, debugBit_of_ownerField small owner, row.access, Access.noWrite, canWritable, owner,
      State.served_of_ownerField small owner, row.stateBad_eq, row.shapeBad_eq, row.valueBad_eq here, row.bankClosed_eq]
  simp [State.writeObj, gate, State.applyWrite, owner, leNat]

theorem runs_ownerWrite {ix : BitVec 16} {sub client value : Byte} {t : State} (owner : isOwnerField (256 * ix.toNat + sub.toNat) = true)
    (admitted : s.doorGate { hostDoor with client := client } false = none)
    (written : s.writeOwner client (256 * ix.toNat + sub.toNat) value.toNat = t) : Runs (.ownerWrite ix sub client value) s t :=
  runs_of_answer rfl ((State.writeObj_of_ownerField sub.isLt owner admitted).trans written)

end

/-! ### Owner fields by the rules of R502, in their order -/

section
variable {s : State} {client : Byte} {key v : Nat}

theorem State.writeOwner_of_undefined (high : 23 ≤ v) (code : v ≠ clNone) : s.writeOwner client key v = s.withStatus stRefused :=
  if_pos ⟨high, code⟩

theorem State.writeOwner_of_other (low : v < 23) (other : v ≠ client.toNat) : s.writeOwner client key v = s.withStatus stDenied :=
  (if_neg (by omega)).trans (if_pos (.inl ⟨by simp only [clNone]; omega, other⟩))

theorem State.writeOwner_of_held (own : v = client.toNat) (low : client.toNat < 23) (claimed : s.obj key ≠ clNone)
    (other : s.obj key ≠ client.toNat) : s.writeOwner client key v = s.withStatus stHeld := by
  have code : v ≠ clNone := by simp only [clNone]; omega
  exact (if_neg (by omega)).trans ((if_neg (by simp [own, own ▸ code])).trans (if_pos ⟨code, claimed, other⟩))

theorem State.writeOwner_of_free (own : v = client.toNat) (low : client.toNat < 23) (free : s.obj key = clNone ∨ s.obj key = client.toNat) :
    s.writeOwner client key v = (s.setObj key client.toNat).ok := by
  subst own
  have code : client.toNat ≠ clNone := by simp only [clNone]; omega
  exact (if_neg (by omega)).trans ((if_neg (by simp [code])).trans (if_neg (fun ⟨_, claimed, other⟩ => free.elim claimed other)))

theorem State.writeOwner_none_of_own (none : v = clNone) (own : s.obj key = client.toNat) :
    s.writeOwner client key v = (s.setObj key clNone).ok := by
  simp [State.writeOwner, none, own]

theorem State.writeOwner_none_of_other (none : v = clNone) (other : s.obj key ≠ client.toNat) :
    s.writeOwner client key v = s.withStatus stDenied := by
  simp [State.writeOwner, none, other]

end

/-! ### PROXY_HOME and X_FUNCTION (13 R487, R489, R490) -/

section
variable {s : State} {v : Nat} {client : Byte}

theorem State.writeHome_of_bad (bad : pnidOrNone v = false) : s.writeHome client v = s.withStatus stRefused :=
  if_pos (by simp [bad])

/-- Nothing host-bound leaves after the write, until EVENT_RESUME. -/
theorem State.writeHome_of_succeeded (good : pnidOrNone v = true) (stored : (s.commitScalar Obj.proxyHome client v).succeeded = true) :
    let t := s.commitScalar Obj.proxyHome client v
    s.writeHome client v = ({ t with events := { t.events with mute := true } } : State).log srcHost 0x00A4
      (leBytes 2 (s.obj Obj.proxyHome) ++ leBytes 2 v) :=
  (if_neg (by simp [good])).trans (if_pos stored)

theorem State.writeHome_of_failed (good : pnidOrNone v = true) (failed : (s.commitScalar Obj.proxyHome client v).succeeded = false) :
    s.writeHome client v = s.commitScalar Obj.proxyHome client v :=
  (if_neg (by simp [good])).trans (if_neg (by simp [failed]))

/-- A client may claim X port i: it holds it, or nobody does, for the schedule either (DEDUCED, log entry 119). -/
def State.xClaimable (s : State) (i code : Nat) : Prop :=
  s.obj (Obj.xOwner i) = code ∨ (s.obj (Obj.xOwner i) = clNone ∧ s.obj (Obj.schedOwner (32 + i)) = clNone)

/-- The client code that a function of an X port claims it for. -/
def functionCode (v : Nat) : Nat := if v = 1 then clStorage else clBridge

theorem State.writeFunction_zero {i : Nat} (stored : (s.commitScalar (Obj.xFunction i) client 0).succeeded = true) :
    s.writeFunction client i 0 = (s.commitScalar (Obj.xFunction i) client 0).settleX.settlePower := by
  simp [State.writeFunction, stored]

theorem State.writeFunction_of_claimable {i : Nat} (claim : v ≠ 0) (free : s.xClaimable i (functionCode v))
    (stored : (s.commitScalar (Obj.xFunction i) client v).succeeded = true) :
    s.writeFunction client i v = ((s.commitScalar (Obj.xFunction i) client v).setObj (Obj.xOwner i) (functionCode v)).settlePower := by
  refine (if_neg ?_).trans ((if_neg (by simp [stored])).trans (congrArg State.settlePower (if_neg claim)))
  rintro ⟨-, other, held⟩
  obtain own | ⟨unclaimed, unscheduled⟩ := free
  · exact other own
  · exact held.elim (· unclaimed) (· unscheduled)

theorem State.writeFunction_of_held {i : Nat} (claim : v ≠ 0) (held : ¬ s.xClaimable i (functionCode v)) :
    s.writeFunction client i v = s.withStatus stHeld := by
  obtain ⟨other, taken⟩ := not_or.1 held
  exact if_pos ⟨claim, other, not_and_or.1 taken⟩

end

/-- Settles O48: the engine's slots, RESTORE_DEFAULTS and EVENT_RESUME, then owner fields by the value written, then the two settings. -/
theorem dictionaryResults : Obligations.DictionaryResults := by
  intro s i cmd client go
  refine ⟨fun lit ready idle => ?go, fun busy => ⟨runs_domainChunk busy, runs_dictRead_of_busy busy⟩,
    fun admitted served => ⟨runs_restoreDefaults_of_busy admitted served, runs_restoreDefaults admitted served⟩,
    fun data => runs_eventResume, fun data => runs_eventResume_of_bad, fun ix sub value owner admitted => ?owner,
    fun v bad => runs_of_answer rfl (State.writeHome_of_bad bad),
    fun v good => ⟨fun stored => runs_of_answer rfl (State.writeHome_of_succeeded good stored),
      fun failed => runs_of_answer rfl (State.writeHome_of_failed good failed)⟩, fun x => ?function⟩
  case go =>
    have starts (op : Nat) (dma : List Byte) : s.goSlot i (withOp cmd op) dma = go op dma := State.goSlot_of_idle idle
    exact ⟨runs_byHost lit ready rfl (starts 1 []), fun dma => runs_byHost lit ready rfl (starts 2 dma), runs_byHost lit ready rfl (starts 3 []),
      runs_byHost lit ready rfl (starts 4 [])⟩
  case owner =>
    have answers {t : State} := runs_ownerWrite (client := client) (value := value) (t := t) owner admitted
    have number {c : Byte} (same : value = c) : value.toNat = c.toNat := congrArg BitVec.toNat same
    exact ⟨fun own free low => answers (State.writeOwner_of_free (number own) low free),
      fun none own => answers (State.writeOwner_none_of_own (number none) own),
      fun high code => answers (State.writeOwner_of_undefined high (fun same => code (BitVec.eq_of_toNat_eq same))),
      fun low other => answers (State.writeOwner_of_other low (fun same => other (BitVec.eq_of_toNat_eq same))),
      fun none other => answers (State.writeOwner_none_of_other (number none) other),
      fun own low claimed other => answers (State.writeOwner_of_held (number own) low claimed other)⟩
  case function =>
    exact ⟨fun stored => runs_of_answer rfl (State.writeFunction_zero stored),
      fun claim stored => runs_of_answer rfl (State.writeFunction_of_claimable (v := 1) (by decide) claim stored),
      fun claim stored => runs_of_answer rfl (State.writeFunction_of_claimable (v := 2) (by decide) claim stored),
      fun held => runs_of_answer rfl (State.writeFunction_of_held (v := 1) (by decide) held),
      fun held => runs_of_answer rfl (State.writeFunction_of_held (v := 2) (by decide) held)⟩

end Sys2Proof.Machine
end

section
/-! PROOFS. The management door: frames, segmented transfers, the heartbeat and bus-off (O54; 14 R520-R529). -/
namespace Sys2Proof.Machine
open Sys2Proof

/-! ### Frames (R520, R522, R529) -/

/-- A module that a frame wakes, and that has counted it. -/
def State.heardFrame (s : State) : State := (s.wake 2).bump64 Obj.canFramesRx 1

/-- The door takes a frame: it is open, enabled and on the bus, and the module has power. -/
structure State.HearsFrames (s : State) : Prop where
  opened : s.can.isOpen = true
  onBus : s.can.busOff = false
  powered : s.power.off = false
  uncut : s.power.fail ≠ .committed
  enabled : s.obj Obj.canEnable = 1

section
variable {s : State} {f : State → State}

theorem State.onFrame_of_hears (hears : s.HearsFrames) : s.onFrame f = (f s.heardFrame).busErrors := by
  obtain ⟨opened, onBus, powered, uncut, enabled⟩ := hears
  exact if_neg (by simp [opened, onBus, powered, uncut, enabled])

theorem State.onFrame_of_closed (closed : s.can.isOpen = false) : s.onFrame f = s :=
  if_pos (by simp [closed])

theorem State.onFrame_of_busOff (off : s.can.busOff = true) : s.onFrame f = s :=
  if_pos (by simp [off])

/-- A frame whose CMD a rule defines has the CMD of its row. -/
theorem rowFrame_of_defined {cmd : Byte} {f : List Byte} (low : 1 ≤ leAt f 0 1) (high : leAt f 0 1 ≤ 7) :
    rowFrame cmd f = cmd :: f.drop 1 :=
  if_pos ⟨low, high⟩

/-- A request frame is served with the CMD of its row, whichever row it is. -/
theorem runs_canRequest {c : Instr} {b : Bool} {cmd : Byte} {f : List Byte} (hears : s.HearsFrames) (low : 1 ≤ leAt f 0 1)
    (high : leAt f 0 1 ≤ 7) (meaning : exec c s = answer s (s.onFrame (fun s => s.canRequest b (rowFrame cmd f)))) :
    Runs c s (s.heardFrame.canRequest b (cmd :: f.drop 1)).busErrors :=
  runs_of_answer meaning (by rw [State.onFrame_of_hears hears, rowFrame_of_defined low high])

end

/-! ### Transfers (R524, R525) -/

section
variable {s : State} {x : CanXfer} {f : List Byte}

section
variable (hears : s.HearsFrames) (opened : s.heardFrame.can.xfer = some x) (own : leAt f 1 1 = x.tid.toNat)
include hears opened own

theorem runs_segment (write : x.write = true) : Runs (.segment f) s (s.heardFrame.takeSegment x f).busErrors := by
  refine runs_of_answer rfl ((State.onFrame_of_hears hears).trans (congrArg State.busErrors ?_))
  rw [opened]
  exact if_pos (by simp [write, own])

theorem runs_blockAck (read : x.write = false) : Runs (.blockAck f) s (s.heardFrame.takeAck x f).busErrors := by
  refine runs_of_answer rfl ((State.onFrame_of_hears hears).trans (congrArg State.busErrors ?_))
  rw [opened]
  exact if_pos (by simp [read, own])

theorem runs_abort : Runs (.abort f) s (s.heardFrame.dropXfer x (leAt f 2 2) 1).busErrors := by
  refine runs_of_answer rfl ((State.onFrame_of_hears hears).trans (congrArg State.busErrors ?_))
  rw [opened]
  exact if_pos (by simp [own])

end

theorem runs_canSegTimeout (opened : s.can.xfer = some x) (lit : s.dark = false) : Runs .canSegTimeout s (s.segTimeout x) :=
  runs_of_answer rfl (by rw [opened]; exact if_neg (by simp [lit]))

theorem runs_canSegTimeout_of_none (none : s.can.xfer = none) : Runs .canSegTimeout s s :=
  runs_of_answer rfl (by rw [none])

end

/-! ### The heartbeat and bus-off (R520, R527) -/

section
variable {s : State}

theorem State.beat_of_closed (closed : s.can.isOpen = false) : s.beat = s :=
  if_pos (by simp [closed])

/-- A heartbeat goes out, is counted, and takes the class 2 faults since the last one with it. -/
theorem runs_heartbeat (lit : s.dark = false) (opened : s.can.isOpen = true) (enabled : s.obj Obj.canEnable = 1)
    (periodic : s.obj Obj.heartbeatPeriod ≠ 0) :
    let t := s.sendCan (0x600 + s.pnid) s.heartbeat
    Runs .heartbeat s ({ t with can := { t.can with beats := t.can.beats + 1, class2 := false } } : State).busErrors :=
  runs_of_answer rfl ((if_neg (by simp [lit])).trans (if_neg (by simp [opened, enabled, periodic])))

theorem runs_heartbeat_of_closed (closed : s.can.isOpen = false) : Runs .heartbeat s s :=
  runs_of_answer rfl ((congrArg (ite _ s) (State.beat_of_closed closed)).trans (ite_self s))

/-- That recovery begins, and the error-active state it leads to, are logged (R533; DESIGN CHOICE, log entry 62). -/
theorem runs_canBusOffRecovery (lit : s.dark = false) (opened : s.can.isOpen = true) (off : s.can.busOff = true) :
    Runs .canBusOffRecovery s
      ((({ s with can := { s.can with busOff := false, tec := 0, rec_ := 0 } } : State).log srcCan 0x00B2 [3, 0, 0]).log srcCan 0x00B2 [0, 0, 0]) :=
  runs_of_answer rfl (if_neg (by simp [lit, opened, off]))

/-- A door that is closed, or that the bus has not shut out, does not recover. -/
theorem runs_canBusOffRecovery_of_idle (idle : s.can.isOpen = false ∨ s.can.busOff = false) : Runs .canBusOffRecovery s s := by
  refine runs_of_answer rfl (if_pos ?_)
  obtain closed | onBus := idle
  · simp [closed]
  · simp [onBus]

/-- A closed door takes no frame, sends no heartbeat and does not recover. -/
theorem runs_can_of_closed (b : Bool) (f : List Byte) (closed : s.can.isOpen = false) :
    Runs (.canRead b f) s s ∧ Runs (.canWrite b f) s s ∧ Runs (.canDesc b f) s s ∧ Runs (.canNext b f) s s ∧ Runs (.segment f) s s ∧
      Runs (.blockAck f) s s ∧ Runs (.abort f) s s ∧ Runs .heartbeat s s ∧ Runs .canBusOffRecovery s s := by
  have deaf (g : State → State) : s.onFrame g = s := State.onFrame_of_closed closed
  exact ⟨runs_of_answer rfl (deaf _), runs_of_answer rfl (deaf _), runs_of_answer rfl (deaf _), runs_of_answer rfl (deaf _),
    runs_of_answer rfl (deaf _), runs_of_answer rfl (deaf _), runs_of_answer rfl (deaf _), runs_heartbeat_of_closed closed,
    runs_canBusOffRecovery_of_idle (.inl closed)⟩

end

/-- Settles O54: a closed door, the frames and transfers of an open one, then timeouts, the heartbeat and bus-off. -/
theorem canResults : Obligations.CanResults := by
  intro s b f heard
  refine ⟨runs_can_of_closed b f, fun opened onBus powered uncut enabled => ?frames, fun x => runs_canSegTimeout, runs_canSegTimeout_of_none,
    runs_heartbeat, fun off => runs_of_answer rfl (State.onFrame_of_busOff off), fun onBus => runs_canBusOffRecovery_of_idle (.inr onBus),
    runs_canBusOffRecovery⟩
  case frames =>
    have hears : s.HearsFrames := ⟨opened, onBus, powered, uncut, enabled⟩
    exact ⟨fun cmd => runs_canRequest hears (by omega) (by omega) rfl, fun cmd => runs_canRequest hears (by omega) (by omega) rfl,
      fun cmd => runs_canRequest hears (by omega) (by omega) rfl, fun cmd => runs_canRequest hears (by omega) (by omega) rfl,
      fun x moving own => ⟨runs_segment hears moving own, runs_blockAck hears moving own, runs_abort hears moving own⟩⟩

end Sys2Proof.Machine
end
